-- ==== Sys2Proof/Syntax.lean ====
section
/-! DEFINITION. The commands of the block, one constructor per row of spec/opcode_table.json, and the data they carry. -/
namespace Sys2Proof

/-- Where a life-cycle transition, a zeroisation, a staging or an activation is cut short (17 R392, 18 R426), and where the read-back of a
programmed OTP word fails (17 R387). -/
inductive Cut where
  /-- With the zeroisation marker committed, before the zeroisation has ended; in a staging, with the bank partly programmed. -/
  | early
  /-- After so many fields and words of the OTP have been programmed, the next one torn or not begun. -/
  | programming (done : Nat) (torn : Bool)
  /-- The read-back of the word after so many fails; the operation completes with the failure. -/
  | readBack (done : Nat)
  /-- Before the last commit: the marker's, or that of the verified set. -/
  | late
  deriving DecidableEq, Repr

/-- What reaches an operation from outside at its stage-5 step (01 R503): the bytes its host reads deliver, the failures those
reads meet, and what happens to the custody memory it commits to.  Bytes a list lacks were not delivered in time and are poison
(15 R333). -/
structure OpInput where
  /-- The main input, where IN_REF names host memory. -/
  inp : Bytes
  /-- The auxiliary input, where AUX_REF names host memory. -/
  aux : Bytes
  /-- The expected values, where EXPECT_REF names host memory. -/
  exp : Bytes
  /-- The main input as its second read delivers it (09 R194). -/
  again : Bytes
  /-- Poisoned data was consumed (03 R500). -/
  poison : Bool
  /-- A read completed with UR or CA. -/
  dma : Bool
  /-- A translation failed. -/
  xlat : Bool
  /-- Poisoned data was fetched but not consumed (03 R66). -/
  poisonSeen : Bool
  /-- The key material read from the arena held an uncorrectable error (12 R268). -/
  keyFault : Bool
  /-- The same of the material of KEY_B's slot. -/
  keyFaultB : Bool
  /-- An uncorrectable block of the hypertree cache was consumed (06 R125): in the key's top entry. -/
  badTop : Bool
  /-- The same in the pinned tree the signature needs. -/
  badTree : Bool
  /-- What the unit's check of its own result finds (09 R184): 0 it passes, 1 it fails and the repeat gives the same result, 2 the repeat
  gives another. -/
  selfCheck : Nat
  /-- A record or word written to MRAM or OTP could be committed. -/
  commitOk : Bool
  /-- UPDATE_STAGE: the flash is erased and programmed; UPDATE_ACTIVATE: it reads back as it was staged. -/
  flashOk : Bool
  /-- ENGINE_REINIT: the units whose self-test fails, as 16 R366 numbers them. -/
  fails : List Nat
  /-- LC_TRANSITION: VDD_OTP is at or above 1.71 V. -/
  vddOtp : Bool
  /-- LC_TRANSITION, ZEROISE, UPDATE_STAGE: where it is cut short, if it is. -/
  cut : Option Cut
  /-- UPDATE_ACTIVATE: the cores hand over in time (18 R422). -/
  handover : Bool
  deriving DecidableEq, Repr

/-- What the active set reports (05 R105, R106; 08 R178; 18): FN-DSA revision and whether it takes a context, the HQC revision and its
lengths (public key, ciphertext, private key, shared secret) for HQC-128, -192 and -256. -/
structure EngineInfo where
  fndsaSpec : Nat
  fndsaCtx : Bool
  hqcSpec : Nat
  hqcLens : List (Nat × Nat × Nat × Nat)
  deriving DecidableEq, Repr

/-- One capsule record (18 R405). -/
inductive CapRec where
  | reg (off mask value : Nat)
  | cal (item : Nat) (delta : Int)
  | inst0 (reserve limit share : Nat)
  deriving DecidableEq, Repr

/-- What a set's manifest and parts say that reaches State (18 R400, R404, R410): its identifier, version, flags, who signed its
capsule, the capsule's identifier and records, each class's PATCH_REV, what the set's engines report, and its part digests as
FX_BOOT_MEAS compares them (10 R220). -/
structure SetInfo where
  setId : Nat
  svn : Nat
  raiseFloor : Bool
  ownerSigned : Bool
  capsuleId : Nat
  records : List CapRec
  patchRevs : List Nat
  engines : EngineInfo
  /-- The SHA-512 and SHA3-512 digests its manifest names for its four parts (R400). -/
  digests : List (Bytes × Bytes)
  deriving DecidableEq, Repr

/-- What BOOT finds (18 R413): the tests, the flash and the firmware it starts. -/
structure BootInput where
  /-- OTP fields whose two reads differ, by byte offset (17 R380), and fields with a word that reads as uncorrectable (R379). -/
  otpMargin : List Nat
  otpBad : List Nat
  /-- Checkers that fail the start-up test (15 R337). -/
  checkers : List Nat
  /-- The 1,024 samples of each entropy source's start-up test, sample k as bit k (12 R271). -/
  src0 : Nat
  src1 : Nat
  /-- Journal records that cannot be read, by SEQ: HDR still decodes, or does not (15 R335). -/
  journalBad : List Nat
  journalLost : List Nat
  /-- Slots whose blob or stateful working set fails at the restore (12 R267). -/
  blobsBad : List Nat
  sfdpOk : Bool
  flashLog2 : Nat
  /-- What a bank of the flash holds where something other than this device has changed it (log 14). -/
  bank0 : Option (Option SetInfo)
  bank1 : Option (Option SetInfo)
  /-- The failure of the chosen bank's reading, as CUS_BOOT_STATUS.FAIL_CODE numbers it. -/
  readFail : Option Nat
  /-- The four parts as lane 0 reads them from the bank (10 R220). -/
  parts : List Bytes
  /-- Units whose known-answer test fails: fault source and address. -/
  kat : List (Nat × Nat)
  /-- The activation record cannot be committed. -/
  recordFail : Bool
  fwStart : Bool
  standby : Bool
  deriving DecidableEq, Repr

/-- A frame as a port has taken it from the codeword stream (19 R433): its header, whether a reserved bit is set, the length between its
markers, whether its tag verifies and under which keys, and the payload as decrypted. -/
structure FrameIn where
  vc : Nat
  prot : Bool
  reserved : Bool
  len : Nat
  delimited : Nat
  free : Nat
  seq : Nat
  ack : Nat
  tagOk : Bool
  old : Bool
  payload : Bytes
  deriving DecidableEq, Repr

/-- Where a routed message came from: the port it arrived on, its source member and RSEQ (19 R444). -/
structure Via where
  port : Nat
  src : Nat
  rseq : Nat
  deriving DecidableEq, Repr

/-- A charter fragment (19 R452). -/
structure CharterFrag where
  seq : Nat
  frag : Nat
  count : Nat
  total : Nat
  data : Bytes
  deriving DecidableEq, Repr

/-- A KEY_REPLICATE body (19 R457). -/
structure KeyFrag where
  slot : Nat
  frag : Nat
  count : Nat
  total : Nat
  template : Bytes
  lineage : List (Nat × Nat)
  data : Bytes
  deriving DecidableEq, Repr

/-- The body of a lease message (19 R454). -/
structure LeaseMsg where
  keyId : Bytes
  slot : Nat
  sat : Nat
  leaseNo : Nat
  start : Nat
  stop : Nat
  deadline : Nat
  epoch : Nat
  reqNo : Nat
  code : Nat
  deriving DecidableEq, Repr

/-- ATTEST_RESP (19 R458). -/
structure AttestMsg where
  nonce : Bytes
  uid : Bytes
  charterSeq : Nat
  state : Nat
  debugOpen : Bool
  measOk : Bool
  setId : Nat
  svn : Nat
  sig : Bytes
  deriving DecidableEq, Repr

/-- What becomes of a result's writes at COMMIT (13 R294, 15 R334): done, refused by translation, or poison found in a staged word. -/
inductive CommitOutcome where
  | done | translation | poison
  deriving DecidableEq, Repr

/-- What GROUP_COMMIT of a ring meets: how the result write of one member ends, counted from 0 in ring order, which the others do not fail. -/
structure GroupWrite where
  ring : Nat
  outcome : CommitOutcome
  member : Nat
  deriving DecidableEq, Repr

/-- The commands of the block.  `op` is the number of an operation in flight, as admission gave it; `ring`, `inst`, `port`, `slot` and the
like are the numbers the spec gives those things. -/
inductive Instr where
  /-- R91: Generates an ML-KEM key pair into a new private slot and returns the encapsulation key. -/
  | kemKeygen (op : Nat) (inp : OpInput)
  /-- R96: Performs ML-KEM encapsulation, with the modulus check applied to a transient key. -/
  | kemEncaps (op : Nat) (inp : OpInput)
  /-- R98: Performs ML-KEM decapsulation with constant-time implicit rejection. -/
  | kemDecaps (op : Nat) (inp : OpInput)
  /-- R91: Generates an ML-DSA key pair into a new private slot. -/
  | mldsaKeygen (op : Nat) (inp : OpInput)
  /-- R99: Signs with ML-DSA, running the rejection loop until a trial passes. -/
  | mldsaSign (op : Nat) (inp : OpInput)
  /-- R104: Verifies an ML-DSA signature and gives RESULT VALID or INVALID. -/
  | mldsaVerify (op : Nat) (inp : OpInput)
  /-- R106: Verifies an FN-DSA signature under the specification revision in force. -/
  | fndsaVerify (op : Nat) (inp : OpInput)
  /-- R118: Generates an SLH-DSA key, builds the top-layer tree and creates its top cache entry. -/
  | slhKeygen (op : Nat) (inp : OpInput)
  /-- R115: Signs with SLH-DSA doing full-length chains and then self-verifies. -/
  | slhSign (op : Nat) (inp : OpInput)
  /-- R119: Verifies an SLH-DSA signature. -/
  | slhVerify (op : Nat) (inp : OpInput)
  /-- R122: Reserves cache blocks for a key's second layer and marks it pinned at release. -/
  | slhPin (op : Nat) (inp : OpInput)
  /-- R124: Marks a key unpinned at release and frees its layer once the signs using it finish. -/
  | slhUnpin (op : Nat) (inp : OpInput)
  /-- R129: Builds an RFC 4998 hash tree and writes the level image. -/
  | treeBuild (op : Nat) (inp : OpInput)
  /-- R130: Builds a tree and writes one reduced hash tree record per leaf. -/
  | treeReduced (op : Nat) (inp : OpInput)
  /-- R141: Generates a stateful key and commits its CREATED journal record before release. -/
  | stfKeygen (op : Nat) (inp : OpInput)
  /-- R144: Assigns the next index at dispatch and signs under a committed reservation. -/
  | stfSign (op : Nat) (inp : OpInput)
  /-- R140: Verifies an HSS, XMSS or XMSS^MT signature. -/
  | stfVerify (op : Nat) (inp : OpInput)
  /-- R153: Splits the top COUNT indices off a stateful key, locally or as a sealed range blob. -/
  | stfSplit (op : Nat) (inp : OpInput)
  /-- R164: Returns the 48-byte custody status record of a stateful slot. -/
  | stfStatus (op : Nat) (inp : OpInput)
  /-- R171: Generates a Classic McEliece key pair, retrying attempts with fresh randomness. -/
  | cmKeygen (op : Nat) (inp : OpInput)
  /-- R174: Performs Classic McEliece encapsulation after checking the key's padding bits. -/
  | cmEncaps (op : Nat) (inp : OpInput)
  /-- R177: Performs constant-time Classic McEliece decapsulation with implicit rejection. -/
  | cmDecaps (op : Nat) (inp : OpInput)
  /-- R178: Generates an HQC key pair under the HQC revision in force. -/
  | hqcKeygen (op : Nat) (inp : OpInput)
  /-- R178: Performs HQC encapsulation. -/
  | hqcEncaps (op : Nat) (inp : OpInput)
  /-- R180: Performs HQC decapsulation with fixed-iteration decoders and rejection. -/
  | hqcDecaps (op : Nat) (inp : OpInput)
  /-- R191: Generates a curve key pair into a new slot. -/
  | ecKeygen (op : Nat) (inp : OpInput)
  /-- R193: Signs with ECDSA using a random or RFC 6979 nonce. -/
  | ecdsaSign (op : Nat) (inp : OpInput)
  /-- R192: Verifies an ECDSA signature. -/
  | ecdsaVerify (op : Nat) (inp : OpInput)
  /-- R194: Signs deterministically with EdDSA. -/
  | eddsaSign (op : Nat) (inp : OpInput)
  /-- R195: Verifies an EdDSA signature with the cofactored equation. -/
  | eddsaVerify (op : Nat) (inp : OpInput)
  /-- R196: Computes a P-curve, X25519 or X448 shared secret. -/
  | ecdh (op : Nat) (inp : OpInput)
  /-- R200: Generates an RSA key pair with e = 65,537. -/
  | rsaKeygen (op : Nat) (inp : OpInput)
  /-- R198: Produces an RSA PSS or PKCS#1 v1.5 signature. -/
  | rsaSign (op : Nat) (inp : OpInput)
  /-- R197: Verifies an RSA signature, including legacy sizes. -/
  | rsaVerify (op : Nat) (inp : OpInput)
  /-- R199: Encrypts with RSA-OAEP. -/
  | rsaEncrypt (op : Nat) (inp : OpInput)
  /-- R199: Decrypts RSA-OAEP with uniform failure handling. -/
  | rsaDecrypt (op : Nat) (inp : OpInput)
  /-- R202: Verifies a legacy DSA signature. -/
  | dsaVerify (op : Nat) (inp : OpInput)
  /-- R208: Opens a fixity stream with a declared length. -/
  | streamOpen (op : Nat) (inp : OpInput)
  /-- R210: Absorbs whole blocks into a stream, stopping at the declared length. -/
  | streamFeed (op : Nat) (inp : OpInput)
  /-- R211: Absorbs the tail, closes the stream and outputs or compares the digests. -/
  | streamTail (op : Nat) (inp : OpInput)
  /-- R215: Computes one-shot digests of one buffer. -/
  | digest (op : Nat) (inp : OpInput)
  /-- R216: Computes digests and compares them in the compare-only unit. -/
  | digestCompare (op : Nat) (inp : OpInput)
  /-- R223: Writes a tagged state blob of a stream. -/
  | streamSave (op : Nat) (inp : OpInput)
  /-- R224: Checks a state blob's tag and opens a stream in the recorded state. -/
  | streamRestore (op : Nat) (inp : OpInput)
  /-- R225: Encrypts with AES-256-GCM. -/
  | gcmEncrypt (op : Nat) (inp : OpInput)
  /-- R227: Decrypts with AES-256-GCM and releases the plaintext only on a tag match. -/
  | gcmDecrypt (op : Nat) (inp : OpInput)
  /-- R226: Computes an HMAC or KMAC256. -/
  | mac (op : Nat) (inp : OpInput)
  /-- R226: Computes a MAC and compares it with an expected value. -/
  | macCompare (op : Nat) (inp : OpInput)
  /-- R261: Unwraps a key, or a sealed range blob, into a new slot. -/
  | keyImportWrapped (op : Nat) (inp : OpInput)
  /-- R252: Loads and checks a public key into a new slot. -/
  | keyImportPublic (op : Nat) (inp : OpInput)
  /-- R256: Generates a symmetric key in a new slot. -/
  | keyGenerate (op : Nat) (inp : OpInput)
  /-- R258: Derives a child slot by KMAC256 from a parent or the root. -/
  | keyDerive (op : Nat) (inp : OpInput)
  /-- R260: Wraps a slot's material out under a wrapping key. -/
  | keyExportWrapped (op : Nat) (inp : OpInput)
  /-- R252: Returns the public part of a slot. -/
  | keyExportPublic (op : Nat) (inp : OpInput)
  /-- R255: Narrows a slot's attributes or moves its owner. -/
  | keySetAttr (op : Nat) (inp : OpInput)
  /-- R264: Increments a slot's epoch and revokes it and all descendants. -/
  | keyInvalidate (op : Nat) (inp : OpInput)
  /-- R266: Writes a slot's blob to MRAM. -/
  | keyPersist (op : Nat) (inp : OpInput)
  /-- R265: Wipes and frees a slot, revoking its descendants. -/
  | keyDestroy (op : Nat) (inp : OpInput)
  /-- R272: Returns CTR_DRBG output to the host. -/
  | random (op : Nat) (inp : OpInput)
  /-- R54: Allocates an on-chip buffer and fills it with poison. -/
  | bufCreate (op : Nat) (inp : OpInput)
  /-- R56: Copies host data into an on-chip buffer. -/
  | bufLoad (op : Nat) (inp : OpInput)
  /-- R57: Ends a buffer handle's life at dispatch. -/
  | bufFree (op : Nat) (inp : OpInput)
  /-- R232: Verifies an old signature and signs a re-attestation statement under new keys. -/
  | reattest (op : Nat) (inp : OpInput)
  /-- R242: Signs with both members of a composite pair and writes the container. -/
  | compositeSign (op : Nat) (inp : OpInput)
  /-- R241: Verifies both members of a composite container. -/
  | compositeVerify (op : Nat) (inp : OpInput)
  /-- R306: Binds a PASID to the lowest free instance number. -/
  | instCreate (op : Nat) (inp : OpInput)
  /-- R309: Resets an instance by generation increment, drops, cancellations and wipes. -/
  | instReset (op : Nat) (inp : OpInput)
  /-- R314: Resets an instance, destroys its rings and unbinds its PASID. -/
  | instRemove (op : Nat) (inp : OpInput)
  /-- R319: Sets an instance's share, reservation and limit. -/
  | instSetShare (op : Nat) (inp : OpInput)
  /-- R299: Creates a ring pair for an instance. -/
  | ringCreate (op : Nat) (inp : OpInput)
  /-- R300: Stops, cancels, drains and unbinds a ring pair. -/
  | ringDestroy (op : Nat) (inp : OpInput)
  /-- R301: Cancels every operation of a ring admitted before its dispatch. -/
  | ringCancel (op : Nat) (inp : OpInput)
  /-- R366: Re-initialises, self-tests and unfences eclipsed units or a control store. -/
  | engineReinit (op : Nat) (inp : OpInput)
  /-- R465: Requests entry to SERVICE. -/
  | modeSetService (op : Nat) (inp : OpInput)
  /-- R465: Requests entry to QUIESCE, pausing admission. -/
  | modeSetQuiesce (op : Nat) (inp : OpInput)
  /-- R465: Requests entry to DORMANT through a drain. -/
  | modeSetDormant (op : Nat) (inp : OpInput)
  /-- R465: Requests entry to MAINTENANCE through a drain where needed. -/
  | modeSetMaintenance (op : Nat) (inp : OpInput)
  /-- R365: Acknowledges fault records and clears recovery counts. -/
  | faultAck (op : Nat) (inp : OpInput)
  /-- R389: Authenticates a token and performs a one-way life-cycle transition. -/
  | lcTransition (op : Nat) (inp : OpInput)
  /-- R393: Zeroises the vault, key partitions and group replicas under a marker. -/
  | zeroise (op : Nat) (inp : OpInput)
  /-- R394: Issues a debug challenge of 32 random bytes and UNIQUE_ID. -/
  | debugChallenge (op : Nat) (inp : OpInput)
  /-- R394: Opens a debug session with a vendor debug token. -/
  | debugOpen (op : Nat) (inp : OpInput)
  /-- R394: Closes the open debug session. -/
  | debugClose (op : Nat) (inp : OpInput)
  /-- R347: Arms an injection of inverted check bits on a checker. -/
  | faultInjectArm (op : Nat) (inp : OpInput)
  /-- R348: Disarms the injection held by a checker. -/
  | faultInjectDisarm (op : Nat) (inp : OpInput)
  /-- R419: Programs a set image into the staging bank and verifies it. -/
  | updateStage (op : Nat) (inp : OpInput)
  /-- R421: Activates a verified set hitlessly by handover between the Hemin cores. -/
  | updateActivate (op : Nat) (inp : OpInput)
  /-- R424: Commits the pending record and warm-resets to load the new set. -/
  | updateActivateReset (op : Nat) (inp : OpInput)
  /-- R449: Checks and commits an owner-signed group charter. -/
  | charterLoad (op : Nat) (inp : OpInput)
  /-- R453: Opens sessions and receives every live group key. -/
  | groupJoin (op : Nat) (inp : OpInput)
  /-- R453: Leaves the group as removal under R451. -/
  | groupLeave (op : Nat) (inp : OpInput)
  /-- R453: Makes the standby take over the primary role at once. -/
  | takePrimary (op : Nat) (inp : OpInput)
  /-- R453: Ends a lease early and sends LEASE_RETURN. -/
  | endLease (op : Nat) (inp : OpInput)
  /-- R408: Changes one capsule-governed runtime setting in ring order. -/
  | settingWrite (op : Nat) (inp : OpInput)
  /-- R284: A SCAN-mode submission doorbell reads the hint and scans owned entries. -/
  | sqDoorbellScan (inst d : Nat) (hint : Option Nat)
  /-- R285: A TAIL-mode submission doorbell checks and accepts a new tail. -/
  | sqDoorbellTail (inst d w : Nat)
  /-- R286: A completion doorbell reads and checks CQ_HEAD. -/
  | cqDoorbell (inst d : Nat) (head : Option Nat)
  /-- R291: Drops cached entries from a position, refetches them and writes INVAL_ACK. -/
  | sqInvalidate (inst d w : Nat)
  /-- R328: A write to INST_CQ_MOD changes moderation within 2 µs. -/
  | cqModWrite (inst d w : Nat)
  /-- R282: A BAR2 write to an unused index or of narrow width is ignored and counted. -/
  | doorbellStray (inst off width : Nat)
  /-- R298: Writing ENABLE 1 enables ring 0 if its fields are valid. -/
  | ringZeroEnable (w : Nat)
  /-- R298: Writing ENABLE 0 destroys ring 0 as RING_DESTROY does. -/
  | ringZeroDisable
  /-- R469: Writing the key 0xA5A5 starts a warm reset. -/
  | glbSysReset (w : Nat)
  /-- R8: Setting a LOCK bit locks its fields until cold reset. -/
  | lockSet (off : Nat)
  /-- R369: Writing 1 to SUP_EVENT_k.PENDING clears PENDING and COUNT. -/
  | eventPendingClear (k : Nat)
  /-- R368: Clearing SUP_FAULTN_CTRL.STATE lets FAULT_N release after its minimum period. -/
  | faultnStateClear
  /-- R7: Writing 1 to CUS_TAMPER_STATUS.LATCHED clears the latched inputs. -/
  | tamperLatchedClear (mask : Nat)
  /-- R480: Writing KV_SLOT_SEL selects the slot that the query registers describe. -/
  | slotSelect (w : Nat)
  /-- R480: Writing SUP_CAL_SEL selects the calibration item shown. -/
  | calSelect (w : Nat)
  /-- R480: A read of SUP_BEAT_LO latches SUP_BEAT_HI for the next read. -/
  | beatLoRead
  /-- R7: A write to a register with no behaviour of its own acts by its access type. -/
  | registerWrite (bar off width value : Nat)
  /-- R468: POR_N, a supply trip or power removal resets both dies. -/
  | coldReset
  /-- R469: PERST#, hot reset or link down stops activity, copies the black box and resets the compute die. -/
  | warmReset (cause : Nat)
  /-- R468: The custody controller warm-resets the device after a transition, failed boot bank or reset activation. -/
  | custodyReset
  /-- R470: Function Level Reset frees instances, discards work and reapplies the capsule. -/
  | flr
  /-- R413: Release of reset runs the boot sequence from ROM to SERVICE. -/
  | boot (b : BootInput)
  /-- R414: Firmware that does not report start causes a warm reset. -/
  | fwStartTimeout
  /-- R330: The function enters D3hot and stops issuing memory requests. -/
  | d3hotEntry (pmeEn : Bool)
  /-- R330: Return to D0 writes held results and sends pending messages. -/
  | d0Return (busMaster : Bool)
  /-- R374: A supply below its warning threshold applies the brown-out floor or narrows ports. -/
  | vddWarn (supply mv : Nat)
  /-- R374: A supply back at its recovery threshold starts the floor lift count. -/
  | vddRestored (supply mv : Nat)
  /-- R374: The brown-out floor is lifted 1 ms after both supplies recover. -/
  | brownoutLift
  /-- R76: VDD_CORE below 0.65 V holds releases until it returns. -/
  | vddRange (mv : Nat)
  /-- R375: A supply below its reset threshold causes a cold reset. -/
  | supplyResetTrip (supply mv : Nat)
  /-- R377: The hottest sensor reaching the throttle threshold starts lowering the thermal limit. -/
  | throttle (sensor : Nat) (temp : Int)
  /-- R377: Every 125,000 beats the thermal limit falls or rises by 16 credits. -/
  | thermalLimitStep (sensor : Nat) (temp : Int)
  /-- R377: Tj at the THERM_N threshold asserts THERM_N and enters SAFE. -/
  | therm (sensor : Nat) (temp : Int)
  /-- R377: Tj at or below 105 °C clears THERM_N and the THERM condition. -/
  | thermClear (sensor : Nat) (temp : Int)
  /-- R377: Tj at 115 °C holds the compute die in reset until POR_N. -/
  | thermalShutdown (sensor : Nat) (temp : Int)
  /-- R79: The metronome changes to the custody-die oscillator. -/
  | refclkLost
  /-- R79: The metronome changes back to REFCLK. -/
  | refclkRestored
  /-- R396: A filtered tamper input acts by its configured ACTION. -/
  | tamperAsserted (input : Nat) (asserted : Bool)
  /-- R357: The collector receives a fault message and takes its action. -/
  | faultMessage (wire : Nat)
  /-- R357: The 8-beat window closes and the highest-severity message becomes FIRST. -/
  | firstWindowClose
  /-- R368: After the 10 µs minimum FAULT_N follows STATE. -/
  | faultnHoldEnd
  /-- R363: After the quiet period a clear source is re-initialised or SAFE is left. -/
  | autoRecovery (source : Nat) (pass : Bool)
  /-- R284: Fetched submission entries arrive in the prefetch cache. -/
  | fetch (ring : Nat) (entries : List Bytes)
  /-- R290: A failed read of submission entries stops the ring's fetch. -/
  | ringFetchError (ring : Nat)
  /-- R316: The head entry of a ring is admitted once its reservations and grant are available. -/
  | admission (ring : Nat)
  /-- R372: The power arbiter grants an operation's credits in admission order. -/
  | energyGrant (op : Nat)
  /-- R14: The memory fabric leases operand banks to the chosen unit. -/
  | bankLease (op n : Nat)
  /-- R51: The device reads and checks a scatter list once before dispatch. -/
  | scatterWalk (op fieldNo : Nat) (words : List Bytes) (failed poison : Bool)
  /-- R185: An LN unit wipes its working store before accepting another instance's operation. -/
  | lnOwnerWipe (unit : Nat)
  /-- R503: Stage 5 checks pass atomically and the engine unit accepts the operation. -/
  | dispatch (op : Nat) (inp : OpInput)
  /-- R333: A host read unanswered for 50 ms delivers poisoned data. -/
  | dmaReadTimeout (op : Nat)
  /-- R15: An engine unit finishes and returns its unit, credits and banks. -/
  | engineDone (op : Nat)
  /-- R336: A returned bank's wipe or poison fill ends and the bank rejoins the pool. -/
  | bankWipe (bank : Nat)
  /-- R76: At a slot multiple with the engine finished and supply in range, the result is released. -/
  | release (op : Nat)
  /-- R77: An unfinished unit at WATCHDOG_MULT is faulted and eclipsed. -/
  | watchdog (op : Nat)
  /-- R172: CM_KEYGEN without success at MAX_MULT ends with RETRY_LIMIT. -/
  | cmRetryLimit (op : Nat)
  /-- R201: RSA_KEYGEN unfinished at MAX_MULT ends with RETRY_LIMIT. -/
  | rsaRetryLimit (op : Nat)
  /-- R68: A cancelled dispatched operation takes its checkpoint and its banks are wiped. -/
  | cancelCheckpoint (op : Nat)
  /-- R80: An ABORTED completion is released at the next 6,250-beat multiple after the checkpoint. -/
  | abortRelease (op : Nat)
  /-- R318: The completion writer writes the result data and then the completion entry. -/
  | commit (ring : Nat) (outcome : CommitOutcome)
  /-- R296: Held completions are written in order once ring space appears. -/
  | heldCompletionWrite (ring : Nat)
  /-- R62: A transaction group commits, or rolls back, after its last member is released. -/
  | groupCommit (write : GroupWrite)
  /-- R64: An unterminated group rolls back and a batch closes after TIMEOUT. -/
  | assemblyTimeout (ring : Nat)
  /-- R280: The device half of the index block is written after changes. -/
  | indexBlockWrite (ring : Nat)
  /-- R294: A failed completion or index write is held and retried. -/
  | ringWriteError (ring : Nat)
  /-- R327: A completion ring's moderation timer expires and fires its event. -/
  | moderationTimer (ring : Nat)
  /-- R327: The MSI-X message of a fired event is sent after the index write. -/
  | msixMessage (source : Nat)
  /-- R297: A backlog period expires; CQ_HEAD is reread and COMPLETION_BACKLOG raised. -/
  | backlogTimer (ring : Nat) (head : Option Nat)
  /-- R310: A deferred instance reset resumes once no carrier of the next generation remains. -/
  | resetDeferralEnd (inst : Nat)
  /-- R314: INST_REMOVE continues once the instance has no operation left. -/
  | removeDrainEnd (inst : Nat)
  /-- R300: Completions still held a backlog period after release are discarded. -/
  | ringDestroyDiscard (ring : Nat)
  /-- R57: A freed buffer is wiped and its banks returned after its last user is released. -/
  | bufWipe (handle : Nat)
  /-- R123: A fill job completes a tree of a pinned layer. -/
  | fillJob (pin : Nat)
  /-- R143: Fill jobs complete a stateful key's working set or next subtree. -/
  | workingSetFill (slot : Nat)
  /-- R145: A RESERVED journal record commits and waiting signs proceed. -/
  | reservationCommit (slot : Nat) (ok : Bool)
  /-- R151: With few free records the journal is compacted into the other half. -/
  | journalCompaction
  /-- R159: An unanswered lease request is repeated after 250 ms. -/
  | leaseRequestRepeat (slot : Nat)
  /-- R160: A lease deadline passes and its remaining indices are abandoned. -/
  | leaseDeadline (slot number : Nat)
  /-- R160: A sign waiting for a usable lease completes before dispatch. -/
  | leaseWaitExpiry (op : Nat)
  /-- R158: No standby acknowledgement within 100 ms refuses the lease request. -/
  | standbyAckTimeout (slot number : Nat)
  /-- R269: A group key commit unconfirmed within 1 s completes with REPLICATION_FAILED. -/
  | replicationTimeout (op : Nat)
  /-- R162: The standby takes over after the takeover delay without primary frames. -/
  | takeover
  /-- R221: A long-holding lane yields at a block boundary to a waiting operation. -/
  | laneYield (op n : Nat)
  /-- R268: A damaged persisted slot is reloaded from its blob. -/
  | slotReload (slot : Nat)
  /-- R272: A DRBG instance reseeds after its request count or RESEED_MS. -/
  | drbgReseed (instance_ : Nat)
  /-- R339: The scrubber reads and checks a stored word. -/
  | scrubRead (addr : Nat) (own : Nat) (slot tree : Option Nat) (passEnd : Bool)
  /-- R465: The drain ends when every admitted operation has been released. -/
  | drainEnd
  /-- R465: DRAIN_MS expires; dispatch stops and dispatched work is cancelled. -/
  | drainLimit
  /-- R467: Units powered in DORMANT for link work power down 1 ms after last use. -/
  | dormantUnitPowerDown
  /-- R422: A handover not done in 200 µs reverts to the old core and set. -/
  | handoverTimeout
  /-- R394: A debug challenge expires after 10 s. -/
  | challengeExpiry
  /-- R395: A debug session ends when VALID_MS elapses. -/
  | debugSessionExpiry
  /-- R429: Port training completes at the widest working width. -/
  | portTraining (port lanes : Nat)
  /-- R429: A failed lane narrows the port or takes it down. -/
  | laneFail (port lane : Nat)
  /-- R429: A DOWN port retries training every 1 s. -/
  | trainingRetry (port : Nat)
  /-- R430: Too many uncorrectable codewords in a second end the session and retrain. -/
  | fecThreshold (port corrected uncorrectable : Nat)
  /-- R435: A received frame is checked by tag, sequence and kind and accepted or dropped. -/
  | frameReceive (port : Nat) (frame : FrameIn)
  /-- R433: A port idle for 125,000 beats sends a credit-only frame. -/
  | heartbeat (port : Nat)
  /-- R437: A receiver that freed buffers reports them within 1,250 beats. -/
  | creditReport (port : Nat)
  /-- R431: A port with no payload frame for 125,000 beats becomes idle. -/
  | portIdle (port : Nat)
  /-- R438: A channel without credit for STARVE_MS raises CREDIT_STARVED. -/
  | creditStarved (port vc : Nat)
  /-- R438: A channel starved for 8 × STARVE_MS ends the session. -/
  | starveSessionEnd (port vc : Nat)
  /-- R460: No frame for PEER_TIMEOUT_MS ends the session and retrains. -/
  | peerTimeout (port : Nat)
  /-- R439: A received HELLO_A begins the hop handshake. -/
  | helloA (port : Nat) (hello : Bytes)
  /-- R439: A received HELLO_B is checked and session keys are derived. -/
  | helloB (port : Nat) (hello : Bytes)
  /-- R441: A restricted session without a valid charter ends after 1 s. -/
  | restrictedTimeout (port : Nat)
  /-- R441: A refused port retries after a doubling back-off. -/
  | peerRetry (port : Nat)
  /-- R442: A session is rekeyed after 2^32 frames or REKEY_MIN minutes. -/
  | rekey (port : Nat)
  /-- R443: A routed HELLO_A begins a routed session. -/
  | rHelloA (via : Via) (hello : Bytes)
  /-- R443: A routed HELLO_B completes a routed session. -/
  | rHelloB (via : Via) (hello : Bytes)
  /-- R445: A received ROUTE message updates the routing table. -/
  | route (port : Nat) (entries : List (Nat × Nat))
  /-- R445: Each device sends ROUTE every 1 s. -/
  | routeSend
  /-- R445: A member with no route for 3 s is lost. -/
  | memberLost (member : Nat)
  /-- R452: A charter fragment is assembled and the whole charter checked under R449. -/
  | charter (port : Nat) (frag : CharterFrag)
  /-- R452: A charter not fully assembled within 1 s is discarded. -/
  | charterAssemblyTimeout (port : Nat)
  /-- R453: JOIN completes with PRIMARY_UNREACHABLE after 10 s. -/
  | joinTimeout
  /-- R458: A received attestation request is answered with a signed ATTEST_RESP. -/
  | attestReq (via : Via) (nonce : Bytes)
  /-- R458: A received response is checked and the member kept or excluded. -/
  | attestResp (via : Via) (resp : AttestMsg)
  /-- R458: Every ATTEST_H hours a member sends ATTEST_REQ. -/
  | attestInterval (member : Nat)
  /-- R458: No answer within 1 s excludes the member. -/
  | attestTimeout (member : Nat)
  /-- R162: A received ROLE message carries the primary's role epoch. -/
  | role (via : Via) (epoch : Nat)
  /-- R446: The primary sends ROLE to the standby every TAKEOVER_MS / 8. -/
  | roleSend
  /-- R456: The primary reserves a group-key number with the standby and assigns it. -/
  | numberReq (via : Via) (ref : Nat)
  /-- R456: The creating member receives the assigned group-key number. -/
  | numberAssign (via : Via) (ref number : Nat)
  /-- R456: A number unconfirmed 1 s after assignment returns to the free set. -/
  | numberUnconfirmed (number : Nat)
  /-- R457: A group-key fragment is received and the key committed when complete. -/
  | keyReplicate (via : Via) (frag : KeyFrag)
  /-- R457: Incomplete key fragments are discarded after 1 s. -/
  | keyReplicateTimeout (slot : Nat)
  /-- R457: A member's commit acknowledgement of a replicated key is received. -/
  | keyCommitAck (via : Via) (slot : Nat)
  /-- R270: A replicated invalidation or destruction of a group key is applied. -/
  | keyRevoke (via : Via) (slot : Nat) (destroy : Bool)
  /-- R158: The primary commits GRANTED, mirrors it and answers a lease request. -/
  | leaseRequest (via : Via) (msg : LeaseMsg)
  /-- R158: A satellite commits a LEASE record and acknowledges the grant. -/
  | leaseGrant (via : Via) (msg : LeaseMsg)
  /-- R454: The primary receives a satellite's lease acknowledgement. -/
  | leaseAck (via : Via) (msg : LeaseMsg)
  /-- R454: A satellite receives a refusal and raises LEASE_REFUSED. -/
  | leaseRefuse (via : Via) (msg : LeaseMsg)
  /-- R158: The standby commits the mirrored granted end and acknowledges it. -/
  | mirror (via : Via) (msg : LeaseMsg)
  /-- R158: The primary receives the standby's acknowledgement and sends the grant. -/
  | mirrorAck (via : Via) (msg : LeaseMsg)
  /-- R161: The primary answers a lease's remaining time or expiry. -/
  | leaseQuery (via : Via) (msg : LeaseMsg)
  /-- R161: A satellite confirms or abandons an unconfirmed lease. -/
  | leaseState (via : Via) (msg : LeaseMsg)
  /-- R454: The primary receives an early-ended lease whose indices are abandoned. -/
  | leaseReturn (via : Via) (msg : LeaseMsg)
  /-- R377: The hottest sensor falls below the throttle threshold minus 2 °C and the thermal limit starts to rise toward removal. -/
  | throttleOff
  /-- R339: A scrub pass that has not ended within twice its period sets BEHIND and raises the SCRUB_BEHIND event. -/
  | scrubBehind
  /-- R492: An SPDM request over DOE or over MCTP on SMBus is received whole, discarded on a bad PEC, and otherwise answered. -/
  | spdmRequest (doe pecOk : Bool) (sessions : Nat)
  /-- R384: A JTAG TAP instruction acts as boundary scan, IDCODE, debug mailbox or BYPASS according to state and session. -/
  | tapAccess (code : Nat) (data : Bytes)
  /-- R326: Clearing a vector or function mask in the MSI-X table sends the message whose pending bit is set. -/
  | msixUnmask (v : Nat)
  /-- R304: An ATS invalidation request from the host drops the translations cached for a PASID and is completed. -/
  | atsInvalidation (pasid : Nat)
  /-- R496: Loss of WY_REFCLK takes every Wyrum port DOWN while the rest of the device runs on. -/
  | wyRefclkLost (present : Bool)
  deriving DecidableEq, Repr

end Sys2Proof
end

