-- ==== Sys2Proof/Config.lean ====
section
/-! DEFINITION. What the spec leaves open: free values, opaque constants without a body.
Nothing in Lean can evaluate one of them, so a claim holds whatever their values are.  The bytes that an algorithm
of a published standard produces are among them: the manual names the standard (R32) and states no arithmetic, so
each is an uninterpreted function of its operands (log 4). -/
namespace Sys2Proof

/-- The algorithms of the published standards R32 names, and the device's own derivations, as names of uninterpreted
functions (log 4).  The operands each is applied to are those the operation chapters give. -/
inductive Alg where
  | mlkemPublic | mlkemExpanded | mlkemCiphertext | mlkemMessage
  | mldsaPublic | mldsaExpanded | mldsaMu | mldsaSignature | mldsaVerify
  | fndsaVerify
  | slhPublic | slhSignature | slhVerify
  | lmsPublic | lmsSignature | lmsPath | lmsVerify | xmssVerify
  | cmPublic | cmCiphertext | cmShared | cmRejected
  | hqcPublic | hqcCiphertext | hqcShared
  | ecPublic | ecdsaSignature | ecdsaVerify | eddsaSignature | eddsaVerify | ecdhShared | ecdhOk
  | rsaSignature | rsaVerify | rsaCiphertext | rsaPlain | rsaDecodeOk | dsaVerify
  | rsaPrivate | keyCheck
  | hash | shake | gcmCipher | gcmPlain | gcmTag | hmac | kmac
  | keyWrap | keyUnwrap | keyUnwrapOk
  | frameTag | signatureOk | streamState | pubelRoot | romKeyHash | patchOk | linkSecret | vendorReg
  deriving DecidableEq, Repr

/-- Byte `index` of what an algorithm produces from numbers `ps` and operands `xs`. -/
opaque algByte (a : Alg) (ps : List Nat) (xs : List Bytes) (index : Nat) : Byte

/-- The verdict of a checking algorithm on numbers `ps` and operands `xs`. -/
opaque algBool (a : Alg) (ps : List Nat) (xs : List Bytes) : Bool

/-- A number an algorithm produces (a length the data decides). -/
opaque algNat (a : Alg) (ps : List Nat) (xs : List Bytes) : Nat

/-- Byte `index` of the `draw`-th value the spec leaves free: DRBG output and undefined contents (log 5).
The step reads and advances the counter `State.fresh`. -/
opaque freeByte (draw index : Nat) : Byte

/-- The `draw`-th free number (log 5). -/
opaque freeNat (draw : Nat) : Nat

end Sys2Proof
end

