-- ==== Sys2Proof/Machine/Assoc.lean ====
section
/-! DEFINITION. Tables by number: lists of (number, value) pairs with strictly rising numbers. -/
namespace Sys2Proof.Machine

/-- The value at a number. -/
def lookup {α : Type} (k : Nat) : List (Nat × α) → Option α
  | [] => none
  | e :: l => if e.1 = k then some e.2 else lookup k l

/-- The table with a value put at a number. -/
def put {α : Type} (k : Nat) (v : α) : List (Nat × α) → List (Nat × α)
  | [] => [(k, v)]
  | e :: l => if e.1 < k then e :: put k v l else if e.1 = k then (k, v) :: l else (k, v) :: e :: l

/-- The table without a number. -/
def del {α : Type} (k : Nat) (l : List (Nat × α)) : List (Nat × α) := l.filter (fun e => e.1 != k)

/-- The table with the value at a number changed, where there is one. -/
def adjust {α : Type} (k : Nat) (f : α → α) (l : List (Nat × α)) : List (Nat × α) :=
  l.map (fun e => if e.1 = k then (e.1, f e.2) else e)

/-- The least number below `n` at which a table has nothing, from `lo` on. -/
def firstFree {α : Type} (lo n : Nat) (l : List (Nat × α)) : Option Nat :=
  ((List.range (n - lo)).map (· + lo)).find? (fun k => (lookup k l).isNone)

/-- Element `i` of a list replaced. -/
def setAt {α : Type} (l : List α) (i : Nat) (v : α) : List α := l.set i v

/-- Element `i` of a list changed. -/
def modAt {α : Type} (l : List α) (i : Nat) (f : α → α) : List α := l.modify i f

end Sys2Proof.Machine
end

