-- ==== Sys2Proof/Machine/State.lean ====
section
/-! DEFINITION. State as plain data: every piece of state the spec gives the block, the reasons a step can stop, and the state
after reset.  Positions, counts and times are numbers; register words and bytes are bit vectors. -/
namespace Sys2Proof.Machine

/-! ### Completion codes (02_operations R37, R40) -/

/-- The status codes of R37; `Status.code` gives each its number. -/
inductive Status where
  | ok | deferred
  | invalidInput | lengthMismatch | badLength | truncated | overrun | outputTooSmall | streamState
  | keyEmpty | keyClass | keyUsage | keySuite | keyRevoked | keyDamaged | keyOwner | keyExhausted
  | noReservation | leaseExpired | wrapAuth | keyRejected | vaultFull | notExportable
  | badOpcode | badSuite | badParam | malformed | badReference | badScatter | groupError | groupRolledBack
  | poisonConsumed | dmaError | dmaTranslation | bufferSpace | scratchSmall
  | engineFault | engineEclipsed | rngFail | retryLimit
  | aborted | notPermitted | instanceState
  | lifecycleState | authFailed | manifestInvalid | updateState | journalFailed
  | notInGroup | primaryUnreachable | leaseRefused | charterInvalid | peerUnauthenticated | replicationFailed
  deriving DecidableEq, Repr

/-- The RESULT codes of R40. -/
inductive Verdict where
  | none | valid | invalid | equal | notEqual
  deriving DecidableEq, Repr

/-! ### Descriptors and operations in flight (03_descriptors R43-R45, 01_architecture "The path of one operation") -/

/-- A descriptor as R43 lays it out. -/
structure Desc where
  opcode : Nat
  phase : Bool
  batch : Bool
  batchLast : Bool
  group : Bool
  groupLast : Bool
  fence : Bool
  /-- CTL [25:16], reserved. -/
  ctlReserved : Nat
  tag : Word
  suite : Nat
  param : Nat
  keyA : Nat
  keyB : Nat
  inLen : Nat
  inRef : Nat
  outRef : Nat
  outCap : Nat
  auxLen : Nat
  auxRef : Nat
  expRef : Nat
  /-- The 64 INLINE bytes. -/
  inl : Bytes
  deriving DecidableEq, Repr

/-- The engine classes an operation can need, as the arbiters and the fault chapters count them (14 R320, 16 R361). -/
inductive UnitKind where
  | lat | hf | code | elim | ln | lane | gcm | kv
  deriving DecidableEq, Repr

/-- One engine unit. -/
structure UnitRef where
  kind : UnitKind
  num : Nat
  deriving DecidableEq, Repr

/-- How far an operation has come on the path of 01_architecture: waiting at stage 3 (`admitted`), at stage 4
(`energised`), at stage 5 (`leased`), dispatched (`running`), or dispatched with its engine done (`finished`). -/
inductive Stage where
  | admitted | energised | leased | running | finished
  deriving DecidableEq, Repr

/-- What an operation still has to do to the block when it is released with status OK. -/
inductive Effect where
  /-- R505: the slot a creating operation took becomes LIVE. -/
  | slotLive (slot : Nat)
  /-- R81, R122: the second layer of the key's hypertree is pinned. -/
  | pin (slot : Nat)
  /-- R81, R124: and unpinned. -/
  | unpin (slot : Nat)
  /-- 03 R54: the buffer it created becomes live. -/
  | bufLive (handle : Nat)
  /-- 10 R208, R224: the stream it opened; it goes where the operation does not end with OK. -/
  | streamOpen (handle : Nat)
  /-- 07 R141, R153: the stateful key the slot holds comes into force. -/
  | stfLive (slot : Nat)
  /-- 07 R153: a split's SPLIT record commits and the donor's range ends at `first`. -/
  | stfSplit (slot first last : Nat)
  /-- 07 R156: the unwrapping key of an import that makes a group key goes with the key's commit. -/
  | retire (slot : Nat)
  deriving DecidableEq, Repr

/-- What an engine has computed for an operation: it waits in the release buffer entry until the release (R15, R17). -/
structure Parked where
  status : Status
  verdict : Verdict
  out : Bytes
  /-- Completion bytes 0x14-0x1F, from 0x14 on. -/
  opdata : Bytes
  effects : List Effect
  /-- The buffer words a direct output covers in part, as they were before it (08 R173). -/
  edges : List (Nat × Option Byte)
  deriving DecidableEq, Repr

/-- An operation in flight. -/
structure Op where
  id : Nat
  ring : Nat
  inst : Nat
  /-- The instance's generation at admission (03 R65). -/
  gen : Nat
  /-- The ring index of the descriptor. -/
  sqIndex : Nat
  desc : Desc
  stage : Stage
  /-- Failures that gates before stage 5 have found (15 R51, R52; 01 R502). -/
  preFail : List Status
  /-- The sum-checked pieces of IN, AUX and OUT scatter lists: (IOVA, length). -/
  inPieces : List (Nat × Nat)
  auxPieces : List (Nat × Nat)
  outPieces : List (Nat × Nat)
  poisonSeen : Bool
  extended : Bool
  /-- Energy granted, in 1/64 credit (16 R370). -/
  energy : Nat
  banks : List Nat
  units : List UnitRef
  /-- The beat at which it reached stage 5 (07 R160). -/
  since : Nat
  /-- The metronome beat of dispatch (01 R15, 04 R70). -/
  dispatch : Nat
  /-- The release slot in beats; 0 for class 0x0F, which has none (02 R26). -/
  slot : Nat
  /-- The beat at which its engine finished. -/
  doneBeat : Nat
  /-- Key slots and epochs the operation was given (01 "Lineage", 12 R264). -/
  held : List (Nat × Nat)
  /-- On-chip buffers it references. -/
  bufs : List Nat
  /-- A cancellation has been requested (03 R68), and its checkpoint has been taken. -/
  cancel : Bool
  checkpoint : Bool
  /-- The unit was eclipsed after dispatch (01, "When two things meet"). -/
  faulted : Bool
  /-- The long-number unit must wipe its working memory before this operation (09 R185). -/
  wipeWait : Bool
  /-- The operation waits for a stateful reservation commit (07 R145), a lane (10 R221) or a peer (19). -/
  waiting : Bool
  /-- The check of its result finds the unit at fault: the unit reports itself when it ends (06 R116, 09 R184). -/
  selfFault : Option UnitKind
  parked : Parked
  deriving DecidableEq, Repr

/-! ### Key vault (12_key_vault) -/

/-- The states of a slot number (R243). -/
inductive SlotState where
  | free | live | staged | buffer | revoked | damaged | wiping | retired
  deriving DecidableEq, Repr

/-- A slot number in use (R243, R246, R248, R263). -/
structure KeySlot where
  state : SlotState
  suite : Nat
  dest : Nat
  usage : Nat
  persist : Bool
  shared : Bool
  hostTag : Nat
  owner : Nat
  /-- The slot holds no private or secret value. -/
  publicOnly : Bool
  /-- Derived from the root in force (KV_SLOT_PARENT.ROOT). -/
  fromRoot : Bool
  /-- The lineage vector: (slot, epoch) of each ancestor, nearest first; its length is the depth. -/
  lineage : List (Nat × Nat)
  /-- Private or secret material in import or seed form, and the public part. -/
  priv : Bytes
  pub : Bytes
  /-- Private values the device derives from them and holds beside them: the expanded lattice key (05 R89), dP, dQ and qInv (09 R189). -/
  expanded : Bytes
  /-- The HQC revision of the key's format (08 R178, R179). -/
  hqcRev : Nat
  /-- Arena granules held (R244). -/
  granules : Nat
  deriving DecidableEq, Repr

/-- A persisted blob in MRAM (R266): the slot with the material the blob carries, and the granules it takes. -/
structure Blob where
  slot : KeySlot
  granules : Nat
  /-- The wrap passes its check and the words are correctable (R267). -/
  sound : Bool
  deriving DecidableEq, Repr

/-- An effect a transaction-group member has staged (03 R62, 12 R254). -/
inductive KvEffect where
  | create (n : Nat) (k : KeySlot)
  | setAttr (n : Nat) (k : KeySlot)
  | invalidate (n : Nat)
  | persist (n : Nat)
  | destroy (n : Nat)
  deriving DecidableEq, Repr

/-- An entropy source (R271, R273). -/
structure Entropy where
  ok : Bool
  fails : Nat
  deriving DecidableEq, Repr

/-- A DRBG instance (R272). -/
structure Drbg where
  seeded : Bool
  requests : Nat
  lastReseed : Nat
  deriving DecidableEq, Repr

/-- The key vault. -/
structure Vault where
  /-- Slot numbers that are not FREE, by number. -/
  slots : List (Nat × KeySlot)
  /-- Epoch counters that are not 0, by number (R262). -/
  epochs : List (Nat × Nat)
  /-- The persisted-blob partition, by slot number. -/
  blobs : List (Nat × Blob)
  src0 : Entropy
  src1 : Entropy
  /-- DRBG instances of LAT, HF, CODE, LN, FX, KV and RANDOM, in that order. -/
  drbgs : List Drbg
  /-- The key that wraps the saved states of operations that yielded their lane, drawn at BOOT (10 R222). -/
  yieldKey : Bytes
  deriving DecidableEq, Repr

/-! ### On-chip buffers (03_descriptors R54-R57) -/

/-- An on-chip buffer. -/
structure Buffer where
  owner : Nat
  size : Nat
  banks : List Nat
  /-- The handle is live (R55, R57). -/
  live : Bool
  deriving DecidableEq, Repr

/-! ### Rings (13_rings) -/

/-- A fetched, not yet admitted entry (R288): its position on the circle of two orbits, and whether the device owned it. -/
structure Cached where
  lin : Nat
  desc : Desc
  owned : Bool
  /-- A word of it is poison: it is not consumed, and is read again from the host (15 R334). -/
  bad : Bool
  deriving DecidableEq, Repr

/-- The FLAGS of a completion (03 R66) other than BATCH and GROUP. -/
structure CplFlags where
  lineage : Bool
  poison : Bool
  extended : Bool
  deriving DecidableEq, Repr

/-- A piece of result data to be written: to host memory at an IOVA, or to an on-chip buffer at an offset. -/
structure OutPiece where
  buf : Option Nat
  addr : Nat
  data : Bytes
  deriving DecidableEq, Repr

/-- What a direct output gives back where its operation does not complete OK.  A BUF_LOAD's or a key pair's range of an on-chip buffer returns
to the unwritten state (03 R56, 08 R173): its whole words, and the bytes that stood in the words it covers in part.  Another area is undefined
(03 R69, 15 R334). -/
structure Undo where
  handle : Nat
  /-- The first whole word's offset. -/
  lo : Nat
  len : Nat
  edges : List (Nat × Option Byte)
  /-- The undefined area: buffer or host memory, address and length. -/
  area : List (Option Nat × Nat × Nat)
  deriving DecidableEq, Repr

/-- What one entry a batch completion covers would have carried on its own (R60). -/
structure Covered where
  verdict : Verdict
  tag : Word
  sqIndex : Nat
  flags : CplFlags
  writes : List OutPiece
  granules : Nat
  undo : Option Undo
  deriving DecidableEq, Repr

/-- A released completion waiting for its commit (01 R17, 03 R65): the result data still to be written, then the
entry. -/
structure Completion where
  inst : Nat
  gen : Nat
  status : Status
  verdict : Verdict
  tag : Word
  outLen : Nat
  covered : Nat
  sqIndex : Nat
  flags : CplFlags
  batch : Bool
  group : Bool
  /-- Bytes 0x14-0x1F. -/
  opdata : Bytes
  /-- The staged result's pieces in order. -/
  writes : List OutPiece
  /-- The result data has been written (14 R318); its release store granules are returned. -/
  dataDone : Bool
  /-- Release store granules held (14 R315). -/
  granules : Nat
  /-- The entries a batch completion covers, in ring order; none for a completion of one entry. -/
  parts : List Covered
  /-- The direct output that a commit which fails takes back (03 R56, 08 R173, 15 R334). -/
  undo : Option Undo
  deriving DecidableEq, Repr

/-- A member of a batch (03 R59, R60): once released successfully, what the shared completion will need. -/
structure BatchMember where
  op : Nat
  /-- The beat at which it was admitted (R64). -/
  since : Nat
  done : Option Completion
  deriving DecidableEq, Repr

/-- A batch, or what is left of one after R60 split it. -/
structure Batch where
  members : List BatchMember
  closed : Bool
  /-- The beat at which its first member was admitted (R64). -/
  opened : Nat
  deriving DecidableEq, Repr

/-- A member of a transaction group (R61, R62). -/
structure GroupMember where
  op : Nat
  /-- The slot number it created. -/
  created : Option Nat
  /-- Effects staged until the commit. -/
  effects : List KvEffect
  /-- Slots and epochs it used, checked at the commit (R63). -/
  used : List (Nat × Nat)
  /-- Released: its completion as it will be written. -/
  done : Option Completion
  deriving DecidableEq, Repr

/-- A transaction group. -/
structure Group where
  members : List GroupMember
  closed : Bool
  opened : Nat
  /-- The member that failed first and its status. -/
  failed : Option (Nat × Status)
  /-- It ended by R61 or by the time-out of R64: every member carries GROUP_ERROR. -/
  broken : Bool
  /-- Its effects are in force and its outputs written; what it revoked of group keys waits to be confirmed (12 R270). -/
  inForce : Bool
  deriving DecidableEq, Repr

/-- INVAL_ACK (R279, R291). -/
structure InvalAck where
  word : Nat
  done : Bool
  tooLate : Bool
  seq : Nat
  deriving DecidableEq, Repr

/-- A ring pair (R274).  Positions are kept on the circle of two orbits, as R278's `lin` gives them. -/
structure Ring where
  enabled : Bool
  tailMode : Bool
  sizeLog2 : Nat
  dbIndex : Nat
  inst : Nat
  sqBase : Nat
  cqBase : Nat
  idxBase : Nat
  sqHead : Nat
  fetchPos : Nat
  /-- The accepted tail of TAIL mode (R285). -/
  tail : Nat
  /-- A scan of SCAN mode is under way or paused for cache room (R284). -/
  scanning : Bool
  /-- Where a re-fetch of invalidated entries ends that no doorbell has asked to go further (R284, R291). -/
  redo : Option Nat
  /-- A doorbell arrived after the fetch in progress began, or while fetch was paused (R287). -/
  again : Bool
  cqTail : Nat
  cqHead : Nat
  cache : List Cached
  stopped : Bool
  writeStopped : Bool
  /-- A completion entry could not be written: it is tried again on the next completion doorbell (R294). -/
  writeWaits : Bool
  /-- A completion has been held because the completion ring was full, and held ones remain (STATUS.CQ_FULL; R295, R297). -/
  full : Bool
  backlog : Bool
  /-- Released completions not yet committed, in release order (R292). -/
  outq : List Completion
  /-- The beat of the last release on the ring (R300). -/
  lastOut : Nat
  inval : InvalAck
  /-- The device half of the index block has changed since it was last written (R280). -/
  idxDirty : Bool
  dbIgnored : Nat
  tailPhase : Nat
  fetchErrors : Nat
  writeErrors : Nat
  /-- The beat at which the backlog timer expires (R297), or what it had left while the function is in D3hot. -/
  backlogAt : Option Nat
  backlogLeft : Option Nat
  batches : List Batch
  groups : List Group
  /-- INST_CQ_MOD (14 R327): threshold - 1, timer in µs, IRQ_EN. -/
  countM1 : Nat
  timerUs : Nat
  irqEn : Bool
  /-- The pending count P and the beat at which the running timer started. -/
  pend : Nat
  timerStart : Option Nat
  /-- The beat at which the running timer expires (R327, R328). -/
  timerAt : Nat
  /-- The ring's event has fired and its message has not been sent. -/
  eventPending : Bool
  deriving DecidableEq, Repr

/-! ### Instances, arbiters and events (14_instances) -/

/-- R303. -/
inductive InstState where
  | free | bound | resetting | removing
  deriving DecidableEq, Repr

/-- An instance number. -/
structure Inst where
  state : InstState
  pasid : Nat
  share : Nat
  reserve : Nat
  limit : Nat
  gen : Nat
  discards : Nat
  /-- The number has been bound since cold reset (R306). -/
  everBound : Bool
  deriving DecidableEq, Repr

/-- One class arbiter (R320, R321): latched shares, credits, grants of the epoch, and the ring last served of each instance. -/
structure Arbiter where
  shares : List (Nat × Nat)
  credits : List (Nat × Int)
  grants : Nat
  lastRing : List (Nat × Nat)
  deriving DecidableEq, Repr

/-- A management operation that has taken effect and waits for something before it completes. -/
inductive MgmtWait where
  /-- INST_RESET at step 2 (R310). -/
  | deferral (inst : Nat)
  /-- INST_REMOVE (R314). -/
  | removal (inst : Nat)
  /-- RING_DESTROY (13 R300), with the entries it dropped. -/
  | destroy (ring dropped : Nat)
  /-- RING_CANCEL (13 R301): the operations still to end, and how many there were. -/
  | cancel (ring : Nat) (ids : List Nat) (count : Nat)
  /-- MODE_SET (20 R465) draining to a mode. -/
  | modeSet (target : Nat)
  /-- GROUP_CONTROL joining (19 R453). -/
  | joining (deadline : Nat)
  /-- UPDATE_ACTIVATE handing over (18 R422). -/
  | handover (deadline : Nat)
  /-- A life-cycle transition, a zeroisation, a staging or an activation that a reset or a loss of power is about to cut short (17 R392,
  18 R426). -/
  | interrupted
  deriving DecidableEq, Repr

/-- A device event (16 R369). -/
structure DevEvent where
  detail : Nat
  count : Nat
  pending : Bool
  /-- Its message has not been sent. -/
  unsent : Bool
  deriving DecidableEq, Repr

/-- Queue manager. -/
structure Queues where
  rings : List (Nat × Ring)
  /-- RING_n_ERRORS of rings that are no longer enabled (21 R476): DB_IGNORED, TAIL_PHASE, FETCH_ERRORS, WRITE_ERRORS. -/
  errors : List (Nat × (Nat × Nat × Nat × Nat))
  strayCount : Nat
  strayInst : Nat
  strayIndex : Nat
  deriving DecidableEq, Repr

/-- Instance manager. -/
structure Instances where
  insts : List (Nat × Inst)
  /-- Arbiters of classes 0x01-0x08, in that order. -/
  arbs : List Arbiter
  /-- Management operations that wait. -/
  waits : List (Nat × MgmtWait)
  extWork : Nat
  extSupply : Nat
  /-- Device events that have fired, by k. -/
  events : List (Nat × DevEvent)
  deriving DecidableEq, Repr

/-- What the device has sent out of a port that has no register to read it from (log 9). -/
inductive Sent where
  | msix (vector : Nat)
  | pme
  | frame (port : Nat) (data : Bytes)
  | spdm (data : Bytes)
  | tap (data : Bytes)
  /-- An ATS invalidation completion (14 R304). -/
  | atsDone (pasid : Nat)
  | link (up : Bool)
  deriving DecidableEq, Repr

/-- Host port (14 R326-R330). -/
structure HostPort where
  d3hot : Bool
  busMaster : Bool
  pmeEn : Bool
  pmeSent : Bool
  msixEnable : Bool
  functionMask : Bool
  /-- Words written to a _LO register whose _HI has not been written (00 R6), by offset. -/
  lows : List (Nat × Word)
  /-- Vectors with their pending bit set (the PBA). -/
  pba : List Nat
  /-- PASIDs whose translations are cached (R304). -/
  ats : List Nat
  /-- SPDM sessions open over DOE and over MCTP (20 R471). -/
  spdmDoe : Nat
  spdmMctp : Nat
  /-- The instruction in the TAP's instruction register (22 R493). -/
  tapIr : Nat
  deriving DecidableEq, Repr

/-! ### Memory fabric (15_memory) -/

/-- A bank's holder in the lease table (R344). -/
inductive Lease where
  | free
  | unit (kind : UnitKind) (num cls op : Nat)
  | buffer (handle : Nat)
  | standing
  | withdrawn
  | wiping
  deriving DecidableEq, Repr

/-- A weak-word table entry (R341); the list keeps the entry whose last correction is oldest first. -/
structure WeakWord where
  addr : Nat
  rewritten : Bool
  count : Nat
  deriving DecidableEq, Repr

/-- An armed injection (R347). -/
structure Injection where
  checker : Nat
  mask : Nat
  onRead : Bool
  count : Nat
  weak : Bool
  anyWord : Bool
  word : Nat
  deriving DecidableEq, Repr

/-- The memory fabric and the on-chip memories' integrity state. -/
structure Fabric where
  /-- The lease table: 128 entries. -/
  leases : List Lease
  /-- Banks withdrawn under R343, leased or not. -/
  lost : List Nat
  /-- Other withdrawn units, by checker number. -/
  lostUnits : List Nat
  weak : List WeakWord
  corrections : Nat
  /-- Remapped rows (MRAM): unit's checker and row. -/
  remaps : List (Nat × Nat)
  lastUe : Nat
  injections : List Injection
  behind : Bool
  passes : Nat
  /-- Checkers that failed the last start-up self-test, and whether it is done. -/
  bistFailed : List Nat
  bistDone : Bool
  /-- The beat of each checker's last CORRECTED message (R346). -/
  lastCorrected : List (Nat × Nat)
  deriving DecidableEq, Repr

/-! ### Supervisor (16_faults_power) -/

/-- A fault record: FIRST or a log entry (R357, R358). -/
structure FaultRec where
  source : Nat
  kind : Nat
  /-- Severity after escalation. -/
  severity : Nat
  sequence : Nat
  address : Nat
  cleared : Bool
  escalated : Bool
  acked : Bool
  fromBlackbox : Bool
  origSeverity : Nat
  repeats : Nat
  beat : Nat
  deriving DecidableEq, Repr

/-- A black-box copy (R359). -/
structure BlackBox where
  first : Option FaultRec
  log : List FaultRec
  deriving DecidableEq, Repr

/-- The fault collector. -/
structure Collector where
  first : Option FaultRec
  /-- The 8-beat window: the beat it opened, and the records that arrived in it, in order. -/
  window : Option (Nat × List FaultRec)
  log : List FaultRec
  lost : Nat
  gaps : Nat
  safeByFault : Bool
  /-- Last SEQUENCE seen of each source (R351). -/
  sequences : List (Nat × Nat)
  /-- Sources whose condition is present (R360). -/
  live : List Nat
  /-- Those among them that are of DEVICE severity (R363, 20 R463, R466). -/
  liveDevice : List Nat
  /-- The beat of each source's last message (R363). -/
  lastMsg : List (Nat × Nat)
  /-- The beats of each source's recoveries within the hour (R364). -/
  recoveries : List (Nat × List Nat)
  recovered : Nat
  /-- The last source whose recovery stopped, and every source stopped now (R364). -/
  stopped : Option Nat
  stoppedNow : List Nat
  /-- Copies kept in MRAM, newest first (R359). -/
  blackBox : List BlackBox
  /-- FAULT_N (R368): STATE, the beat to which it is held, and its assertion from POR_N until the BOOT test. -/
  faultNState : Bool
  faultNHold : Nat
  faultNBoot : Bool
  deriving DecidableEq, Repr

/-- A supply monitor (R373). -/
structure Supply where
  mv : Nat
  warn : Bool
  belowRange : Bool
  deriving DecidableEq, Repr

/-- A temperature sensor (R376): reading in 0.25 °C. -/
structure Sensor where
  temp : Int
  eclipsed : Bool
  deriving DecidableEq, Repr

/-- A calibration item (R378): factory value, user delta, effective value. -/
structure CalItem where
  factory : Int
  user : Int
  eff : Int
  clipped : Bool
  deriving DecidableEq, Repr

/-- Power arbiter, supplies, temperature, reference clock and calibration. -/
structure Supervisor where
  fc : Collector
  supplies : List Supply
  sensors : List Sensor
  /-- The brown-out floor applies; and the beat at which it is to be lifted (R374). -/
  brownout : Bool
  liftAt : Option Nat
  /-- The thermal limit in credits (R377), and the beat of its next step. -/
  thermal : Option Nat
  thermalAt : Nat
  thermN : Bool
  shutdown : Bool
  /-- REFCLK is present (04 R79) and WY_REFCLK (22 R496). -/
  refclk : Bool
  wyRefclk : Bool
  cal : List CalItem
  deriving DecidableEq, Repr

/-- Eclipsed units (R355, R361): engine units by kind and number, hash lanes, and whole control stores by class. -/
structure Eclipses where
  units : List UnitRef
  shaLanes : List Nat
  keccakLanes : List Nat
  /-- Opcode classes eclipsed by their control store. -/
  stores : List Nat
  /-- The standby Hemin core (R355). -/
  core : Bool
  deriving DecidableEq, Repr

/-! ### Engine information of the active update set -/

/-- Counters of the code cluster (08) and the long-number engine (09), each saturating at 16 bits; the last owner instance of each
long-number unit's working memory, and the units that must be wiped before their next operation (09 R185, R186). -/
structure Engines where
  info : EngineInfo
  cmKeypairs : Nat
  cmLimits : Nat
  lnWipes : Nat
  lnLimits : Nat
  lnOwner : List (Nat × Nat)
  lnDirty : List Nat
  /-- What a long-number unit's registers and working store hold of key material and of the masks drawn for it (09 R181-R183), by unit. -/
  lnWork : List (Nat × Bytes)
  deriving DecidableEq, Repr

/-! ### Hypertree cache (06_hash_forest R120-R126) -/

/-- A pin: its key slot, the blocks it holds, the trees of its layer and those present. -/
structure Pin where
  slot : Nat
  blocks : Nat
  trees : Nat
  present : List Nat
  /-- Marked at the release of its SLH_PIN (R81, R123). -/
  live : Bool
  /-- Unpinned, and waiting for the signs dispatched before, by operation (R124). -/
  closing : Bool
  users : List Nat
  deriving DecidableEq, Repr

/-- The cache: top entries by key slot with their blocks, pins by index, blocks of stateful working sets by slot (07 R142). -/
structure Cache where
  tops : List (Nat × Nat)
  pins : List (Nat × Pin)
  sets : List (Nat × Nat)
  drops : Nat
  deriving DecidableEq, Repr

/-! ### Fixity streams (10_fixity R203-R224) -/

/-- An open stream.  Its hash state is kept as what was absorbed: the state a blob restored it from, none at an open, and the bytes fed
since. -/
structure Stream where
  owner : Nat
  /-- The owner's generation when it was opened: a stream opened later under the same handle is another one. -/
  gen : Nat
  suite : Nat
  param : Nat
  declared : Option Nat
  fed : Nat
  base : Option Bytes
  data : Bytes
  overrun : Bool
  failed : Bool
  /-- A dispatched STREAM_TAIL has closed it; the handle is freed at the release (R211). -/
  closing : Bool
  deriving DecidableEq, Repr

/-- The fixity engine: streams by handle, the stream entries its standing lease leaves, operations that have yielded their lane, in order,
and the yields taken. -/
structure Fixity where
  streams : List (Nat × Stream)
  limit : Nat
  yieldEntries : Nat
  yielded : List Nat
  yields : Nat
  /-- The saved states of operations that have yielded, by operation (R222): as they are kept, wrapped where the state is keyed. -/
  saved : List (Nat × Bytes)
  deriving DecidableEq, Repr

/-! ### Stateful-index custody (07_stateful_keys) -/

/-- A lease this device holds (R158-R161): [start, stop); no deadline while it is unconfirmed. -/
structure LeaseHeld where
  start : Nat
  stop : Nat
  number : Nat
  deadline : Option Nat
  deriving DecidableEq, Repr

/-- A grant this device has made, or mirrored as standby (R158, 19 R454): the satellite, lease number, range, the beat at which its
deadline passes, the request it answers, the beat its mirroring was asked for, none once it has been sent, and whether it was
acknowledged. -/
structure Grant where
  sat : Nat
  number : Nat
  start : Nat
  stop : Nat
  deadline : Nat
  reqNo : Nat
  mirrorAt : Option Nat
  acked : Bool
  deriving DecidableEq, Repr

/-- The custody of one stateful slot (R134, R144-R147, R153, R157-R164). -/
structure StfKey where
  keyId : Bytes
  /-- Levels or layers, the height of each, and the Winternitz code of LMS keys. -/
  levels : Nat
  height : Nat
  wcode : Nat
  rangeStart : Nat
  rangeEnd : Nat
  reservedEnd : Nat
  next : Nat
  /-- The RESERVED_END of the reservation in progress (R145). -/
  reserving : Option Nat
  /-- The RANGE_END a running split caps reservations at (R153). -/
  cap : Option Nat
  group : Bool
  /-- The granted end, at the primary and mirrored at the standby (R158). -/
  granted : Nat
  nextLease : Nat
  grants : List Grant
  /-- Leases held, the one in use first (R159). -/
  leases : List LeaseHeld
  /-- The request under way: REQ_NO and the beat it was last sent (R159). -/
  asking : Option (Nat × Nat)
  reqNo : Nat
  lastRefused : Bool
  lastUnreachable : Bool
  /-- The last lease lapsed with indices left (R160). -/
  lapsed : Bool
  setReady : Bool
  /-- Bottom subtrees are built for the indices below this one (R143). -/
  builtTo : Nat
  deriving DecidableEq, Repr

/-- A journal record (R148); its SEAL is valid, and SEQ is its position in the count. -/
structure JRec where
  type : Nat
  slot : Nat
  seq : Nat
  keyId : Bytes
  a : Nat
  b : Nat
  c : Nat
  deriving DecidableEq, Repr

/-- The stateful-index custody unit. -/
structure Stateful where
  keys : List (Nat × StfKey)
  /-- The two halves of the journal partition, oldest record first, and the active one. -/
  half0 : List JRec
  half1 : List JRec
  active : Nat
  seq : Nat
  skipped : Nat
  odd : Nat
  /-- HF_STF_STATUS.ROLE and SOLE, and the highest role epoch committed (R162). -/
  role : Nat
  epoch : Nat
  sole : Bool
  deriving DecidableEq, Repr

/-! ### Custody: life cycle, debug, tamper, boot and update (17_lifecycle, 18_boot_update) -/

/-- The decoded life-cycle states (R381). -/
inductive Lc where
  | blank | vendorTest | vendorLocked | personalised | inService | returned | scrapped | invalid
  deriving DecidableEq, Repr

/-- The OTP array's fields (17, "The OTP array").  `marginBad` holds the offsets of fields whose two reads differ (R380), `bad` those of
words that read as uncorrectable (R379). -/
structure Otp where
  pattern : Nat
  ownerKill : Nat
  identityKill : Nat
  uid : Bytes
  ownerKeyHash : Option Bytes
  pubelV : Option Bytes
  ownerSeed : Option Bytes
  marginBad : List Nat
  bad : List Nat
  deriving DecidableEq, Repr

/-- The zeroisation marker (R390): the transition it stands for as (SOURCE, TARGET), none for ZEROISE, and DONE. -/
structure Marker where
  move : Option (Nat × Nat)
  done : Bool
  deriving DecidableEq, Repr

/-- An activation record (18 R415). -/
structure ActRec where
  seq : Nat
  isPending : Bool
  confirmedBank : Nat
  pendingBank : Nat
  attempts : Nat
  stageState : Nat
  stageBank : Nat
  ownerSetSeen : Bool
  confirmedId : Nat
  pendingId : Nat
  stagedId : Nat
  minSvn : Nat
  deriving DecidableEq, Repr

/-- The update machinery (18). -/
structure Update where
  /-- The two copies of the activation record; none where a copy's CHECK is wrong. -/
  copy0 : Option ActRec
  copy1 : Option ActRec
  /-- What each flash bank holds, as it was last read and checked. -/
  bank0 : Option SetInfo
  bank1 : Option SetInfo
  /-- The set running, and the capsule in force (R407). -/
  running : Option SetInfo
  runningBank : Nat
  /-- UCODE_REV of the classes 0x01-0x08. -/
  ucode : List Nat
  /-- Units still to switch to the running set's microcode (R423). -/
  switching : List UnitRef
  capsuleId : Nat
  capsule : List CapRec
  step : Nat
  result : Nat
  fellBack : Bool
  failCode : Nat
  /-- An UPDATE_FALLBACK event due at the next SERVICE entry: its DETAIL (R428). -/
  fallbackEvent : Option Nat
  flashLog2 : Nat
  sfdpOk : Bool
  standbyReady : Bool
  /-- FX_BOOT_MEAS verdicts of the four parts: 0 not measured, 1 EQUAL, 2 NOT_EQUAL (10 R220). -/
  meas : List Nat
  deriving DecidableEq, Repr

/-- The custody controller. -/
structure Custody where
  otp : Otp
  marker : Option Marker
  /-- The state decoded at the last BOOT (R382), and what that BOOT found. -/
  lc : Lc
  marginMismatch : Bool
  markerFound : Bool
  /-- The LC_TRANSITION event due at the next SERVICE or MAINTENANCE entry: its DETAIL (R397). -/
  lcEvent : Option Nat
  /-- Cold resets since the device entered IN_SERVICE (11 R234). -/
  bootEpoch : Nat
  /-- AUTH_FAILED completions since cold reset (R388). -/
  authFails : Nat
  /-- The outstanding challenge and the beat it expires (R394). -/
  challenge : Option (Bytes × Nat)
  /-- VDD_OTP as the last LC_TRANSITION found it (CUS_LC_STATE.VDD_OTP_OK). -/
  vddOtpOk : Bool
  /-- The open debug session: SCOPE and the beat it ends (R394, R395). -/
  session : Option (Nat × Nat)
  tamperLive : Nat
  tamperLatched : Nat
  tamperCount : Nat
  /-- The warm reset the custody controller makes and the beat it is due (R389, R414, R424). -/
  resetDue : Option Nat
  up : Update
  deriving DecidableEq, Repr

/-! ### Wyrum ports and the device group (19_wyrum_groups) -/

/-- WY_PORT_n_STATUS.STATE. -/
inductive PortState where
  | down | training | up | secure | restricted | eclipsed
  deriving DecidableEq, Repr

/-- A virtual channel's credit (R437, R438): FREE of the latest accepted frame, and the beat since which it has held no credit. -/
structure Channel where
  free : Nat
  starvedAt : Option Nat
  /-- CREDIT_STARVED has been raised for this starvation. -/
  raised : Bool
  deriving DecidableEq, Repr

/-- A charter in assembly (R452). -/
structure Assembly where
  seq : Nat
  count : Nat
  total : Nat
  started : Nat
  /-- Fragments that have arrived, by FRAG. -/
  parts : List (Nat × Bytes)
  deriving DecidableEq, Repr

/-- A hop session's keys and salts, ours first (R440). -/
structure SessionKeys where
  txKey : Bytes
  rxKey : Bytes
  txSalt : Bytes
  rxSalt : Bytes
  deriving DecidableEq, Repr

/-- A Wyrum port. -/
structure Port where
  state : PortState
  /-- Lanes in use, one bit per lane, and lanes that have failed. -/
  lanes : Nat
  failed : Nat
  /-- A supply warning narrows the port to one lane (R432). -/
  narrowed : Bool
  peer : Nat
  /-- The peer's UNIQUE_ID and ID_HASH. -/
  peerUid : Bytes
  /-- It carries frames: not idle under R431; and the beat of the last frame with LEN above 0. -/
  active : Bool
  lastLoad : Nat
  lastSent : Nat
  lastHeard : Nat
  fecCorrected : Nat
  fecUncorr : Nat
  dropped : Nat
  auth : Nat
  replay : Nat
  starved : Nat
  /-- Tag failures in the current second, and the beat it began (R435). -/
  authWindow : Nat × Nat
  /-- Handshake (R439): our HELLO_A and the peer's; our ciphertext to the peer; a rekey in progress. -/
  helloMine : Option Bytes
  helloPeer : Option Bytes
  ctMine : Option Bytes
  rekeying : Bool
  keys : Option SessionKeys
  keysAt : Nat
  /-- Keys that stay valid until the first frame under the new ones (R442). -/
  oldKeys : Option SessionKeys
  txSeq : Nat
  rxSeq : Option Nat
  /-- The highest SEQ accepted under the old keys. -/
  rxOld : Option Nat
  /-- ACK_SEQ of the latest accepted frame; frames sent above it, as (SEQ, VC). -/
  ackSeq : Option Nat
  sent : List (Nat × Nat)
  /-- Buffers have been freed that no frame has reported, and since when (R437). -/
  unreported : Option Nat
  channels : List Channel
  /-- Envelopes waiting for credit: (VC, payload). -/
  queue : List (Nat × Bytes)
  assembly : Option Assembly
  /-- Training or handshake is tried again at a beat; the wait of the next refusal in seconds (R429, R441). -/
  retryAt : Option Nat
  backoff : Nat
  deriving DecidableEq, Repr

def Channel.blank : Channel := { free := 0, starvedAt := none, raised := false }

/-- The port charge's two questions (16 R371): trained, and carrying frames. -/
def Port.trained (p : Port) : Bool := p.state == .up || p.state == .secure || p.state == .restricted

/-- A charter entry (R448). -/
structure MemberEntry where
  number : Nat
  uid : Bytes
  idHash : Bytes
  deriving DecidableEq, Repr

/-- A charter (R448), with its own bytes. -/
structure Charter where
  seq : Nat
  groupId : Bytes
  primary : Nat
  standby : Option Nat
  takeoverMs : Nat
  minSvn : Nat
  entries : List MemberEntry
  raw : Bytes
  deriving DecidableEq, Repr

/-- What this device holds about another member (R443, R445, R447, R458). -/
structure Member where
  /-- Routes: (port, hops, beat heard). -/
  routes : List (Nat × Nat × Nat)
  lost : Bool
  /-- The beat since which there has been no route. -/
  routeless : Option Nat
  /-- The routed session: the HELLO_As and our ciphertext, its keys, the next RSEQ, the highest RSEQ accepted and those seen in the
  window. -/
  helloMine : Option Bytes
  helloPeer : Option Bytes
  ctMine : Option Bytes
  keys : Option SessionKeys
  txSeq : Nat
  rxHigh : Option Nat
  rxSeen : List Nat
  /-- The key its session authenticated (R458), its attestation request: NONCE and the beat it was sent; and when the next is due. -/
  identity : Bytes
  asked : Option (Bytes × Nat)
  nextAttest : Nat
  attested : Bool
  excluded : Bool
  /-- Messages acted on in the current second, and the beat it began (R447). -/
  window : Nat × Nat
  /-- The last authenticated frame from it (R162). -/
  heard : Nat
  deriving DecidableEq, Repr

/-- A key in replication to this device (R457). -/
structure Incoming where
  slot : Nat
  from_ : Nat
  count : Nat
  total : Nat
  started : Nat
  template : Bytes
  lineage : List (Nat × Nat)
  /-- Pieces that have arrived, by FRAG. -/
  parts : List (Nat × Bytes)
  deriving DecidableEq, Repr

/-- A group key this device creates and has not yet had confirmed (12 R269, 07 R157). -/
structure Creating where
  op : Nat
  key : KeySlot
  stf : Option StfKey
  number : Option Nat
  acks : List Nat
  due : Nat
  deriving DecidableEq, Repr

/-- A revocation of a group key whose confirmation is awaited (12 R270). -/
structure Revoking where
  op : Nat
  slot : Nat
  acks : List Nat
  due : Nat
  deriving DecidableEq, Repr

/-- A number assigned by this primary (R456): member, and the beat it returns if it stays unconfirmed. -/
structure NumberHeld where
  sat : Nat
  due : Nat
  deriving DecidableEq, Repr

/-- The device group. -/
structure DeviceGroup where
  charter : Option Charter
  joined : Bool
  /-- JOIN has been asked for and goes on (R453). -/
  joining : Bool
  /-- Primary and standby at the highest role epoch seen, and that epoch. -/
  primary : Nat
  standby : Option Nat
  epoch : Nat
  members : List (Nat × Member)
  lastRoute : Nat
  lastRole : Nat
  /-- Members and slots whose granted ends a standby has mirrored since the charter named it (R163). -/
  mirrored : List Nat
  /-- A standby that has taken over acknowledges no mirror of an epoch up to this one (R162). -/
  deafTo : Option Nat
  creating : List Creating
  revoking : List Revoking
  incoming : List Incoming
  numbers : List (Nat × NumberHeld)
  /-- Beats of the last use of the LAT and LN units powered in DORMANT for link work (20 R467). -/
  dormantUse : Option Nat
  deriving DecidableEq, Repr

/-! ### The whole block -/

/-- Mode and reset state (20_modes_resets R462-R470).  Mode codes: 0 BOOT, 1 SERVICE, 2 QUIESCE, 3 DORMANT, 4 SAFE,
5 MAINTENANCE. -/
inductive Mode where
  | boot | service | quiesce | dormant | safe | maintenance
  deriving DecidableEq, Repr

structure Global where
  mode : Mode
  halted : Bool
  recoveryHold : Bool
  draining : Bool
  target : Mode
  /-- The beat of the drain limit, none for no limit (R465). -/
  drainAt : Option Nat
  /-- The drain limit has passed: dispatch has stopped (R465 step 4). -/
  drainPast : Bool
  /-- Operations the drain cancelled (R466). -/
  drainCancelled : Nat
  /-- The mode SAFE or a drain was entered from (R463: engines stay unpowered from DORMANT). -/
  fromDormant : Bool
  cause : Nat
  /-- The active Hemin core, 0 for A and 1 for B, and whether the other stands by (18_boot_update). -/
  activeCore : Nat
  warmCount : Nat
  flrCount : Nat
  /-- PERST# is asserted: the compute die is held in reset (R469). -/
  perst : Bool
  /-- SUP_BEAT_HI as latched by the last read of SUP_BEAT_LO (21 R480). -/
  beatHi : Nat
  deriving DecidableEq, Repr

/-- The state of the block. -/
structure State where
  /-- The metronome beat count (04 R70). -/
  beat : Nat
  /-- The model's own counter of free values drawn (log 5). -/
  fresh : Nat
  glb : Global
  /-- Stored words of the host-writable registers, by BAR0 offset. -/
  regs : List (Nat × Word)
  hp : HostPort
  qm : Queues
  im : Instances
  /-- Operations in flight, in admission order. -/
  ops : List Op
  nextOp : Nat
  kv : Vault
  bufs : List (Nat × Buffer)
  ecl : Eclipses
  mem : Fabric
  sup : Supervisor
  eng : Engines
  ports : List Port
  hf : Cache
  stf : Stateful
  cus : Custody
  grp : DeviceGroup
  fx : Fixity
  /-- Host memory as the device has written it, by address space and IOVA (log 6). -/
  hostMem : List Host.Cell
  /-- Contents of on-chip buffers, by handle and offset; an unlisted byte is unwritten (03 R56). -/
  bufMem : List Host.Cell
  /-- What the device has sent (log 9), oldest first. -/
  outbox : List Sent
  /-- The commands that wait, first in first out. -/
  pending : List Instr
  deriving DecidableEq, Repr

/-- Why the block stops with a fault. -/
inductive Fault where
  /-- An access to a BAR or offset that 21_register_index R474 does not give the device (raised by REGISTER_WRITE): safe,
  the model stops where no behaviour is stated. -/
  | noSuchAddress
  deriving DecidableEq, Repr

/-- Why a command has no meaning. -/
inductive Refusal where
  /-- The command's row has no meaning yet (raised by exec's arm): safe. -/
  | notModelled (mnemonic : String)
  deriving DecidableEq, Repr


/-! ### The state after reset (20_modes_resets R468, R471)

Values the spec gives no number for are named in the assumption log: 16 (settings before the capsule is applied), 17 (a part as it leaves
assembly: blank OTP, MRAM and flash), 18 (supplies, temperatures and calibration). -/

/-- The governed settings, at their capsule defaults until BOOT applies a capsule (log 16). -/
def State.resetRegsA : List (Nat × Word) :=
  [(0x020100, 0x2710#32), (0x020104, 0xA#32), (0x03010C, 0x3200#32), (0x030200, 0x10#32),
   (0x050020, 0x2#32), (0x050200, 0x2600#32), (0x050800, 0x640100#32), (0x050804, 0x10#32),
   (0x050808, 0x5A00040#32), (0x060020, 0x4#32), (0x070020, 0x2#32), (0x080020, 0x400#32),
   (0x080030, 0x64#32), (0x080040, 0x8#32), (0x090040, 0x3E8#32), (0x0A0000, 0x1801E#32)]

def State.resetRegsB : List (Nat × Word) :=
  [(0x0A0020, 0x0#32), (0x0A0040, 0x20#32), (0x0B0610, 0x40A#32), (0x0B0620, 0x2#32),
   (0x0B0700, 0x168#32), (0x0C0140, 0x0#32), (0x0D0000, 0x1#32), (0x0D0100, 0x1#32),
   (0x0D0200, 0x1#32), (0x0D0300, 0x1#32), (0x0D0800, 0x101900A#32), (0x0D0804, 0x10183C#32)]

/-- An instance number that is FREE, and instance 0, which is bound (14 R303, R306; 18 R406). -/
def Inst.blank : Inst :=
  { state := .free, pasid := 0, share := 0, reserve := 0, limit := 0, gen := 1, discards := 0, everBound := false }

def Inst.zero : Inst :=
  { state := .bound, pasid := 0, share := 100, reserve := 64, limit := 512, gen := 1, discards := 0, everBound := true }

def Arbiter.blank : Arbiter := { shares := [], credits := [], grants := 0, lastRing := [] }

def Port.blank : Port :=
  { state := .down, lanes := 0, failed := 0, narrowed := false, peer := 0x3FF, peerUid := [], active := false, lastLoad := 0, lastSent := 0,
    lastHeard := 0, fecCorrected := 0, fecUncorr := 0, dropped := 0, auth := 0, replay := 0, starved := 0, authWindow := (0, 0),
    helloMine := none, helloPeer := none, ctMine := none, rekeying := false, keys := none, keysAt := 0, oldKeys := none, txSeq := 0,
    rxSeq := none, rxOld := none, ackSeq := none, sent := [], unreported := none, channels := List.replicate 3 Channel.blank, queue := [], assembly := none, retryAt := none,
    backoff := 0 }

def Entropy.blank : Entropy := { ok := false, fails := 0 }
def Drbg.blank : Drbg := { seeded := false, requests := 0, lastReseed := 0 }

def Collector.blank : Collector :=
  { first := none, window := none, log := [], lost := 0, gaps := 0, safeByFault := false, sequences := [], live := [], liveDevice := [],
    lastMsg := [], recoveries := [], recovered := 0, stopped := none, stoppedNow := [], blackBox := [], faultNState := true,
    faultNHold := 0, faultNBoot := true }

/-- A calibration item at its factory value. -/
def CalItem.at (v : Int) : CalItem := { factory := v, user := 0, eff := v, clipped := false }

def Update.blank : Update :=
  { copy0 := none, copy1 := none, bank0 := none, bank1 := none, running := none, runningBank := 0, ucode := List.replicate 8 0,
    switching := [], capsuleId := 0, capsule := [], step := 0, result := 0, fellBack := false, failCode := 0, fallbackEvent := none,
    flashLog2 := 0, sfdpOk := false, standbyReady := false, meas := [0, 0, 0, 0] }

def Fabric.blank : Fabric :=
  { leases := List.replicate 128 .free, lost := [], lostUnits := [], weak := [], corrections := 0, remaps := [], lastUe := 0,
    injections := [], behind := false, passes := 0, bistFailed := [], bistDone := false, lastCorrected := [] }

/-- The machine right after a cold reset of a part as it leaves assembly: BOOT is to run. -/
def State.reset : State :=
  { beat := 0, fresh := 0
    glb :=
      { mode := .boot, halted := false, recoveryHold := false, draining := false, target := .boot, drainAt := none, drainPast := false,
        drainCancelled := 0, fromDormant := false, cause := 0, activeCore := 0, warmCount := 0, flrCount := 0, perst := false, beatHi := 0 }
    regs := State.resetRegsA ++ State.resetRegsB
    hp :=
      { d3hot := false, busMaster := true, pmeEn := false, pmeSent := false, msixEnable := false, functionMask := false, lows := [], pba := [],
        ats := [], spdmDoe := 0, spdmMctp := 0, tapIr := 1 }
    qm := { rings := [], errors := [], strayCount := 0, strayInst := 0, strayIndex := 0 }
    im :=
      { insts := [(0, Inst.zero)], arbs := List.replicate 8 Arbiter.blank, waits := [], extWork := 0, extSupply := 0, events := [] }
    ops := [], nextOp := 0
    kv :=
      { slots := [], epochs := [], blobs := [], src0 := Entropy.blank, src1 := Entropy.blank, drbgs := List.replicate 7 Drbg.blank, yieldKey := [] }
    bufs := []
    ecl := { units := [], shaLanes := [], keccakLanes := [], stores := [], core := false }
    mem := Fabric.blank
    sup :=
      { fc := Collector.blank
        supplies := [750, 800, 800, 1800, 900, 1200].map (fun v => { mv := v, warn := false, belowRange := false })
        sensors := List.replicate 8 { temp := 100, eclipsed := false }
        brownout := false, liftAt := none, thermal := none, thermalAt := 0, thermN := false, shutdown := false, refclk := true,
        wyRefclk := true
        cal := [440, 0, 660, 760, 760, 1650, 850, 1130, 0, 0, 0, 0, 0, 0, 0, 0, 100, 110].map CalItem.at }
    eng :=
      { info := { fndsaSpec := 0, fndsaCtx := false, hqcSpec := 0, hqcLens := [] }, cmKeypairs := 0, cmLimits := 0, lnWipes := 0,
        lnLimits := 0, lnOwner := [], lnDirty := [], lnWork := [] }
    ports := List.replicate 4 Port.blank
    hf := { tops := [], pins := [], sets := [], drops := 0 }
    stf := { keys := [], half0 := [], half1 := [], active := 0, seq := 0, skipped := 0, odd := 0, role := 0, epoch := 0, sole := false }
    cus :=
      { otp :=
          { pattern := 0, ownerKill := 0, identityKill := 0, uid := List.replicate 16 0, ownerKeyHash := none, pubelV := none,
            ownerSeed := none, marginBad := [], bad := [] }
        marker := none, lc := .blank, marginMismatch := false, markerFound := false, lcEvent := none, bootEpoch := 0, authFails := 0,
        challenge := none, vddOtpOk := true, session := none, tamperLive := 0, tamperLatched := 0, tamperCount := 0, resetDue := none
        up := Update.blank }
    grp :=
      { charter := none, joined := false, joining := false, primary := 0x3FF, standby := none, epoch := 0, members := [], lastRoute := 0, lastRole := 0,
        mirrored := [], deafTo := none, creating := [], revoking := [], incoming := [], numbers := [], dormantUse := none }
    fx := { streams := [], limit := 0, yieldEntries := 0, yielded := [], yields := 0, saved := [] }
    hostMem := [], bufMem := [], outbox := [], pending := [] }

end Sys2Proof.Machine
end

