-- ==== Sys2Proof/Machine/Flags.lean ====
section
/-! DEFINITION. Status and RESULT codes, the order in which failing checks are reported, and the completion entry's bits
(02_operations R37-R41, 03_descriptors R65, R66). -/
namespace Sys2Proof.Machine

/-- The code of a status (R37). -/
def Status.code : Status → Nat
  | .ok => 0x0000 | .deferred => 0x0001
  | .invalidInput => 0x0101 | .lengthMismatch => 0x0102 | .badLength => 0x0103 | .truncated => 0x0104
  | .overrun => 0x0105 | .outputTooSmall => 0x0106 | .streamState => 0x0107
  | .keyEmpty => 0x0201 | .keyClass => 0x0202 | .keyUsage => 0x0203 | .keySuite => 0x0204 | .keyRevoked => 0x0205
  | .keyDamaged => 0x0206 | .keyOwner => 0x0207 | .keyExhausted => 0x0208 | .noReservation => 0x0209
  | .leaseExpired => 0x020A | .wrapAuth => 0x020B | .keyRejected => 0x020C | .vaultFull => 0x020D
  | .notExportable => 0x020E
  | .badOpcode => 0x0301 | .badSuite => 0x0302 | .badParam => 0x0303 | .malformed => 0x0304 | .badReference => 0x0305
  | .badScatter => 0x0306 | .groupError => 0x0307 | .groupRolledBack => 0x0308
  | .poisonConsumed => 0x0401 | .dmaError => 0x0402 | .dmaTranslation => 0x0403 | .bufferSpace => 0x0404
  | .scratchSmall => 0x0405
  | .engineFault => 0x0501 | .engineEclipsed => 0x0502 | .rngFail => 0x0503 | .retryLimit => 0x0504
  | .aborted => 0x0601 | .notPermitted => 0x0602 | .instanceState => 0x0603
  | .lifecycleState => 0x0701 | .authFailed => 0x0702 | .manifestInvalid => 0x0703 | .updateState => 0x0704
  | .journalFailed => 0x0705
  | .notInGroup => 0x0801 | .primaryUnreachable => 0x0802 | .leaseRefused => 0x0803 | .charterInvalid => 0x0804
  | .peerUnauthenticated => 0x0805 | .replicationFailed => 0x0806

/-- The code of a verdict in RESULT (R40). -/
def Verdict.code : Verdict → Nat
  | .none => 0 | .valid => 1 | .invalid => 2 | .equal => 3 | .notEqual => 4

/-- The row of R39's table a pre-dispatch status stands in.  ENGINE_ECLIPSED (row 8) stands before BUFFER_SPACE and SCRATCH_SMALL (row 9) as
the table has it, though 01 R502 gives it only where every other check passes (log 142). -/
def preRow (st : Status) : Nat :=
  let c := st.code
  if 0x0301 ≤ c ∧ c ≤ 0x0307 then 1
  else if c = 0x0602 ∨ c = 0x0603 then 2
  else if 0x0701 ≤ c ∧ c ≤ 0x0705 then 3
  else if c = 0x0801 then 4
  else if (0x0201 ≤ c ∧ c ≤ 0x0208) ∨ c = 0x020A ∨ c = 0x020D ∨ c = 0x020E then 5
  else if c = 0x0107 then 6
  else if c = 0x0102 ∨ c = 0x0103 ∨ c = 0x0106 then 7
  else if c = 0x0502 then 8
  else if c = 0x0404 ∨ c = 0x0405 then 9
  else 10

/-- R39 as a number to compare: the row first, then the code. -/
def preRank (st : Status) : Nat := preRow st * 65536 + st.code

/-- The smaller of two by a rank, the first where they tie. -/
def leastBy (rank : Status → Nat) : List Status → Option Status
  | [] => none
  | x :: xs =>
    match leastBy rank xs with
    | none => some x
    | some y => if rank x ≤ rank y then some x else some y

/-- The status of an operation that fails before dispatch: the first in R39's order, the lower code within a row. -/
def firstPre (l : List Status) : Option Status := leastBy preRank l

/-- Checks made after dispatch stand in one row of R39: the lower code wins. -/
def firstSlot (l : List Status) : Option Status := leastBy Status.code l

/-- `st` where a check fails. -/
def when_ (b : Bool) (st : Status) : List Status := if b then [st] else []

/-- ORIGIN of a completion entry (R65, R66): RING and FLAGS. -/
def originWord (ring : Nat) (c : Completion) : Nat :=
  ring + 65536 * ofBool c.flags.lineage + 131072 * ofBool c.flags.poison + 262144 * ofBool c.flags.extended
    + 524288 * ofBool c.batch + 1048576 * ofBool c.group

/-- HEAD of a completion entry (R65). -/
def headWord (phase : Bool) (c : Completion) : Nat :=
  c.status.code + 65536 * c.gen + 16777216 * c.verdict.code + 2147483648 * ofBool phase

/-- The 32 bytes of a completion entry (R65). -/
def entryBytes (ring : Nat) (phase : Bool) (c : Completion) : Bytes :=
  leBytes 4 (headWord phase c) ++ leBytes 4 c.tag.toNat ++ leBytes 4 c.outLen
    ++ leBytes 4 (c.covered + 65536 * c.sqIndex) ++ leBytes 4 (originWord ring c) ++ fit 12 c.opdata

/-- An index word (13 R278) from a position on the circle of two orbits: POS and the phase of its orbit. -/
def indexWord (size lin : Nat) : Nat :=
  let l := lin % (2 * size)
  if size ≤ l then (l - size) + 65536 else l

/-- The position an index word names, none where it is invalid: POS not below the size (13 R278). -/
def linOf (size w : Nat) : Option Nat :=
  if bits w 15 0 < size then some (bits w 15 0 + (if bit w 16 then size else 0)) else none

/-- The position an index word of a BAR2 write names, whose reserved bits must be 0 (13 R285, INST_SQ_INVAL). -/
def linStrict (size w : Nat) : Option Nat := if bits w 31 17 = 0 then linOf size w else none

/-- Entries from `head` up to `tail` (13 R278). -/
def used (size tail head : Nat) : Nat := (tail + 2 * size - head) % (2 * size)

/-- The phase of the orbit a position lies on. -/
def phaseOf (size lin : Nat) : Bool := size ≤ lin % (2 * size)

end Sys2Proof.Machine
end

