-- ==== Sys2Proof/Machine/Ops.lean ====
section
/-! DEFINITION. The named operations over memory, registers, rings, instances, reservations, banks and events that the meanings
share. -/
namespace Sys2Proof.Machine

/-! #### Memory in canonical form -/

/-- What a memory holds at a key; none where nothing has been written (log 6). -/
def memRead (m : List Host.Cell) (a : Nat) : Option Byte := lookup a m

/-- One byte written. -/
def memWrite (m : List Host.Cell) (a : Nat) (b : Byte) : List Host.Cell := put a b m

/-- Bytes written from a key on. -/
def memWrites (m : List Host.Cell) (a : Nat) : Bytes → List Host.Cell
  | [] => m
  | b :: bs => memWrites (memWrite m a b) (a + 1) bs

/-- A range returned to the unwritten state. -/
def memErase (m : List Host.Cell) (a len : Nat) : List Host.Cell := m.filter (fun c => c.1 < a || a + len ≤ c.1)

/-- The canonical form: keys strictly rising. -/
abbrev Memory.wf (m : List Host.Cell) : Prop := m.Pairwise (fun a b => a.1 < b.1)

/-- The key of a host byte: the address space (0 without PASID, p + 1 for PASID p; 14 R304) and the IOVA. -/
def hostKey (space iova : Nat) : Nat := space * 2 ^ 64 + iova

/-- The key of a byte of an on-chip buffer: a handle has 14 bits, an offset 22 (03 R47). -/
def bufKey (handle off : Nat) : Nat := handle * 2 ^ 22 + off

/-- Bytes the device writes to host memory. -/
def writeHost (space iova : Nat) (bs : Bytes) (s : State) : State :=
  { s with hostMem := memWrites s.hostMem (hostKey space iova) bs }

/-- Output bytes laid over the pieces of a flat area or of a scatter list. -/
def spread : List (Nat × Nat) → Bytes → List (Nat × Bytes)
  | [], _ => []
  | (a, n) :: ps, bs => if bs.isEmpty then [] else (a, bs.take n) :: spread ps (bs.drop n)

/-- A buffer's bytes written; a word written in part has its other bytes kept where it was written and 0 where it was not
(03 R56). -/
def writeBuf (handle off : Nat) (bs : Bytes) (s : State) : State :=
  if bs.isEmpty then s else
  let lo := off / 4 * 4
  let hi := ceilDiv (off + bs.length) 4 * 4
  let filled := (List.range (hi - lo)).foldl
    (fun m i => if (memRead m (bufKey handle (lo + i))).isNone then memWrite m (bufKey handle (lo + i)) 0 else m) s.bufMem
  { s with bufMem := memWrites filled (bufKey handle off) bs }

/-- One piece of result data written. -/
def writePiece (space : Nat) (p : OutPiece) (s : State) : State :=
  match p.buf with
  | some h => writeBuf h p.addr p.data s
  | none => writeHost space p.addr p.data s

/-- The words of a buffer range returned to the unwritten state (03 R56, 08 R173, 15 R336). -/
def unwriteBuf (handle off len : Nat) (s : State) : State :=
  { s with bufMem := memErase s.bufMem (bufKey handle (off / 4 * 4)) (ceilDiv (off + len) 4 * 4 - off / 4 * 4) }

/-- A range of a buffer as an operation reads it: its bytes, and whether a word of it is poison (never written). -/
def readBuf (handle off len : Nat) (s : State) : Bytes × Bool :=
  let cs := (List.range len).map (fun i => memRead s.bufMem (bufKey handle (off + i)))
  (cs.map (·.getD 0), cs.any (·.isNone))

/-! #### The metronome -/

/-- One beat of the metronome, a 64-bit count from cold reset (04 R70). -/
def tick (s : State) : State := { s with beat := (s.beat + 1) % 2 ^ 64 }

/-! #### Registers -/

/-- A stored register word; the register file holds every host-writable register. -/
def regWord (s : State) (off : Nat) : Word := (lookup off s.regs).getD 0

/-- A field [hi:lo] of a stored register. -/
def setting (s : State) (off hi lo : Nat) : Nat := bits (regWord s off).toNat hi lo

def setReg (off : Nat) (w : Word) (s : State) : State := { s with regs := put off w s.regs }

/-- BAR0 writes are acted on (21 R478), by offset: the rows of the table from the top. -/
def bar0Ok (s : State) (off : Nat) : Bool :=
  if s.hp.d3hot || s.glb.perst then false
  else if s.glb.halted then off == 0x000018 || off == 0x0B0604
  else if s.glb.mode == .boot then
    off == 0x000018 || s.glb.recoveryHold && (0x100000 ≤ off && off < 0x100400 || 0x018000 ≤ off && off < 0x020000)
  else true

/-! #### Counters -/

/-- A counter that saturates. -/
def sat (max x : Nat) : Nat := min max x

/-- The next free value's number (log 5). -/
def draw (s : State) : Nat × State := (s.fresh, { s with fresh := s.fresh + 1 })

/-- `n` free bytes, one draw (DRBG output, undefined contents). -/
def freeBytes (n : Nat) (s : State) : Bytes × State :=
  ((List.range n).map (freeByte s.fresh), { s with fresh := s.fresh + 1 })

/-- `n` bytes that an algorithm gives. -/
def algBytes (a : Alg) (n : Nat) (ps : List Nat) (xs : List Bytes) : Bytes := (List.range n).map (algByte a ps xs)

/-! #### Rings -/

def ring? (s : State) (n : Nat) : Option Ring := lookup n s.qm.rings

def setRing (n : Nat) (r : Ring) (s : State) : State :=
  { s with qm := { s.qm with rings := put n r s.qm.rings, errors := del n s.qm.errors } }

def updRing (n : Nat) (f : Ring → Ring) (s : State) : State := { s with qm := { s.qm with rings := adjust n f s.qm.rings } }

/-- Positions of a ring (13 R274). -/
def Ring.size (r : Ring) : Nat := 2 ^ r.sizeLog2

/-- The enabled ring of an instance at a doorbell index (13 R274, R282). -/
def ringAt (s : State) (inst d : Nat) : Option (Nat × Ring) :=
  s.qm.rings.find? (fun e => e.2.enabled && e.2.inst == inst && e.2.dbIndex == d)

/-- The completion ring is full (13 R295). -/
def cqFull (r : Ring) : Bool := used r.size r.cqTail r.cqHead == r.size

/-- Holding slots that a ring's released work still holds (14 R315). -/
def ringHolds (r : Ring) : Nat :=
  (r.outq.map (·.covered)).sum
    + (r.batches.map (fun b => (b.members.filter (·.done.isSome)).length)).sum
    + (r.groups.map (fun g => (g.members.filter (·.done.isSome)).length)).sum

/-- Release store granules a ring's released work still holds. -/
def cplGranules (c : Completion) : Nat := if c.dataDone then 0 else c.granules
def ringGranules (r : Ring) : Nat :=
  (r.outq.map cplGranules).sum
    + (r.batches.map (fun b => (b.members.map (fun m => (m.done.map cplGranules).getD 0)).sum)).sum
    + (r.groups.map (fun g => (g.members.map (fun m => (m.done.map cplGranules).getD 0)).sum)).sum

/-- A completion of the ring is held: it could not be written when it was released, and the backlog timer runs (13 R297). -/
def ringHeld (r : Ring) : Bool := r.backlogAt.isSome || r.backlogLeft.isSome

/-- A released completion of the ring waits, or will because its ring is full (13 R295, IM_INST_n_COUNT.STALLED). -/
def ringStalled (r : Ring) : Bool := !r.outq.isEmpty && (cqFull r || ringHeld r)

/-! #### Instances (14_instances) -/

def instOf (s : State) (n : Nat) : Inst :=
  (lookup n s.im.insts).getD
    { state := .free, pasid := 0, share := 0, reserve := 0, limit := 0, gen := 1, discards := 0, everBound := false }

def setInst (n : Nat) (i : Inst) (s : State) : State := { s with im := { s.im with insts := put n i s.im.insts } }

def updInst (n : Nat) (f : Inst → Inst) (s : State) : State := setInst n (f (instOf s n)) s

/-- The address space of an instance's requests (R304). -/
def spaceOf (s : State) (n : Nat) : Nat := if n = 0 then 0 else (instOf s n).pasid + 1

/-- The count of R317. -/
def instCount (s : State) (n : Nat) : Nat :=
  (s.ops.filter (·.inst == n)).length + ((s.qm.rings.filter (·.2.inst == n)).map (fun e => ringHolds e.2)).sum

def holdsUsed (s : State) : Nat := s.ops.length + (s.qm.rings.map (fun e => ringHolds e.2)).sum

def bound (i : Inst) : Bool := i.state != .free

/-- The sum of RESERVE over bound instances (R317). -/
def reservedSum (s : State) : Nat := ((s.im.insts.filter (fun e => bound e.2)).map (·.2.reserve)).sum

/-- Holding slots drawn from the shared pool (R317). -/
def sharedUsed (s : State) : Nat :=
  ((s.im.insts.filter (fun e => bound e.2)).map (fun e => instCount s e.1 - e.2.reserve)).sum

/-- An instance has a completion held for a full ring (R295, R316). -/
def stalled (s : State) (n : Nat) : Bool := s.qm.rings.any (fun e => e.2.inst == n && ringStalled e.2)

/-- Release store granules of one operation (R315). -/
def opGranules (d : Desc) : Nat := ceilDiv (min d.outCap 65536) 256

def granulesUsed (s : State) : Nat :=
  (s.ops.map (fun o => opGranules o.desc)).sum + (s.qm.rings.map (fun e => ringGranules e.2)).sum

/-! #### Operations in flight -/

def op? (s : State) (id : Nat) : Option Op := s.ops.find? (·.id == id)

def updOp (id : Nat) (f : Op → Op) (s : State) : State :=
  { s with ops := s.ops.map (fun o => if o.id = id then f o else o) }

def dropOp (id : Nat) (s : State) : State := { s with ops := s.ops.filter (·.id != id) }

def opClass (d : Desc) : Nat := d.opcode / 256

/-- Dispatched and not yet released. -/
def dispatched (o : Op) : Bool := o.stage == .running || o.stage == .finished

/-! #### Sending, and device events (16 R369) -/

def send (m : Sent) (s : State) : State := { s with outbox := s.outbox ++ [m] }

/-- The first event that becomes pending in D3hot sends a PME message where PME_En is set (14 R330). -/
def wakePme (s : State) : State :=
  if s.hp.d3hot && s.hp.pmeEn && !s.hp.pmeSent then send .pme { s with hp := { s.hp with pmeSent := true } } else s

/-- Device event k occurs: DETAIL and COUNT are written, PENDING is set, and its message is due where its vector is VALID
(14 R326, R327). -/
def raise_ (k detail : Nat) (s : State) : State :=
  let old := (lookup k s.im.events).getD { detail := 0, count := 0, pending := false, unsent := false }
  let valid := bit (regWord s (0x03C000 + 4 * k)).toNat 31
  let ev : DevEvent :=
    { detail := detail % 2 ^ 24, count := sat 127 (old.count + 1), pending := true, unsent := old.unsent || valid }
  let s := { s with im := { s.im with events := put k ev s.im.events } }
  if valid then wakePme s else s

/-! #### Units, energy and banks -/

/-- How many units of a kind there are (01, "Thirteen subsystems"). -/
def unitTotal : UnitKind → Nat
  | .lat => 64 | .hf => 16 | .code => 8 | .elim => 2 | .ln => 32 | .lane => 64 | .gcm => 16 | .kv => 1

/-- The energy grant of a unit in 1/64 credit (16 R370, R506). -/
def unitEnergy : UnitKind → Nat
  | .lat => 108 | .hf => 312 | .code => 352 | .elim => 448 | .ln => 124 | .lane => 32 | .gcm => 56 | .kv => 0

/-- The opcode classes whose control store a kind runs from (16 R366). -/
def storeClasses : UnitKind → List Nat
  | .lat => [1] | .hf => [2, 3] | .code | .elim => [4] | .ln => [5] | .lane | .gcm => [6] | .kv => [7]

/-- A unit is live: neither it nor its class's control store is eclipsed. -/
def unitLive (s : State) (u : UnitRef) : Bool :=
  !s.ecl.units.contains u && !(storeClasses u.kind).any s.ecl.stores.contains

def liveUnits (s : State) (k : UnitKind) : List Nat :=
  (List.range (unitTotal k)).filter (fun n => unitLive s ⟨k, n⟩)

/-- What a set's engine information can read (05, LAT_INFO and R105; 08, CODE_INFO and R178): the revisions have 8 bits, FNDSA_CTX is 0 without a
revision and 1 under revision 0x01, and HQC revision 0x01 fixes the lengths. -/
def normEngines (e : EngineInfo) : EngineInfo :=
  { fndsaSpec := e.fndsaSpec % 256
    fndsaCtx := e.fndsaSpec % 256 != 0 && (e.fndsaSpec % 256 == 1 || e.fndsaCtx)
    hqcSpec := e.hqcSpec % 256
    hqcLens := if e.hqcSpec % 256 = 1 then [(2249, 4433, 2305, 64), (4522, 8978, 4586, 64), (7245, 14421, 7317, 64)] else e.hqcLens }

/-- The classes none of whose units still has to switch run the running set's microcode (18 R412, R423). -/
def settleSwitch (s : State) : State :=
  match s.cus.up.running with
  | none => s
  | some x =>
    let done (c : Nat) : Bool := !s.cus.up.switching.any (fun u => (storeClasses u.kind).contains c)
    let old := s.eng.info
    let new := normEngines x.engines
    let info := if done 1 then { old with fndsaSpec := new.fndsaSpec, fndsaCtx := new.fndsaCtx } else old
    let info := if done 4 then { info with hqcSpec := new.hqcSpec, hqcLens := new.hqcLens } else info
    { s with
      eng := { s.eng with info := info }
      cus := { s.cus with up := { s.cus.up with ucode := (List.range 8).map (fun k =>
        if done (k + 1) then x.patchRevs.getD k 0 else s.cus.up.ucode.getD k 0) } } }

/-- Units that end an operation, or are re-initialised, take the running set's microcode (18 R423). -/
def switchUnits (us : List UnitRef) (s : State) : State :=
  if s.cus.up.switching.isEmpty then s
  else settleSwitch { s with cus := { s.cus with up := { s.cus.up with switching := s.cus.up.switching.filter (fun u => !us.contains u) } } }

/-- Units given to operations that have not finished. -/
def busyUnits (s : State) : List UnitRef :=
  s.ops.flatMap (fun o => if o.stage == .leased || o.stage == .running then o.units else [])

/-- Energy grants in use, in 1/64 credit (16 R372): held from the grant until the engine finishes. -/
def energyUsed (s : State) : Nat :=
  (s.ops.map (fun o => if o.stage == .admitted || o.stage == .finished then 0 else o.energy)).sum

/-- The lowest-numbered free banks, `n` of them; none where there are too few. -/
def freeBanks (s : State) (n : Nat) : Option (List Nat) :=
  let fs := (List.range 128).filter (fun b => s.mem.leases.getD b .withdrawn == .free)
  if n ≤ fs.length then some (fs.take n) else none

def setLeases (bs : List Nat) (l : Lease) (s : State) : State :=
  { s with mem := { s.mem with leases := bs.foldl (fun ls b => setAt ls b l) s.mem.leases } }

/-- Banks given back: each is wiped before it returns to the pool (15 R336, R344). -/
def returnBanks (bs : List Nat) (s : State) : State := setLeases bs .wiping s

/-- Banks held by on-chip buffers (03, MEM_BUF_CTRL.BANKS_USED). -/
def bufBanks (s : State) : Nat := (s.mem.leases.filter (fun l => match l with | .buffer _ => true | _ => false)).length

end Sys2Proof.Machine
end

