-- ==== Sys2Proof/Machine/Roots.lean ====
section
/-! DEFINITION. Keys the device derives for itself, its identity key, and the hashes and signatures of its own checks (12_key_vault R257-R259;
17_lifecycle R386; 19_wyrum_groups R448). -/
namespace Sys2Proof.Machine

/-- KMAC256(K, X, 8·n, S). -/
def kmac (key x : Bytes) (n : Nat) (custom : String) : Bytes := algBytes .kmac n [] [key, x, ascii custom]

/-- A key the device derives for itself (12 R259). -/
def internalKey (root : Bytes) (label : String) : Bytes := kmac root (ascii label) 32 "KLQ internal"

/-- PUBEL_V, for identity. -/
def rootV (s : State) : Bytes := algBytes .pubelRoot 32 [2] [s.cus.otp.pubelV.getD []]

/-- PUBEL_O, from the vendor's and the owner's seeds. -/
def rootO (s : State) : Bytes := algBytes .pubelRoot 32 [3] [s.cus.otp.pubelV.getD [], s.cus.otp.ownerSeed.getD []]

/-- The keys PUBEL_O gives: for the SEAL of journal records (07 R148), for persisted blobs (12 R266), and for lease records. -/
def journalKey (s : State) : Bytes := internalKey (rootO s) "journal"
def blobKey (s : State) : Bytes := internalKey (rootO s) "mram blob"
def leaseAuthKey (s : State) : Bytes := internalKey (rootO s) "lease"

/-! #### SHA3-256 and signatures of the device's own checks -/

def sha3_256 (m : Bytes) : Bytes := algBytes .hash 32 [7] [m]

/-- Pure ML-DSA-87 with a context (R386, 18 R401, 19 R448). -/
def mldsa87Ok (ctx : String) (pk msg sig : Bytes) : Bool := algBool .signatureOk [3] [ascii ctx, pk, msg, sig]

/-- The device identity key pair's public key: ML-DSA-87, from PUBEL_V's "identity" seed (12 R259). -/
def identityKey (s : State) : Bytes := algBytes .mldsaPublic 2592 [3] [internalKey (rootV s) "identity"]

end Sys2Proof.Machine
end

