-- ==== Sys2Proof/Machine/Operands.lean ====
section
/-! DEFINITION. Operand forms: the descriptor layout, key references, the four kinds of operand reference, scatter lists, and the
checks of 03_descriptors (R43-R53) that a descriptor alone decides. -/
namespace Sys2Proof.Machine

/-- The descriptor a 128-byte entry spells (R43, little-endian under R3). -/
def decodeDesc (e : Bytes) : Desc :=
  let ctl := field e 0 4
  { opcode := bits ctl 15 0, phase := bit ctl 31, batch := bit ctl 30, batchLast := bit ctl 29,
    group := bit ctl 28, groupLast := bit ctl 27, fence := bit ctl 26, ctlReserved := bits ctl 25 16,
    tag := BitVec.ofNat 32 (field e 4 4), suite := field e 8 2, param := field e 10 2,
    keyA := field e 12 2, keyB := field e 14 2, inLen := field e 16 8, inRef := field e 24 8,
    outRef := field e 32 8, outCap := field e 40 4, auxLen := field e 44 4, auxRef := field e 48 8,
    expRef := field e 56 8, inl := fit 64 (slice e 64 64) }

/-- CTL combinations that make an entry malformed (R44). -/
def ctlMalformed (d : Desc) : Bool :=
  (d.batchLast && !d.batch) || (d.groupLast && !d.group) || (d.batch && d.group) || d.ctlReserved != 0

/-! #### Key references (R45) -/

def keyPresent (k : Nat) : Bool := bit k 15
def keyLocal (k : Nat) : Bool := bit k 14
def keySlot (k : Nat) : Nat := bits k 13 0
/-- With LOCAL 1, the member index; its upper bits must be 0. -/
def keyMember (k : Nat) : Nat := bits k 3 0

/-- How an opcode uses a key field (R46). -/
inductive KeyUse where
  | unused | required | optional
  deriving DecidableEq, Repr

/-- What R45 and R46 say of one key field: MALFORMED for a value with PRESENT 0 that is not 0, a non-zero unused field
and a required field that reads 0, and for LOCAL 1 with bits [13:4] not 0. -/
def keyFieldBad (u : KeyUse) (k : Nat) : Bool :=
  match u with
  | .unused => k != 0
  | .required => !keyPresent k || (keyLocal k && bits k 13 4 != 0)
  | .optional => k != 0 && (!keyPresent k || (keyLocal k && bits k 13 4 != 0))

/-! #### References (R47, R48, R53) -/

/-- The kinds of reference (R47); the value 0 is no reference. -/
inductive RefKind where
  | none | flat | scatter | buffer | inline
  deriving DecidableEq, Repr

def refKind (r : Nat) : RefKind :=
  if r = 0 then .none
  else match bits r 63 62 with
    | 0 => .flat
    | 1 => .scatter
    | 2 => .buffer
    | _ => .inline

/-- The bits a kind says must be 0 are 0 (R47).  A flat IOVA is not 0 because the whole value is not. -/
def refBitsOk (r : Nat) : Bool :=
  match refKind r with
  | .none | .flat => true
  | .scatter => bits r 3 0 == 0
  | .buffer => bits r 61 54 == 0 && bits r 31 14 == 0
  | .inline => bits r 61 6 == 0

/-- The address a scatter reference names: the reference's bits [61:0], whose low four bits are 0 (R47). -/
def scatterAddr (r : Nat) : Nat := bits r 61 0
def bufHandle (r : Nat) : Nat := bits r 13 0
def bufOffset (r : Nat) : Nat := bits r 53 32
def inlineOffset (r : Nat) : Nat := bits r 5 0

/-- An inline reference stays within the 64 INLINE bytes (R53). -/
def inlineFits (r len : Nat) : Bool :=
  match refKind r with
  | .inline => inlineOffset r + len ≤ 64
  | _ => true

/-- One used reference with its matching length: BAD_REFERENCE unless it is of an accepted kind, its must-be-0 bits
are 0, it fits, and it is 0 exactly when the length is (R46-R48, R53). -/
def refOk (kinds : List RefKind) (r len : Nat) : Bool :=
  if len = 0 then r == 0
  else r != 0 && kinds.contains (refKind r) && refBitsOk r && inlineFits r len

def anyInput : List RefKind := [.flat, .scatter, .buffer, .inline]
def hostOnly : List RefKind := [.flat, .scatter]
def hostOrInline : List RefKind := [.flat, .scatter, .inline]
def inlineOnly : List RefKind := [.inline]
def anyOutput : List RefKind := [.flat, .scatter, .buffer]
def bufferOnly : List RefKind := [.buffer]
def anyExpect : List RefKind := [.flat, .inline]

/-- Which fields an opcode uses (R46), the reference kinds it accepts where they are fewer than R48 allows (R504, R56), and the
length of the expected values where it has any (R43). -/
structure Uses where
  keyA : KeyUse := .unused
  keyB : KeyUse := .unused
  /-- IN_LEN is used. -/
  inLen : Bool := false
  /-- IN_REF is used; BUF_CREATE uses the length alone (R54). -/
  inRef : Bool := false
  inKinds : List RefKind := anyInput
  /-- The bytes it names are read (BUF_FREE reads none, R57). -/
  inData : Bool := true
  aux : Bool := false
  /-- The auxiliary bytes are read before they are written (not the scratch of TREE_REDUCED, 06 R131). -/
  auxData : Bool := true
  out : Bool := false
  outKinds : List RefKind := anyOutput
  expLen : Nat := 0
  deriving DecidableEq, Repr

/-- BAD_REFERENCE as the descriptor alone decides it. -/
def refsBad (u : Uses) (d : Desc) : Bool :=
  (if u.inRef then !refOk u.inKinds d.inRef d.inLen else d.inRef != 0)
  || (if u.aux then !refOk anyInput d.auxRef d.auxLen else d.auxRef != 0)
  || (if u.out then !refOk u.outKinds d.outRef d.outCap else d.outRef != 0)
  || (if u.expLen = 0 then d.expRef != 0 else !refOk anyExpect d.expRef u.expLen)

/-- A non-zero unused length completes with BAD_LENGTH (R46). -/
def lengthsBad (u : Uses) (d : Desc) : Bool :=
  (!u.inLen && d.inLen != 0) || (!u.aux && d.auxLen != 0) || (!u.out && d.outCap != 0)

/-- MALFORMED as the descriptor alone decides it (R44-R46). -/
def malformed (u : Uses) (d : Desc) : Bool :=
  ctlMalformed d || keyFieldBad u.keyA d.keyA || keyFieldBad u.keyB d.keyB

/-! #### Scatter lists (R50-R52) -/

/-- One 16-byte entry (R50). -/
structure ScatterEntry where
  addr : Nat
  len : Nat
  chain : Bool
  last : Bool
  reserved : Bool
  deriving DecidableEq, Repr

def decodeScatter (e : Bytes) : ScatterEntry :=
  let flags := field e 12 4
  { addr := field e 0 8, len := field e 8 4, chain := bit flags 0, last := bit flags 1,
    reserved := bits flags 31 2 != 0 }

/-- An entry R51 does not allow. -/
def scatterEntryBad (e : ScatterEntry) : Bool :=
  e.reserved || (e.chain && e.last)
  || (e.chain && (e.len != 0 || e.addr % 16 != 0))
  || (!e.chain && (e.len == 0 || bits e.addr 63 62 != 0))

/-- The walk of R51 over the entries in the order they are read: the pieces, or none where the list is malformed.
`d` and `c` count the data and chain entries so far; a list that ends without LAST is one whose read failed. -/
def walkScatter : List Bytes → Nat → Nat → Option (List (Nat × Nat))
  | [], _, _ => none
  | w :: ws, d, c =>
    let e := decodeScatter w
    if scatterEntryBad e then none
    else if e.chain then
      if c + 1 > 64 then none else walkScatter ws d (c + 1)
    else if d + 1 > 4096 then none
    else if e.last then some [(e.addr, e.len)]
    else (walkScatter ws (d + 1) c).map ((e.addr, e.len) :: ·)

/-- The sum of a list's pieces, which must equal the matching length (R52). -/
def scatterSum (ps : List (Nat × Nat)) : Nat := (ps.map (·.2)).sum

end Sys2Proof.Machine
end

