-- ==== Sys2Proof/Machine/KvOps.lean ====
section
/-! DEFINITION. Operations over the key vault that every family shares: slots, epochs, lineage, templates, the key checks of stage 5
and the effects a transaction group stages (12_key_vault R243-R268, R505). -/
namespace Sys2Proof.Machine

/-! #### Slots, epochs, space -/

def slot? (v : Vault) (n : Nat) : Option KeySlot := lookup n v.slots

/-- The 32-bit epoch counter of a number (R262). -/
def epoch (v : Vault) (n : Nat) : Nat := (lookup n v.epochs).getD 0

def putSlot (n : Nat) (k : KeySlot) (v : Vault) : Vault := { v with slots := put n k v.slots }

def updKv (f : Vault → Vault) (s : State) : State := { s with kv := f s.kv }

/-- Granules of a slot (R244): private and secret values count twice. -/
def granulesFor (privLen pubLen : Nat) : Nat := ceilDiv (2 * privLen + pubLen) 256

def arenaFree (v : Vault) : Nat := 32768 - (v.slots.map (·.2.granules)).sum

/-- The depth of a slot is the length of its lineage vector (R263). -/
def depth (k : KeySlot) : Nat := k.lineage.length

/-- The MRAM granules of a blob with `deep` ancestors that carries `len` bytes of material (R266). -/
def blobSize (deep len : Nat) : Nat := ceilDiv (64 + 8 * deep + 8 * ceilDiv len 8 + 8) 256

def blobGranules (k : KeySlot) : Nat := blobSize (depth k) (if k.publicOnly then k.pub.length else k.priv.length)

/-- Granules of the blob a STAGED slot is to be persisted in: taken with its arena granules (01 R503). -/
def stagedBlob (k : KeySlot) : Nat := if k.state == .staged && k.persist then blobGranules k else 0

def mramFree (v : Vault) : Nat := 16384 - ((v.blobs.map (·.2.granules)).sum + (v.slots.map (fun e => stagedBlob e.2)).sum)

/-- Every ancestor's epoch is the one recorded (R263). -/
def lineageOk (v : Vault) (l : List (Nat × Nat)) : Bool := l.all (fun a => epoch v a.1 == a.2)

/-- The lineage vector of a child of slot `n`. -/
def childLineage (v : Vault) (n : Nat) : List (Nat × Nat) :=
  (n, epoch v n) :: ((slot? v n).map (·.lineage)).getD []

/-- An operation in flight holds a reference to a slot: dispatched with it and its unit not yet done (R264). -/
def referenced (s : State) (n : Nat) : Bool :=
  s.ops.any (fun o => o.stage == .running && o.held.any (·.1 == n))

/-- The lowest FREE number in [lo, hi) (DESIGN CHOICE, log 7). -/
def freeNumber (lo hi : Nat) (v : Vault) : Option Nat := firstFree lo hi v.slots

/-- Numbers of ordinary slots and buffers (R243). -/
def ordinaryNumber (v : Vault) : Option Nat := freeNumber 0 15360 v

/-- A blank slot entry in a given state. -/
def blankSlot (st : SlotState) (owner : Nat) : KeySlot :=
  { state := st, suite := 0, dest := 0, usage := 0, persist := false, shared := false, hostTag := 0, owner := owner,
    publicOnly := true, fromRoot := false, lineage := [], priv := [], pub := [], expanded := [], hqcRev := 0, granules := 0 }

/-- A number freed without an epoch increment: a staged number that never left its group or operation (R254, R505). -/
def unstage (n : Nat) (v : Vault) : Vault := { v with slots := del n v.slots }

/-- The epoch counter increments and, at its last value, its number is RETIRED (R262); true where it is retired. -/
def bumpEpoch (n : Nat) (v : Vault) : Vault :=
  { v with epochs := put n (min 0xFFFFFFFF (epoch v n + 1)) v.epochs }

def retiredNow (n : Nat) (v : Vault) : Bool := epoch v n == 0xFFFFFFFF

/-- A number freed with its epoch incremented (R262), or put in RETIRED. -/
def freeSlot (n : Nat) (v : Vault) : Vault :=
  let v := bumpEpoch n v
  { v with
    slots := if retiredNow n v then put n (blankSlot .retired 0) v.slots else del n v.slots
    blobs := del n v.blobs }

/-- Descendants whose lineage no longer matches become REVOKED; their blobs are erased in the same transaction (R264, R266). -/
def sweep (v : Vault) : Vault :=
  let dead (e : Nat × KeySlot) : Bool :=
    (e.2.state == .live || e.2.state == .damaged) && !lineageOk v e.2.lineage
  { v with
    blobs := v.blobs.filter (fun b => !v.slots.any (fun e => e.1 == b.1 && dead e))
    slots := v.slots.map (fun e => if dead e then (e.1, { e.2 with state := .revoked, persist := false }) else e) }

/-- KEY_INVALIDATE on the vault (R264): the epoch increments, the slot is REVOKED, or RETIRED at the last epoch (R262), its descendants
with it. -/
def invalidateSlot (n : Nat) (v : Vault) : Vault :=
  let v := bumpEpoch n v
  let st : SlotState := if retiredNow n v then .retired else .revoked
  sweep { v with
    blobs := del n v.blobs
    slots := adjust n (fun k => { k with state := st, persist := false }) v.slots }

/-- KEY_DESTROY on the vault (R265): the epoch increments, descendants are revoked, and the slot is WIPING. -/
def destroySlot (n : Nat) (v : Vault) : Vault :=
  let v := bumpEpoch n v
  sweep { v with
    blobs := del n v.blobs
    slots := adjust n (fun k => { k with state := .wiping, priv := [], pub := [], expanded := [] }) v.slots }

/-- The slot's key is in force or about to be, or an operation still uses it: its cached trees stay. -/
def keepsTrees (s : State) (n : Nat) : Bool :=
  referenced s n || (match slot? s.kv n with
    | some k => k.state == .live || k.state == .staged || k.state == .damaged
    | none => false)

/-- What is left of a slot number to which no reference is left: WIPING becomes FREE (R265), or RETIRED at its last epoch (R262); the
material of REVOKED ones is wiped (R264), and nothing is left of RETIRED ones. -/
def sweptSlot (v : Vault) (e : Nat × KeySlot) : Option (Nat × KeySlot) :=
  match e.2.state with
  | .wiping => if retiredNow e.1 v then some (e.1, blankSlot .retired 0) else none
  | .retired => some (e.1, blankSlot .retired 0)
  | .revoked => some (e.1, { e.2 with priv := [], pub := [], expanded := [] })
  | _ => some e

/-- A sign dispatched before the layer was unpinned has not finished (06 R124). -/
def inUse (s : State) (p : Pin) : Bool := s.ops.any (fun o => o.stage == .running && p.users.contains o.id)

/-- The slots to which no reference is left are swept, and the cached trees of slots no longer in use are freed (06 R121, R124). -/
def sweepWiping (s : State) : State :=
  let s := updKv (fun v => { v with
    slots := v.slots.filterMap (fun e => if referenced s e.1 || (lookup e.1 s.bufs).isSome then some e else sweptSlot v e) }) s
  { s with
    hf := { s.hf with
      tops := s.hf.tops.filter (fun e => keepsTrees s e.1)
      pins := s.hf.pins.filter (fun e => keepsTrees s e.2.slot && !(e.2.closing && !inUse s e.2)) } }

/-- What a blob carries of a slot (R266): a lattice private key goes by its seed alone (05 R89), and nothing derived goes with any. -/
def blobOf (k : KeySlot) : KeySlot :=
  { k with pub := if (k.suite / 256 == 1 || k.suite / 256 == 2) && !k.publicOnly then [] else k.pub, expanded := [] }

/-- KEY_PERSIST on the vault: the blob is written, or written again, with the slot's present attributes. -/
def persistSlot (n : Nat) (v : Vault) : Vault :=
  match slot? v n with
  | none => v
  | some k =>
    let k' := { k with persist := true }
    { v with slots := put n k' v.slots, blobs := put n { slot := blobOf k', granules := blobGranules k', sound := true } v.blobs }

/-- The owner's change of a slot's record; a persisted slot's blob is rewritten in the same transaction (R255). -/
def setAttrSlot (n : Nat) (k : KeySlot) (v : Vault) : Vault :=
  let v := putSlot n k v
  if (lookup n v.blobs).isSome then persistSlot n v else v

/-- A group effect put in force, at the commit or in the group's own view (03 R62, 12 R254). -/
def applyKv (v : Vault) : KvEffect → Vault
  | .create n k => if ((slot? v n).map (·.state)) = some .damaged then v else putSlot n { k with state := .live } v
  | .setAttr n k => setAttrSlot n k v
  | .invalidate n => invalidateSlot n v
  | .persist n => persistSlot n v
  | .destroy n => destroySlot n v

/-! #### Transaction groups -/

/-- The group an operation belongs to: its ring's number and the group. -/
def groupOf (s : State) (o : Op) : Option Group :=
  (ring? s o.ring).bind (fun r => r.groups.find? (fun g => g.members.any (·.op == o.id)))

/-- The vault as an operation sees it: a group's members see what the earlier members have staged (R62, R243). -/
def viewOf (s : State) (o : Op) : Vault :=
  match groupOf s o with
  | none => s.kv
  | some g => (g.members.flatMap (·.effects)).foldl applyKv s.kv

/-- The slot a key field names: LOCAL through the group's member (R45). -/
def resolveKey (s : State) (o : Op) (k : Nat) : Option Nat :=
  if !keyPresent k then none
  else if keyLocal k then (groupOf s o).bind (fun g => (g.members[keyMember k]?).bind (·.created))
  else some (keySlot k)

/-! #### Key checks of stage 5 (R16, R28, R243, R246, R250) -/

def usageSign : Nat := 0
def usageVerify : Nat := 1
def usageEncaps : Nat := 2
def usageDecaps : Nat := 3
def usageAgree : Nat := 4
def usageDerive : Nat := 5
def usageWrap : Nat := 6
def usageUnwrap : Nat := 7
def usageMac : Nat := 8
def usageEncrypt : Nat := 9
def usageDecrypt : Nat := 10
def usageExport : Nat := 11

def destLat : Nat := 0
def destHf : Nat := 1
def destCode : Nat := 2
def destLn : Nat := 3
def destFx : Nat := 4
def destKv : Nat := 5
def destGroup : Nat := 6

/-- What an operation requires of a key. -/
structure KeyNeed where
  /-- The suite it must have (R28). -/
  suite : Nat → Bool
  /-- The destination bit it must name (R16), none where it is not checked. -/
  dest : Option Nat
  /-- The usage bit it must carry (R250). -/
  usage : Option Nat
  /-- Only the owner and instance 0 may do this (R246). -/
  manage : Bool := false
  /-- States besides LIVE it may act on (KEY_DESTROY). -/
  anyState : Bool := false

/-- The failing key checks on slot `n`, as `inst` uses it; the lower code wins (R39). -/
def keyFails (v : Vault) (inst : Nat) (need : KeyNeed) (n : Nat) : List Status :=
  match slot? v n with
  | none => [.keyEmpty]
  | some k =>
    match k.state with
    | .free | .staged | .buffer | .wiping | .retired => [.keyEmpty]
    | .live | .revoked | .damaged =>
      when_ (match need.dest with | some b => !bit k.dest b | none => false) .keyClass
      ++ when_ (match need.usage with | some b => !bit k.usage b | none => false) .keyUsage
      ++ when_ (!need.suite k.suite) .keySuite
      ++ when_ (!need.anyState && (k.state == .revoked || !lineageOk v k.lineage)) .keyRevoked
      ++ when_ (!need.anyState && k.state == .damaged) .keyDamaged
      ++ when_ (if need.manage then k.owner != inst && inst != 0 else k.owner != inst && !k.shared) .keyOwner

/-- A STAGED number is reached through a LOCAL reference alone (R243). -/
def byNumber (s : State) (k n : Nat) : Bool := !keyLocal k && ((slot? s.kv n).map (·.state)) == some .staged

/-- The checks on a key field. -/
def keyFieldFails (s : State) (o : Op) (need : KeyNeed) (k : Nat) : List Status :=
  if k = 0 then [] else
  match resolveKey s o k with
  | none => [.keyEmpty]
  | some n => if byNumber s k n then [.keyEmpty] else keyFails (viewOf s o) o.inst need n

/-- The slot record a key field names, as the operation sees it. -/
def keyOf (s : State) (o : Op) (k : Nat) : Option KeySlot := (resolveKey s o k).bind (slot? (viewOf s o))

def keyPriv (s : State) (o : Op) (k : Nat) : Bytes := ((keyOf s o k).map (·.priv)).getD []
def keyPub (s : State) (o : Op) (k : Nat) : Bytes := ((keyOf s o k).map (·.pub)).getD []
def keyExpanded (s : State) (o : Op) (k : Nat) : Bytes := ((keyOf s o k).map (·.expanded)).getD []

/-- The references an operation is given: the slot and its ancestors with their epochs (01 "Lineage", R263). -/
def keyRefs (s : State) (o : Op) (k : Nat) : List (Nat × Nat) :=
  match resolveKey s o k with
  | none => []
  | some n => childLineage (viewOf s o) n

/-- A key the operation held has been invalidated since (03 R66). -/
def lineageLost (s : State) (o : Op) : Bool := !lineageOk s.kv o.held

/-- A slot whose arena granules hold an uncorrectable error becomes DAMAGED and its granules are wiped (R268). -/
def damageSlot (n : Nat) (s : State) : State :=
  match slot? s.kv n with
  | some k =>
    if k.state == .live || k.state == .staged then
      raise_ 160 n (updKv (putSlot n { k with state := .damaged, priv := [], pub := [], expanded := [] }) s)
    else s
  | none => s

/-! #### Templates (R248, R249) -/

/-- An attribute template. -/
structure Template where
  suite : Nat
  dest : Nat
  usage : Nat
  flags : Nat
  hostTag : Nat
  newOwner : Nat
  reserved : Bool
  deriving DecidableEq, Repr

def decodeTemplate (b : Bytes) : Template :=
  let dest := field b 2 2
  let usage := field b 4 4
  let flags := field b 8 1
  let own := field b 12 2
  { suite := field b 0 2, dest := dest, usage := usage, flags := flags, hostTag := field b 10 2, newOwner := own,
    reserved := bits dest 15 7 != 0 || bits usage 31 12 != 0 || bits flags 7 2 != 0 || field b 9 1 != 0
      || bits own 14 10 != 0 || field b 14 2 != 0 }

def mask (bs : List Nat) : Nat := (bs.map (2 ^ ·)).sum

/-- USAGE and DEST that R249's table allows for a slot kind, by suite and by whether it is a private (or secret) slot. -/
def allowedUsage (suite : Nat) (priv : Bool) : Nat :=
  let set := suite % 256
  match suite / 256 with
  | 1 => mask (if priv then [usageEncaps, usageDecaps, usageExport] ++ (if set = 3 then [usageUnwrap] else [])
               else [usageEncaps] ++ (if set = 3 then [usageWrap] else []))
  | 2 | 4 => mask (if priv then [usageSign, usageVerify, usageExport] else [usageVerify])
  | 3 | 12 => mask [usageVerify]
  | 5 | 6 => mask (if priv then [usageSign, usageVerify] else [usageVerify])
  | 7 => mask [usageDecaps, usageExport]
  | 8 => mask (if priv then [usageEncaps, usageDecaps, usageExport] else [usageEncaps])
  | 9 => mask (if priv then [usageSign, usageVerify, usageAgree, usageExport] else [usageVerify, usageAgree])
  | 10 =>
    if set ≤ 3 then mask (if priv then [usageSign, usageVerify, usageExport] else [usageVerify])
    else mask (if priv then [usageAgree, usageExport] else [usageAgree])
  | 11 =>
    if set ≤ 2 then mask (if priv then [usageSign, usageVerify, usageExport] else [usageVerify])
    else mask (if priv then [usageEncrypt, usageDecrypt, usageExport] else [usageEncrypt])
  | 14 =>
    match set with
    | 1 => mask [usageMac, usageExport]
    | 2 => mask [usageMac, usageExport, usageDerive]
    | 3 => mask [usageEncrypt, usageDecrypt, usageExport]
    | 4 | 5 => mask [usageWrap, usageUnwrap, usageExport]
    | _ => 0
  | _ => 0

def allowedDest (suite : Nat) : Nat :=
  let set := suite % 256
  match suite / 256 with
  | 1 => mask ([destLat, destGroup] ++ (if set = 3 then [destKv] else []))
  | 2 | 3 => mask [destLat, destGroup]
  | 4 | 5 | 6 => mask [destHf, destGroup]
  | 7 | 8 => mask [destCode, destGroup]
  | 9 | 10 | 11 | 12 => mask [destLn, destGroup]
  | 14 =>
    match set with
    | 1 | 2 => mask [destFx, destKv, destGroup]
    | 3 => mask [destFx, destGroup]
    | 4 | 5 => mask [destKv, destGroup]
    | _ => 0
  | _ => 0

/-- Bits of `x` outside `m`. -/
def outside (x m : Nat) : Bool := x &&& m != x

/-- The template checks of R249 for a slot of `suite`; `secret` for the KMAC slots of R251, whose USAGE may not include EXPORT. -/
def templateFails (t : Template) (suite : Nat) (priv secret : Bool) : List Status :=
  when_ (t.reserved || t.newOwner != 0) .malformed
  ++ when_ (t.suite != 0 && t.suite != suite) .keySuite
  ++ when_ (outside t.dest (allowedDest suite) || outside t.usage (allowedUsage suite priv)
      || (secret && bit t.usage usageExport)) .keyUsage

/-- A slot built from a template. -/
def slotFrom (t : Template) (suite owner : Nat) (priv pub : Bytes) (publicOnly : Bool)
    (lineage : List (Nat × Nat)) (fromRoot : Bool) (hqcRev : Nat) : KeySlot :=
  { state := .staged, suite := suite, dest := t.dest, usage := t.usage, persist := false, shared := bit t.flags 1,
    hostTag := t.hostTag, owner := owner, publicOnly := publicOnly, fromRoot := fromRoot, lineage := lineage,
    priv := priv, pub := pub, expanded := [], hqcRev := hqcRev, granules := granulesFor priv.length pub.length }

/-- Group keys being created whose number has not come: their granules are taken (01 R503). -/
def awaited (s : State) : List KeySlot := (s.grp.creating.filter (·.number.isNone)).map (·.key)

/-- The vault lacks granules for a new slot, or MRAM room where it is to be persisted (R244, R266): VAULT_FULL. -/
def vaultFullFails (s : State) (v : Vault) (granules : Nat) (blob : Option Nat) : List Status :=
  when_ (arenaFree v - ((awaited s).map (·.granules)).sum < granules
    || (match blob with | some b => decide (mramFree v - ((awaited s).map blobGranules).sum < b) | none => false)) .vaultFull

/-- The cutoffs of the health tests, which KV_RNG_CUTOFF shows (R271): repetition count and adaptive proportion. -/
def repCutoff : Nat := 26
def aptCutoff : Nat := 664

/-- The longest run of equal samples, of `n` samples with sample k as bit k: the run at the end, and the longest so far. -/
def longestRun (x : Nat) : Nat → Nat × Nat
  | 0 => (0, 0)
  | n + 1 =>
    let (cur, best) := longestRun x n
    let cur := if n = 0 || bit x n != bit x (n - 1) then 1 else cur + 1
    (cur, max best cur)

/-- The start-up test of 1,024 samples (R271): no run of 26 equal samples, and in the window fewer than 664 equal to its first. -/
def healthy (x : Nat) : Bool :=
  (longestRun x 1024).2 < repCutoff && ((List.range 1024).filter (fun k => bit x k == bit x 0)).length < aptCutoff

/-! #### The working store of the long-number units (09 R181-R186) -/

/-- A unit clears what held key material, or the supervisor does it for one that is eclipsed (R181, R182). -/
def clearWork (us : List UnitRef) (s : State) : State :=
  { s with eng := { s.eng with lnWork := s.eng.lnWork.filter (fun e => !us.contains ⟨.ln, e.1⟩) } }

/-- Units are to be wiped before their next operation (R186). -/
def dirty (us : List Nat) (s : State) : State :=
  { s with eng := { s.eng with lnDirty := us.foldl (fun l u => if l.contains u then l else l ++ [u]) s.eng.lnDirty } }

/-- An instance reset or a removal counts as a change of owner of the units that ran the instance's last operation (R186). -/
def dirtyOwned (inst : Nat) (s : State) : State :=
  dirty ((s.eng.lnOwner.filter (·.2 == inst)).map (·.1)) s

/-- A generate request is counted in DRBG instance `k` (R272): LAT, HF, CODE, LN, FX, KV, RANDOM. -/
def countDraw (k : Nat) (s : State) : State :=
  updKv (fun v => { v with drbgs := modAt v.drbgs k (fun d => { d with requests := d.requests + 1 }) }) s

/-- Random bytes for the device's own use, from the vault's instance (log 126). -/
def drawBytes (n : Nat) (s : State) : Bytes × State := freeBytes n (countDraw 5 s)

/-- Random bits can be drawn (R273). -/
def rngOk (v : Vault) : Bool := v.src0.ok || v.src1.ok

end Sys2Proof.Machine
end

