-- ==== Sys2Proof/Machine/Deliver.lean ====
section
/-! DEFINITION. Delivery: how the outcome of one operation becomes a completion, alone, in a batch or in a transaction group, and how
completions are committed to host memory (03_descriptors R59-R67, 13_rings R292-R297, 14_instances R311, R318, R327). -/
namespace Sys2Proof.Machine

/-- Where an operation's output goes (R47, R67). -/
def outTargets (o : Op) : List (Nat × Nat) :=
  match refKind o.desc.outRef with
  | .flat => [(o.desc.outRef, o.desc.outCap)]
  | .scatter => o.outPieces
  | .buffer => [(bufOffset o.desc.outRef, o.desc.outCap)]
  | _ => []

def outPiecesOf (o : Op) (out : Bytes) : List OutPiece :=
  let b := if refKind o.desc.outRef = .buffer then some (bufHandle o.desc.outRef) else none
  (spread (outTargets o) out).map (fun p => { buf := b, addr := p.1, data := p.2 })

/-- An output the engine writes while it works, not at the commit: a BUF_LOAD's, and one of `n` bytes over 64 KiB (R67). -/
def directOut (o : Op) (n : Nat) : Bool :=
  o.desc.opcode == 0x0712 || ([0x0221, 0x0222, 0x0401].contains o.desc.opcode && 65536 < n)

/-- Where `len` bytes of a reference lie: on-chip buffer or host memory, address and length. -/
def extents (ref len : Nat) (pieces : List (Nat × Nat)) : List (Option Nat × Nat × Nat) :=
  match refKind ref with
  | .flat => [(none, ref, len)]
  | .scatter => pieces.map (fun p => (none, p.1, p.2))
  | .buffer => [(some (bufHandle ref), bufOffset ref, len)]
  | _ => []

def extentsMeet (a b : Option Nat × Nat × Nat) : Bool := a.1 == b.1 && a.2.1 < b.2.1 + b.2.2 && b.2.1 < a.2.1 + a.2.2

/-- The first `n` bytes of the output area overlap the main input (R67); no opcode with a direct output has another input in memory that
long. -/
def overlaps (o : Op) (n : Nat) : Bool :=
  let ins := extents o.desc.inRef o.desc.inLen o.inPieces
  let outs := (spread (outTargets o) (List.replicate n 0)).map (fun p =>
    ((if refKind o.desc.outRef = .buffer then some (bufHandle o.desc.outRef) else none), p.1, p.2.length))
  outs.any (fun a => ins.any (extentsMeet a))

/-- The bytes of the buffer words that a range covers only in part. -/
def partWords (off n : Nat) : List Nat :=
  (if off % 4 = 0 then [] else (List.range 4).map (off / 4 * 4 + ·))
    ++ (if (off + n) % 4 = 0 then [] else (List.range 4).map ((off + n) / 4 * 4 + ·))

/-- The engine has written its direct output (R67); a buffer's words that it covers in part are remembered (08 R173). -/
def directWrite (o : Op) (s : State) : State :=
  if !(directOut o o.parked.out.length && o.parked.status == .ok) then s
  else
    let h := bufHandle o.desc.outRef
    let edges := if refKind o.desc.outRef = .buffer then
        (partWords (bufOffset o.desc.outRef) o.parked.out.length).map (fun a => (bufKey h a, memRead s.bufMem (bufKey h a)))
      else []
    updOp o.id (fun o => { o with parked := { o.parked with edges := edges } })
      ((outPiecesOf o o.parked.out).foldl (fun t p => writePiece (spaceOf t o.inst) p t) s)

/-- What a direct output of `n` bytes gives back where its operation does not complete OK (R56, R69, 08 R173). -/
def undoOf (o : Op) (n : Nat) : Option Undo :=
  if !directOut o n then none
  else if refKind o.desc.outRef = .buffer ∧ (o.desc.opcode = 0x0401 ∨ o.desc.opcode = 0x0712) then
    let lo := ceilDiv (bufOffset o.desc.outRef) 4 * 4
    some { handle := bufHandle o.desc.outRef, lo := lo, len := (bufOffset o.desc.outRef + n) / 4 * 4 - lo, edges := o.parked.edges, area := [] }
  else
    some { handle := 0, lo := 0, len := 0, edges := [], area := (outPiecesOf o (List.replicate n 0)).map (fun p => (p.buf, p.addr, p.data.length)) }

/-- The whole words of a buffer range are unwritten again, the words covered in part are as they were, and an undefined area holds free bytes. -/
def takeBack (space : Nat) (u : Undo) (s : State) : State :=
  let bare := if u.len = 0 then s.bufMem else memErase s.bufMem (bufKey u.handle u.lo) u.len
  u.area.foldl (fun t a => writePiece space { buf := a.1, addr := a.2.1, data := (List.range a.2.2).map (freeByte t.fresh) } { t with fresh := t.fresh + 1 })
    { s with bufMem := u.edges.foldl (fun m e => match e.2 with | some b => memWrite m e.1 b | none => memErase m e.1 1) bare }

/-- A commit that fails takes back a direct output; a buffer freed since the release has nothing to give back (log 153). -/
def takeBackAt (inst : Nat) (u : Option Undo) (s : State) : State :=
  match u with
  | some u => if u.len = 0 || (lookup u.handle s.bufs).any (·.owner == inst) then takeBack (spaceOf s inst) u s else s
  | none => s

/-- The completion of one operation (R65): OUT_LEN is 0 unless STATUS is OK, and RESULT is none for every status whose class
is not 0x00, but for R41. -/
def mkCompletion (s : State) (o : Op) (st : Status) (v : Verdict) (out opdata : Bytes) : Completion :=
  let good := st == .ok || st == .deferred
  { inst := o.inst, gen := o.gen, status := st, verdict := v, tag := o.desc.tag,
    outLen := if good then out.length else 0, covered := 1, sqIndex := o.sqIndex,
    flags := { lineage := dispatched o && lineageLost s o, poison := o.poisonSeen, extended := o.extended },
    batch := false, group := o.desc.group, opdata := opdata,
    writes := if good && !directOut o out.length then outPiecesOf o out else [], dataDone := false, granules := opGranules o.desc, parts := []
    undo := if good then undoOf o out.length else none }

def pushOut (ring : Nat) (c : Completion) (s : State) : State :=
  updRing ring (fun r => { r with outq := r.outq ++ [c], lastOut := s.beat }) s

/-! #### Batches (R59, R60) -/

/-- What a batch completion keeps of an entry it covers. -/
def coveredOf (c : Completion) : Covered :=
  { verdict := c.verdict, tag := c.tag, sqIndex := c.sqIndex, flags := c.flags, writes := c.writes, granules := c.granules
    undo := c.undo }

/-- The one completion of some entries of a batch, all of which succeeded; `c` is any of theirs. -/
def coverAll (ps : List Covered) (c : Completion) : Completion :=
  { c with
    covered := ps.length, status := .ok
    verdict := if ps.all (·.verdict == .valid) then .valid else if ps.all (·.verdict == .equal) then .equal else .none
    tag := (ps.getLast?.map (·.tag)).getD c.tag, sqIndex := (ps.getLast?.map (·.sqIndex)).getD c.sqIndex
    outLen := 0, opdata := [], batch := true
    flags := { lineage := ps.any (·.flags.lineage), poison := ps.any (·.flags.poison),
               extended := ps.any (·.flags.extended) }
    writes := ps.flatMap (·.writes), granules := (ps.map (·.granules)).sum, parts := ps, undo := none }

/-- The one completion of a batch all of whose entries succeeded. -/
def batchCompletion (cs : List Completion) (last : Completion) : Completion := coverAll (cs.map coveredOf) last

/-- Batches that are closed and wholly released give their completion; the others stay. -/
def flushBatches (r : Ring) : Ring :=
  r.batches.foldl (fun (acc : Ring) b =>
      let cs := b.members.filterMap (·.done)
      if b.closed && cs.length == b.members.length then
        match cs.getLast? with
        | some l => { acc with outq := acc.outq ++ [batchCompletion cs l] }
        | none => acc
      else { acc with batches := acc.batches ++ [b] })
    { r with batches := [] }

/-- An entry that failed, or whose verdict is INVALID or NOT_EQUAL, ends the batch it is in (R60). -/
def endsBatch (c : Completion) : Bool := c.status != .ok || c.verdict == .invalid || c.verdict == .notEqual

/-- A batch with one of its members taken out: what stands before it, closed, and what stands after it, a new batch that its own first
member opened (R64). -/
def splitBatch (b : Batch) (id : Nat) : List Batch :=
  let before := b.members.takeWhile (·.op != id)
  let after := (b.members.dropWhile (·.op != id)).drop 1
  (if before.isEmpty then [] else [{ b with members := before, closed := true }])
    ++ (if after.isEmpty && b.closed then [] else [{ b with members := after, opened := (after.head?.map (·.since)).getD b.opened }])

def inBatch (r : Ring) (id : Nat) : Bool := r.batches.any (fun b => b.members.any (·.op == id))
def inGroup (r : Ring) (id : Nat) : Bool := r.groups.any (fun g => g.members.any (·.op == id))

/-- A batch member's outcome put on its ring. -/
def settleBatch (id : Nat) (c : Completion) (r : Ring) : Ring :=
  if endsBatch c then
    let r := { r with batches := r.batches.flatMap (fun (b : Batch) => if b.members.any (·.op == id) then splitBatch b id else [b]) }
    flushBatches { r with outq := r.outq ++ [c] }
  else
    flushBatches { r with batches := r.batches.map (fun (b : Batch) =>
      { b with members := b.members.map (fun m => if m.op = id then { m with done := some c } else m) }) }

/-! #### Transaction groups (R61-R64) -/

/-- A member's outcome kept until its group commits; a failure rolls the group back (R62). -/
def settleGroup (id : Nat) (c : Completion) (r : Ring) : Ring :=
  { r with groups := r.groups.map (fun g =>
      if g.members.any (·.op == id) then
        { g with
          members := g.members.map (fun m => if m.op = id then { m with done := some c } else m)
          failed := match g.failed with
            | some f => some f
            | none => if c.status = .ok then none else some (id, c.status) }
      else g) }

/-- A member of a failed group that has not been dispatched never is (R62): it gives back what it holds, and waits for the rollback with
the others. -/
def stopMember (s : State) (o : Op) : State :=
  updRing o.ring (settleGroup o.id (mkCompletion s o .groupRolledBack .none [] [])) (returnBanks o.banks (dropOp o.id s))

def stopMembers (ring : Nat) (s : State) : State :=
  match ring? s ring with
  | none => s
  | some r =>
    let bad (o : Op) : Bool := o.ring == ring && !dispatched o && r.groups.any (fun g => g.failed.isSome && g.members.any (·.op == o.id))
    (s.ops.filter bad).foldl stopMember s

/-! #### One operation's outcome -/

/-- The operation leaves the path: its reservations that end at release are returned, and its completion goes to its batch, to
its group, or to the completion writer; a completion of an old generation is discarded (R311). -/
def settle (o : Op) (c : Completion) (s : State) : State :=
  let s := dropOp o.id s
  match ring? s o.ring with
  | none => s
  | some r =>
    if o.gen != (instOf s o.inst).gen then
      updInst o.inst (fun i => { i with discards := sat 0xFFFF (i.discards + 1) })
        (setRing o.ring { r with
          batches := r.batches.map (fun b => { b with members := b.members.filter (·.op != o.id) })
          groups := r.groups.map (fun g => { g with members := g.members.filter (·.op != o.id) }) } s)
    else if inGroup r o.id then stopMembers o.ring (setRing o.ring (settleGroup o.id c r) s)
    else if inBatch r o.id then setRing o.ring (settleBatch o.id c { r with lastOut := s.beat }) s
    else pushOut o.ring c s

/-- A BUF_LOAD that does not end with OK leaves the words of its range unwritten (R56), where the range lies in a buffer of its instance
(log 134). -/
def unload (o : Op) (s : State) : State :=
  if o.desc.opcode != 0x0712 || refKind o.desc.outRef != .buffer then s
  else match lookup (bufHandle o.desc.outRef) s.bufs with
    | none => s
    | some b =>
      if b.owner = o.inst ∧ bufOffset o.desc.outRef + o.desc.outCap ≤ b.size then
        ((undoOf o o.desc.outCap).map (fun u => takeBack 0 u s)).getD s
      else s

/-- An operation that ends before dispatch: no slot, credits and banks returned at the gate where it ends (01 R14, R16). -/
def endEarly (o : Op) (st : Status) (opdata : Bytes) (s : State) : State :=
  settle o (mkCompletion s o st .none [] opdata) (returnBanks o.banks (unload o s))

/-! #### Commit (R17, 13 R292-R296, 14 R318) -/

/-- Pieces of a result written. -/
def writePieces (inst : Nat) (ps : List OutPiece) (s : State) : State := ps.foldl (fun t p => writePiece (spaceOf t inst) p t) s

/-- A result write fails: for its translation, which leaves OUT_REF's contents undefined (13 R294), or for a poisoned word, and then nothing
of it is written (15 R334). -/
def failPieces (st : Status) (inst : Nat) (ps : List OutPiece) (s : State) : State :=
  if st = .dmaTranslation then
    writePieces inst (ps.map (fun p => { p with data := (List.range p.data.length).map (freeByte s.fresh) })) { s with fresh := s.fresh + 1 }
  else s

/-- A completion whose result or whose own entry is lost: rebuilt from the admission record (15 R334; OPDATA: log 41). -/
def failCompletion (st : Status) (c : Completion) : Completion :=
  { c with dataDone := true, status := st, verdict := .none, outLen := 0, opdata := [], batch := false, covered := 1, parts := [], undo := none
           flags := { c.flags with poison := c.flags.poison || st == .poisonConsumed } }

/-- The failure can meet these writes: only host memory is translated; a poisoned word can stand in any staged output. -/
def canFail (st : Status) (ps : List OutPiece) : Bool := if st = .dmaTranslation then ps.any (·.buf.isNone) else !ps.isEmpty

/-- Which of the entries a batch completion covers a failure meets: the first it can meet; a poisoned word of the completion itself, the
last (log 135). -/
def failIndex (st : Status) (c : Completion) : Nat :=
  if c.dataDone || !c.parts.any (fun p => canFail st p.writes) then c.parts.length - 1
  else c.parts.findIdx (fun p => canFail st p.writes)

/-- What becomes of a result's writes at the commit (13 R294, 15 R334).  A poisoned word where no output is still to be written is one of
the completion's own entry.  An entry of a batch that fails gets its own completion, and ends the batch (R60). -/
def commitData (outcome : Status) (c : Completion) (s : State) : List Completion × State :=
  let meets := (!c.dataDone && canFail outcome c.writes) || outcome == .poisonConsumed
  if outcome == .ok || !meets then
    ([{ c with dataDone := true }], if c.dataDone then s else writePieces c.inst c.writes s)
  else if !c.batch then
    ([failCompletion outcome c], takeBackAt c.inst c.undo (if c.dataDone then s else failPieces outcome c.inst c.writes s))
  else
    let k := failIndex outcome c
    let before := c.parts.take k
    let after := c.parts.drop (k + 1)
    let one := (c.parts[k]?).map (fun p => failCompletion outcome
      { c with tag := p.tag, sqIndex := p.sqIndex, flags := p.flags, writes := p.writes, granules := p.granules })
    ((if before.isEmpty then [] else [{ coverAll before c with dataDone := true }]) ++ one.toList
        ++ (if after.isEmpty then [] else [coverAll after c]),
      takeBackAt c.inst ((c.parts[k]?).bind (·.undo)) (if c.dataDone then s
      else failPieces outcome c.inst ((c.parts[k]?).map (·.writes)).toList.flatten (writePieces c.inst (before.flatMap (·.writes)) s)))

/-- The result data of the first released completion whose data have not been written (14 R318). -/
def commitNextData (outcome : Status) : List Completion → State → List Completion × State
  | [], s => ([], s)
  | c :: rest, s =>
    if c.dataDone then
      let (q, t) := commitNextData outcome rest s
      (c :: q, t)
    else
      let (cs, t) := commitData outcome c s
      (cs ++ rest, t)

/-- Moderation at one written entry (14 R327). -/
def moderate (valid : Bool) (beat : Nat) (r : Ring) : Ring :=
  if !r.irqEn then { r with pend := 0, timerStart := none }
  else if r.countM1 + 1 ≤ r.pend + 1 then
    { r with pend := 0, timerStart := none, eventPending := r.eventPending || valid }
  else
    { r with
      pend := r.pend + 1
      timerStart := if r.pend = 0 then some beat else r.timerStart
      timerAt := if r.pend = 0 then beat + beatsUs r.timerUs else r.timerAt }

/-- The VALID bit of a ring's vector register (14 R326). -/
def ringVectorValid (s : State) (n : Nat) : Bool := bit (regWord s (0x034000 + 4 * n)).toNat 31

/-- The completion entry at the front of a ring written at CQ_TAIL. -/
def writeEntry (n : Nat) (r : Ring) (c : Completion) (rest : List Completion) (s : State) : State :=
  let pos := r.cqTail % r.size
  let s := writeHost (spaceOf s r.inst) (r.cqBase + 32 * pos) (entryBytes n (phaseOf r.size r.cqTail) c) s
  let r := { r with cqTail := (r.cqTail + 1) % (2 * r.size), outq := rest, idxDirty := true }
  let r := if rest.isEmpty then { r with full := false, backlog := false, backlogAt := none, backlogLeft := none } else r
  setRing n (moderate (ringVectorValid s n) s.beat r) s

/-- The device may issue memory requests for rings: not halted, not in D3hot, not held in reset. -/
def memoryOk (s : State) : Bool := !s.glb.halted && !s.hp.d3hot && !s.glb.perst && s.hp.busMaster

/-- The completion writer at one ring: the result data of its released completions are written, and the front entry where the
ring has room; where the ring is full, or a failed write waits for a doorbell, the result data are written at once all the same,
the entry is held and the backlog timer runs (R294-R297, 14 R318). -/
def commitFront (n : Nat) (outcome : Status) (s : State) : State :=
  if !memoryOk s then s else
  match ring? s n with
  | none => s
  | some r =>
    match r.outq with
    | [] => s
    | c :: rest =>
      if cqFull r || r.writeWaits then
        let (q, s) := commitNextData outcome (c :: rest) s
        setRing n
          { r with
            outq := q, full := r.full || cqFull r, idxDirty := r.idxDirty || cqFull r && !r.full
            backlogAt := r.backlogAt.or (some (s.beat + beatsMs (setting s 0x020104 15 0))) } s
      else
        match commitData outcome c s with
        | ([], s) => s
        | (c :: more, s) => writeEntry n { r with outq := c :: more ++ rest } c (more ++ rest) s

end Sys2Proof.Machine
end

