-- ==== Sys2Proof/Machine/Slots.lean ====
section
/-! DEFINITION. Release slots: the slot table of 04_release_timing (R71-R74) as functions of the descriptor and of the public facts
R72 lists. -/
namespace Sys2Proof.Machine

/-- The length class L (R72): the least L for which B is at most 4,096 times 2 to the L. -/
def lengthClass (b : Nat) : Nat := ((List.range 64).find? (fun l => b ≤ 4096 * 2 ^ l)).getD 64

/-- BASE + PER × 2^L (R71); a PER of 0 makes the slot independent of length (R73). -/
def slotOf (base per l : Nat) : Nat := if per = 0 then base else base + per * 2 ^ l

/-- The `i`-th value of a table cell. -/
def cell (l : List Nat) (i : Nat) : Nat := l.getD i 0

/-- ML-KEM (family 0x01), by set 1-3 and function 0 keygen, 1 encaps, 2 decaps. -/
def slotMlkem (set fn : Nat) : Nat :=
  cell (cell2 set) fn
where
  cell2 (set : Nat) : List Nat :=
    match set with
    | 1 => [3875, 3625, 4375]
    | 2 => [5375, 5000, 6250]
    | _ => [7750, 7250, 9125]

def slotMldsaKeygen (set : Nat) : Nat := cell [11125, 17875, 26375] (set - 1)
def slotMldsaSign (set l : Nat) : Nat := slotOf (cell [213200, 292800, 424000] (set - 1)) 512 l
def slotMldsaVerify (set l : Nat) : Nat := slotOf (cell [5875, 8375, 12500] (set - 1)) 512 l
def slotFndsaVerify (set l : Nat) : Nat := slotOf (cell [6750, 13375] (set - 1)) 512 l

/-- The six parameter sets of an SLH-DSA suite, 128s 128f 192s 192f 256s 256f in the order of the table's cells. -/
def slhIndex (set : Nat) : Nat := (set - 1) / 2

/-- Even sets of family 0x04 are the SHAKE sets; they take four times the BASE (R74). -/
def slhFactor (set : Nat) : Nat := if set % 2 = 0 then 4 else 1

def slotSlhUnpinned (set l : Nat) : Nat :=
  slotOf (slhFactor set * cell [156250, 9000, 347250, 15000, 892875, 31250] (slhIndex set)) 512 l
def slotSlhPinned (set l : Nat) : Nat :=
  slotOf (slhFactor set * cell [106250, 6125, 236125, 10125, 607250, 21250] (slhIndex set)) 512 l
def slotSlhVerify (set l : Nat) : Nat :=
  slotOf (slhFactor set * cell [875, 2375, 1250, 3375, 1875, 3625] (slhIndex set)) 512 l
def slotSlhUnpin : Nat := 1250

def slotTreeBuild (set l : Nat) : Nat := slotOf 2500 (cell [29, 24, 116, 96] (set - 1)) l
def slotTreeReduced (set l : Nat) : Nat := slotOf 2500 (cell [58, 48, 232, 192] (set - 1)) l

/-- Sets 3 and 4 of families 0x05 and 0x06 are the SHAKE sets (R27, R74). -/
def stfFactor (set : Nat) : Nat := if set = 3 ∨ set = 4 then 4 else 1

/-- STF_SIGN under LMS/HSS, by the Winternitz code 0-3. -/
def slotLmsSign (set w l : Nat) : Nat := slotOf (stfFactor set * cell [650, 1000, 2500, 21600] w) 512 l
/-- STF_VERIFY under LMS/HSS: the BASE of each level is summed over the levels (R73, R74). -/
def slotLmsVerify (set w levels l : Nat) : Nat :=
  slotOf (stfFactor set * cell [325, 500, 1250, 10800] w * levels) 512 l
def slotXmssSign (set l : Nat) : Nat := slotOf (stfFactor set * 3125) 512 l
def slotXmssVerify (set layers l : Nat) : Nat := slotOf (stfFactor set * 2500 * layers) 512 l

/-- One tree of STF_KEYGEN (R73, R74): h its height, f100 the factor F in hundredths. -/
def slotStfTree (h f100 : Nat) : Nat := ceilDiv (5468750 * 2 ^ h * f100) (2 ^ 20 * 100)
/-- F in hundredths for the Winternitz codes (R74). -/
def stfF100 (w : Nat) : Nat := cell [26, 40, 100, 864] w
def slotStfKeygen (set : Nat) (trees : List (Nat × Nat)) : Nat :=
  (trees.map fun t => stfFactor set * slotStfTree t.1 t.2).sum
def slotStfSplit : Nat := 25000
def slotStfStatus : Nat := 1250

/-- Base sets and f sets of Classic McEliece share a row (R73): 348864, 460896, 6688128, 6960119, 8192128. -/
def cmIndex (set : Nat) : Nat := (set - 1) / 2
def slotCmEncaps (set l : Nat) (fromBuffer : Bool) : Nat :=
  slotOf (cell [1500, 2500, 4000, 4250, 4875] (cmIndex set)) (if fromBuffer then 16 else 512) l
def slotCmDecaps (set : Nat) : Nat := cell [2500, 4500, 7375, 7875, 8375] (cmIndex set)
/-- The per-attempt BASE times 46 for a base set, times 30 for an f set (R74). -/
def slotCmKeygen (set : Nat) : Nat :=
  cell [37750, 100750, 274500, 302000, 411750] (cmIndex set) * (if set % 2 = 0 then 30 else 46)
def slotHqc (set : Nat) : Nat := cell [1875, 3625, 6250] (set - 1)

def slotPcurve (set : Nat) : Nat := cell [10500, 25000, 58875] (set - 1)
def slotEcdsaSign (set l : Nat) : Nat := slotOf (cell [5625, 13250, 31250] (set - 1)) 512 l
def slotEcdsaVerify (set l : Nat) : Nat := slotOf (cell [11125, 26375, 62500] (set - 1)) 512 l
/-- EDDSA_SIGN: set 1 Ed25519 and 3 Ed448 are pure, set 2 is Ed25519ph. -/
def slotEddsaSign (set l : Nat) : Nat :=
  slotOf (if set = 3 then 15625 else 5000) (if set = 2 then 512 else 1024) l
def slotEddsaVerify (set l : Nat) : Nat := slotOf (if set = 3 then 22750 else 7250) 512 l
/-- ECDH and EC_KEYGEN of X25519 (set 4) and X448 (set 5). -/
def slotXcurve (set : Nat) : Nat := if set = 5 then 15250 else 5000
/-- EC_KEYGEN of any suite of families 0x09 and 0x0A.  The slot table's EDDSA row gives a PER; key generation has no
length, so the class is that of its descriptor (R72). -/
def slotEcKeygen (suite l : Nat) : Nat :=
  if suite / 256 = 9 then slotPcurve (suite % 256)
  else if 4 ≤ suite % 256 then slotXcurve (suite % 256)
  else slotEddsaSign (suite % 256) l
def slotEcdh (suite : Nat) : Nat :=
  if suite / 256 = 9 then slotPcurve (suite % 256) else slotXcurve (suite % 256)

/-- The value of the first listed size at or above a modulus; above the last, the last (R74). -/
def bySize (t : List (Nat × Nat)) (size : Nat) : Nat :=
  match t.find? (fun e => size ≤ e.1) with
  | some e => e.2
  | none => (t.getLast?.map (·.2)).getD 0

def slotRsaPrivate (bitsN l : Nat) : Nat :=
  slotOf (bySize [(2048, 20875), (3072, 58875), (4096, 125000), (8192, 909125)] bitsN) 512 l
def slotRsaPublic (bitsN l : Nat) : Nat :=
  slotOf (bySize [(1024, 875), (2048, 1625), (3072, 2625), (4096, 4250), (8192, 15250)] bitsN) 512 l
/-- RSA_KEYGEN, by the modulus code of PARAM[1:0]. -/
def slotRsaKeygen (code : Nat) : Nat := cell [134259250, 447531000, 1150793875] code
def slotDsaVerify (bitsL l : Nat) : Nat := slotOf (if bitsL ≤ 2048 then 33375 else 75000) 512 l

def slotFx (l : Nat) : Nat := slotOf 250 320 l
def slotGcm (l : Nat) : Nat := slotOf 250 80 l
def slotStreamOpen : Nat := 250
def slotStreamSave : Nat := 1250
def slotPersist : Nat := 12500
def slotKv : Nat := 1250
def slotBufLoad (l : Nat) : Nat := slotOf 250 16 l
def slotRandom (l : Nat) : Nat := slotOf 250 64 l

end Sys2Proof.Machine
end

