-- ==== Sys2Proof/Machine/Gate.lean ====
section
/-! DEFINITION. The gate between waiting and running: what an opcode is to the path of one operation (`OpSpec`), and stage 5 with the
dispatch that follows as one atomic step (01_architecture R16, R502, R503; 02_operations R26, R39). -/
namespace Sys2Proof.Machine

/-- What an operation's engine answers: the state with the resources taken and the effects made at dispatch, the failures its
checks find after dispatch, and its result. -/
structure Run where
  st : State
  fails : List Status := []
  verdict : Verdict := .none
  out : Bytes := []
  opdata : Bytes := []
  /-- For transaction groups: effects staged, and the number created. -/
  staged : List KvEffect := []
  created : Option Nat := none
  /-- What is done at the release with status OK. -/
  effects : List Effect := []
  /-- Class 0x0F: what the action waits for before it completes. -/
  wait : Option MgmtWait := none
  /-- Class 0x0F: the status when nothing failed. -/
  good : Status := .ok
  /-- No snooped digests are written (11 R237). -/
  noDigests : Bool := false
  /-- What follows once the result is parked. -/
  post : State → State := fun s => s
  /-- What follows where its data or random bits failed it (10 R213). -/
  onFail : State → State := fun s => s

/-- One opcode of the catalogue (02 R24). -/
structure OpSpec where
  opcode : Nat
  suites : Nat → Bool
  /-- The device offers the opcode: FNDSA_SPEC or HQC_SPEC is not 0 (05, LAT_INFO; 08, CODE_INFO). -/
  offered : State → Bool := fun _ => true
  /-- PARAM is allowed with a suite: digest mask, hash identifier and options (R29-R31). -/
  param : Nat → Nat → Bool
  /-- The operation reads a message and can take snooped digests (R29). -/
  snoops : Bool := false
  uses : Desc → Uses
  /-- Further descriptor-class checks of its chapter. -/
  more : Desc → List Status := fun _ => []
  /-- The units it occupies (16 R370). -/
  units : Desc → List UnitKind
  /-- And those its keys decide (11 R228). -/
  keyUnits : State → Op → List UnitKind := fun _ _ => []
  /-- Operand banks it leases, where its chapter fixes the number; otherwise the sender's choice (log 7). -/
  banks : Desc → Option Nat := fun _ => none
  /-- The checks of stage 5 its chapter gives, besides those every operation shares. -/
  late : State → Op → OpInput → List Status
  /-- What it may wait for at stage 5 besides (07 R143, R160; 10 R221). -/
  ready : State → Op → Bool := fun _ _ => true
  /-- The length of its output, where the output has to fit OUT_CAP. -/
  outLen : State → Op → OpInput → Nat := fun _ _ _ => 0
  /-- The release slot (R71-R74). -/
  slot : State → Op → OpInput → Nat
  /-- It needs random bits, for its values or for masking refresh (12 R273). -/
  random : State → Op → Bool := fun _ _ => false
  /-- Where the message begins in the main input, for the snoop tap (10 R218). -/
  msgFrom : State → Op → OpInput → Nat := fun _ _ _ => 0
  /-- The OPDATA of a failure before dispatch (17 R387). -/
  earlyData : State → Op → Status → Bytes := fun _ _ _ => []
  /-- What a failure before dispatch leaves behind (10 R213). -/
  early : Status → Op → State → State := fun _ _ s => s
  run : State → Op → OpInput → Run

/-! #### Snooped digests (02 R29, 10 R215, R218, R219) -/

/-- The digests a mask selects, in ascending order: hash code and length. -/
def maskDigests (p : Nat) : List (Nat × Nat) :=
  (if bit p 12 then [(3, 32)] else []) ++ (if bit p 13 then [(5, 64)] else []) ++ (if bit p 14 then [(7, 32)] else [])
    ++ (if bit p 15 then [(9, 64)] else [])

def maskLen (p : Nat) : Nat := ((maskDigests p).map (·.2)).sum

/-- The selected digests of a message, concatenated. -/
def maskOut (p : Nat) (m : Bytes) : Bytes := ((maskDigests p).map (fun h => algBytes .hash h.2 [h.1] [m])).flatten

/-- The operation asks for snooped digests. -/
def snooping (sp : OpSpec) (d : Desc) : Bool := sp.snoops && !(maskDigests d.param).isEmpty

/-- The fields an operation uses: with snooped digests, the output too. -/
def usesOf (sp : OpSpec) (d : Desc) : Uses := if snooping sp d then { sp.uses d with out := true } else sp.uses d

/-! #### Operands as read -/

/-- An operand's bytes and whether some of them are poison. -/
def operand (s : State) (o : Op) (ref len : Nat) (host : Bytes) : Bytes × Bool :=
  match refKind ref with
  | .none => ([], false)
  | .inline => (slice o.desc.inl (inlineOffset ref) len, false)
  | .buffer => readBuf (bufHandle ref) (bufOffset ref) len s
  | .flat | .scatter => (fit len host, host.length < len)

def inBytes (s : State) (o : Op) (i : OpInput) : Bytes := (operand s o o.desc.inRef o.desc.inLen i.inp).1
def auxBytes (s : State) (o : Op) (i : OpInput) : Bytes := (operand s o o.desc.auxRef o.desc.auxLen i.aux).1
def expBytes (s : State) (o : Op) (i : OpInput) (len : Nat) : Bytes := (operand s o o.desc.expRef len i.exp).1

def fromHost (ref : Nat) : Bool := refKind ref == .flat || refKind ref == .scatter

/-- The operation reads host memory. -/
def readsHost (u : Uses) (d : Desc) : Bool :=
  (u.inRef && u.inData && fromHost d.inRef) || (u.aux && u.auxData && fromHost d.auxRef) || (u.expLen != 0 && fromHost d.expRef)

/-- Some of an operand's bytes are poison: an unwritten word of a buffer, or host data that did not come in time; data that a translation
failure, UR or CA left undelivered are not (R500). -/
def operandPoison (s : State) (o : Op) (i : OpInput) (ref len : Nat) (host : Bytes) : Bool :=
  (operand s o ref len host).2 && !(fromHost ref && (i.dma || i.xlat))

/-- Failures of the operand reads (03 R500, R56). -/
def dataFails (u : Uses) (s : State) (o : Op) (i : OpInput) : List Status :=
  let host := readsHost u o.desc
  when_ ((host && i.poison)
      || (u.inRef && u.inData && operandPoison s o i o.desc.inRef o.desc.inLen i.inp)
      || (u.aux && u.auxData && operandPoison s o i o.desc.auxRef o.desc.auxLen i.aux)
      || (u.expLen != 0 && operandPoison s o i o.desc.expRef u.expLen i.exp)) .poisonConsumed
  ++ when_ (host && i.dma) .dmaError
  ++ when_ (host && i.xlat) .dmaTranslation

/-! #### Checks every operation shares at stage 5 -/

/-- A buffer reference against the buffers (03 R55, R57). -/
def bufRefFails (s : State) (o : Op) (ref len : Nat) : List Status :=
  if refKind ref = .buffer then
    match lookup (bufHandle ref) s.bufs with
    | none => [.badReference]
    | some b =>
      if !(b.live || o.bufs.contains (bufHandle ref)) then [.badReference]
      else when_ (b.size < bufOffset ref + len) .badReference ++ when_ (b.owner != o.inst) .keyOwner
  else []

/-- A buffer reference as admission sees it: its handle is live and it lies within the buffer (R55, R57; 14 R316). -/
def bufRefBad (s : State) (ref len : Nat) : Bool :=
  refKind ref == .buffer
    && (match lookup (bufHandle ref) s.bufs with | none => true | some b => !b.live || b.size < bufOffset ref + len)

def bufRefsBad (s : State) (d : Desc) : Bool :=
  bufRefBad s d.inRef d.inLen || bufRefBad s d.auxRef d.auxLen || bufRefBad s d.outRef d.outCap

/-- Snooped digests want the message in host memory (10 R219). -/
def snoopRefBad (sp : OpSpec) (d : Desc) : Bool := snooping sp d && (refKind d.inRef == .buffer || refKind d.inRef == .inline)

/-- The units an operation occupies, one of each kind, with the snoop lane its digest mask asks for (16 R370, 11 R228, 10 R218). -/
def opUnits (sp : OpSpec) (s : State) (o : Op) : List UnitKind :=
  let own := (sp.units o.desc ++ sp.keyUnits s o).dedup
  if snooping sp o.desc && !own.contains .lane then own ++ [.lane] else own

def sharedFails (sp : OpSpec) (s : State) (o : Op) (i : OpInput) : List Status :=
  o.preFail
    ++ when_ ((opUnits sp s o).any (fun k => (liveUnits s k).isEmpty)) .engineEclipsed
    ++ bufRefFails s o o.desc.inRef o.desc.inLen
    ++ bufRefFails s o o.desc.auxRef o.desc.auxLen
    ++ bufRefFails s o o.desc.outRef o.desc.outCap
    ++ when_ (lengthsBad (usesOf sp o.desc) o.desc) .badLength
    ++ when_ ((usesOf sp o.desc).out
        && o.desc.outCap < sp.outLen s o i + (if snooping sp o.desc then maskLen o.desc.param else 0)) .outputTooSmall

/-- Every check of stage 5. -/
def stage5Fails (sp : OpSpec) (s : State) (o : Op) (i : OpInput) : List Status :=
  sharedFails sp s o i ++ sp.late s o i

/-- Dispatch goes on: class 0x0F in every mode that admits it, the engines in SERVICE and in QUIESCE up to a drain limit
(01 R22, 20 R464, R465). -/
def modeRuns (s : State) (cls : Nat) : Bool :=
  !s.glb.halted && !s.glb.perst
    && (if cls = 0x0F then s.glb.mode != .boot || s.glb.recoveryHold
        else s.glb.mode == .service || (s.glb.mode == .quiesce && !s.glb.drainPast))

/-- Its scatter lists have been walked, up to the first that is faulty (03 R51). -/
def walkedOk (o : Op) : Bool :=
  o.preFail.contains .badScatter
    || ((refKind o.desc.inRef != .scatter || !o.inPieces.isEmpty)
        && (refKind o.desc.auxRef != .scatter || !o.auxPieces.isEmpty)
        && (refKind o.desc.outRef != .scatter || !o.outPieces.isEmpty))

/-- The members of a transaction group are dispatched one by one, in order (03 R62). -/
def memberTurn (s : State) (o : Op) : Bool :=
  match groupOf s o with
  | none => true
  | some g => (g.members.takeWhile (·.op != o.id)).all (fun m => m.done.isSome || s.ops.any (fun x => x.id == m.op && dispatched x))

/-- The operation waits at stage 5 and may take it. -/
def atStage5 (s : State) (o : Op) : Bool :=
  o.stage == .leased && !o.wipeWait && !o.cancel && walkedOk o && modeRuns s (opClass o.desc) && memberTurn s o

/-! #### Dispatch -/

/-- KEY_A of these opcodes carries a stream handle (10 R207). -/
def namesStream (opcode : Nat) : Bool := opcode == 0x0602 || opcode == 0x0603 || opcode == 0x0606

/-- An operation on a stream that fails after dispatch leaves the stream failed (10 R213, R205): its own, not one that its owner's reset
let another open under the handle since. -/
def failStream (o : Op) (s : State) : State :=
  if namesStream o.desc.opcode then
    { s with fx := { s.fx with streams := adjust (keySlot o.desc.keyA) (fun x =>
        if x.owner = o.inst && x.gen = o.gen then { x with failed := true, closing := false } else x) s.fx.streams } }
  else s

/-- The operation's record once its unit has accepted it (01 R15, 04 R70).  KEY_INVALIDATE and KEY_DESTROY hold no key: what they do
to the one they name is no invalidation of a key held (03 R66). -/
def dispatchedOp (s : State) (o : Op) (slot : Nat) (i : OpInput) : Op :=
  { o with
    stage := .running, dispatch := s.beat, slot := slot, since := s.beat
    held := if namesStream o.desc.opcode || o.desc.opcode == 0x0708 || o.desc.opcode == 0x070A then [] else keyRefs s o o.desc.keyA ++ keyRefs s o o.desc.keyB
    poisonSeen := o.poisonSeen || i.poisonSeen || i.poison }

/-- The member of a transaction group keeps what it staged, and every slot it used (03 R62, R63). -/
def stageMember (o : Op) (r : Run) (s : State) : State :=
  updRing o.ring (fun ring => { ring with groups := ring.groups.map (fun g =>
    { g with members := g.members.map (fun (m : GroupMember) =>
        if m.op = o.id then
          { m with created := r.created, effects := r.staged, used := keyRefs s o o.desc.keyA ++ keyRefs s o o.desc.keyB }
        else m) }) }) s

/-- What a dispatched operation parks in its release buffer entry.  A status other than OK carries no output and no verdict, except
that TRUNCATED and OVERRUN keep NOT_EQUAL (02 R40, R41). -/
def parkedOf (fails : List Status) (r : Run) (digests : Bytes) : Parked :=
  match firstSlot fails with
  | none => { status := .ok, verdict := r.verdict, out := r.out ++ digests, opdata := r.opdata, effects := r.effects, edges := [] }
  | some st =>
    { status := st, verdict := if (st == .truncated || st == .overrun) && r.verdict == .notEqual then .notEqual else .none,
      out := [], opdata := r.opdata, effects := r.effects, edges := [] }

/-- The DRBG instance of an engine (12 R272): LAT, HF, CODE, LN, FX, KV. -/
def drbgOfUnit : UnitKind → Nat
  | .lat => 0 | .hf => 1 | .code | .elim => 2 | .ln => 3 | .lane | .gcm => 4 | .kv => 5

/-- The instances that serve an operation: RANDOM's own, or those of the engines it occupies, but for its snoop lane. -/
def drbgsOf (o : Op) : List Nat :=
  if o.desc.opcode = 0x070B then [6]
  else if opClass o.desc = 7 then [5]
  else if opClass o.desc = 6 then [4]
  else (((o.units.map (·.kind)).filter (· != .lane)).map drbgOfUnit).dedup

/-- The long-number keys an operation hands its unit: those its key fields name, and the one it makes. -/
def lnKeys (s : State) (o : Op) (created : Option Nat) : Bytes :=
  let ln (k : KeySlot) : Bool := 9 ≤ k.suite / 256 && k.suite / 256 ≤ 11
  (((([o.desc.keyA, o.desc.keyB].filterMap (resolveKey s o)) ++ created.toList).filterMap (slot? s.kv)).filter ln).flatMap (·.priv)

/-- A long-number unit takes an operation: it records its instance (09 R185), and holds the private values it works on with the fresh masks the
DRBG supplies (R181, R183): a 64-bit multiplier and a value as long as the key. -/
def takeWork (o : Op) (created : Option Nat) (s : State) : State :=
  let us := (o.units.filter (·.kind == .ln)).map (·.num)
  if us.isEmpty then s
  else
    let s := { s with eng := { s.eng with lnOwner := us.foldl (fun l u => put u o.inst l) s.eng.lnOwner } }
    let keys := lnKeys s o created
    if keys.isEmpty then s
    else
      let (masks, s) := freeBytes (8 + keys.length) s
      { s with eng := { s.eng with lnWork := us.foldl (fun l u => put u (keys ++ masks) l) s.eng.lnWork } }

/-- The slot an operation reads private material from turns DAMAGED with an uncorrectable error in it (12 R268): that of KEY_A, that of
KEY_B, or both. -/
def damageKeys (o : Op) (i : OpInput) (s : State) : State :=
  if namesStream o.desc.opcode then s else
  ((if i.keyFault then (resolveKey s o o.desc.keyA).toList else []) ++ (if i.keyFaultB then (resolveKey s o o.desc.keyB).toList else [])).foldl
    (fun t n => damageSlot n t) s

/-- A failure found after dispatch that the operand's bytes take no part in: it stands beside a failed read (R39 row 10; log 44). -/
def dataFree (o : Op) (st : Status) : Bool :=
  st == .truncated || st == .overrun || st == .journalFailed || st == .primaryUnreachable || st == .engineFault
    || (st == .keyRejected && opClass o.desc != 7)

/-- A group key whose creation fails at dispatch asks the primary for nothing (12 R269). -/
def unAsk (id : Nat) (s : State) : State :=
  if s.grp.creating.any (·.op == id) then
    updOp id (fun o => { o with waiting := false }) { s with grp := { s.grp with creating := s.grp.creating.filter (·.op != id) } }
  else s

/-- A direct output that overlaps the input: every byte of it is free; none of the opcodes that have one gives a verdict (03 R67). -/
def spoilOverlap (o : Op) (r : Run) (digests : Bytes) : Run × Bytes :=
  let n := (r.out ++ digests).length
  if directOut o n && overlaps o n then
    let (junk, t) := freeBytes n r.st
    ({ r with st := t, out := junk }, [])
  else (r, digests)

/-- Dispatch of an operation of classes 0x01-0x08. -/
def dispatchEngine (sp : OpSpec) (o : Op) (i : OpInput) (s : State) : State :=
  let s := if sp.random s o then (drbgsOf o).foldl (fun t k => countDraw k t) s else s
  let o := dispatchedOp s o (sp.slot s o i) i
  let r := sp.run (updOp o.id (fun _ => o) s) o i
  let operands := dataFails (sp.uses o.desc) s o i
  let outside := operands ++ when_ (sp.random s o && !rngOk s.kv) .rngFail ++ when_ (i.keyFault || i.keyFaultB) .poisonConsumed
  -- Without its operands the unit has nothing to check in them (log 44).
  let fails := outside ++ (if operands.isEmpty then r.fails else r.fails.filter (dataFree o))
  -- What a class 0x07 operation does at dispatch it does with its operands, its random bits and its keys (12 R254).
  let r := if opClass o.desc = 7 && !o.desc.group && !outside.isEmpty then
      { r with st := updOp o.id (fun _ => o) s, opdata := [], effects := [] }
    else r
  let digests := if snooping sp o.desc && !r.noDigests then maskOut o.desc.param ((inBytes s o i).drop (sp.msgFrom s o i)) else []
  -- A direct output that overlaps the input is undefined (03 R67).
  let (r, digests) := spoilOverlap o r digests
  let t := updOp o.id (fun x =>
    { x with parked := parkedOf fails r digests, poisonSeen := x.poisonSeen || fails.contains .poisonConsumed }) r.st
  let t := if o.desc.group then stageMember o { r with staged := if fails.isEmpty then r.staged else [] } t else t
  let t := damageKeys o i (takeWork o r.created t)
  let t := if outside.isEmpty then t else r.onFail t
  if fails.isEmpty then r.post t else unAsk o.id t

/-- A management operation has no slot and completes when its action is done (02 R26). -/
def dispatchManagement (sp : OpSpec) (o : Op) (i : OpInput) (s : State) : State :=
  let o := dispatchedOp s o 0 i
  let data := dataFails (sp.uses o.desc) s o i
  let o := { o with poisonSeen := o.poisonSeen || data.contains .poisonConsumed }
  let r := sp.run (updOp o.id (fun _ => o) s) o i
  match firstSlot (data ++ r.fails), r.wait with
  | none, some w => { r.st with im := { r.st.im with waits := put o.id w r.st.im.waits } }
  | none, none => settle o (mkCompletion r.st o r.good r.verdict r.out r.opdata) r.st
  | some st, _ => settle o (mkCompletion r.st o st .none [] r.opdata) r.st

/-- Stage 5 and dispatch of operation `id` as one atomic step (R503), where the operation is of this opcode and waits there; anything
else changes nothing (log 2). -/
def dispatchAs (sp : OpSpec) (id : Nat) (i : OpInput) (s : State) : State :=
  match op? s id with
  | none => s
  | some o =>
    if !(atStage5 s o && o.desc.opcode == sp.opcode && (!o.preFail.isEmpty || sp.ready s o)) then s
    else
      match firstPre (stage5Fails sp s o i) with
      | some st => endEarly o st (sp.earlyData s o st) (sp.early st o s)
      | none =>
        if opClass o.desc = 0x0F then dispatchManagement sp o i s
        else dispatchEngine sp o i s

/-- A management operation that has waited completes (02 R26). -/
def completeWait (id : Nat) (st : Status) (opdata : Bytes) (s : State) : State :=
  let s := { s with im := { s.im with waits := del id s.im.waits } }
  match op? s id with
  | none => s
  | some o => settle o (mkCompletion s o st .none [] opdata) s

/-- The slot class of a descriptor: L of B = IN_LEN + AUX_LEN, and OUT_CAP for the suites of extendable output (R72; RANDOM has a slot
function of its own). -/
def classOf (d : Desc) : Nat := lengthClass (d.inLen + d.auxLen + (if d.suite = 0x0D02 ∨ d.suite = 0x0D03 then d.outCap else 0))

end Sys2Proof.Machine
end

