-- ==== Sys2Proof/Machine/KeyForms.lean ====
section
/-! DEFINITION. The forms of keys, signatures, ciphertexts and secrets: their lengths by suite, and the checks an import makes of key
material (05 R90, 06 R110, 07 R140, 08 R168, R178, 09 R188-R190, 12 R256). -/
namespace Sys2Proof.Machine

def famOf (suite : Nat) : Nat := suite / 256
def setOf (suite : Nat) : Nat := suite % 256

/-- n of an SLH-DSA set (06): 16, 24 or 32 bytes. -/
def slhN (set : Nat) : Nat := [16, 16, 16, 16, 24, 24, 24, 24, 32, 32, 32, 32].getD (set - 1) 0
/-- SLH-DSA signature length (06, sizes table). -/
def slhSigLen (set : Nat) : Nat := [7856, 17088, 16224, 35664, 29792, 49856].getD ((set - 1) / 2) 0

/-- n of a stateful set (02 R27): 32 for sets 1 and 3, 24 for 2 and 4. -/
def stfN (set : Nat) : Nat := if set % 2 = 1 then 32 else 24

def mlkemPubLen (set : Nat) : Nat := [800, 1184, 1568].getD (set - 1) 0
def mlkemCtLen (set : Nat) : Nat := [768, 1088, 1568].getD (set - 1) 0
def mldsaPubLen (set : Nat) : Nat := [1312, 1952, 2592].getD (set - 1) 0
def mldsaSigLen (set : Nat) : Nat := [2420, 3309, 4627].getD (set - 1) 0
def fndsaPubLen (set : Nat) : Nat := [897, 1793].getD (set - 1) 0
def fndsaMaxSig (set : Nat) : Nat := [666, 1280].getD (set - 1) 0

def cmRow (l : List Nat) (set : Nat) : Nat := l.getD ((set - 1) / 2) 0
def cmM (set : Nat) : Nat := cmRow [12, 13, 13, 13, 13] set
def cmT (set : Nat) : Nat := cmRow [64, 96, 128, 119, 128] set
def cmPubLen (set : Nat) : Nat := cmRow [261120, 524160, 1044992, 1047319, 1357824] set
def cmPrivLen (set : Nat) : Nat := cmRow [6492, 13608, 13932, 13948, 14120] set
def cmCtLen (set : Nat) : Nat := cmRow [96, 156, 208, 194, 208] set

def hqcRow (e : EngineInfo) (set : Nat) : Nat × Nat × Nat × Nat := e.hqcLens.getD (set - 1) (0, 0, 0, 0)
def hqcPubLen (e : EngineInfo) (set : Nat) : Nat := (hqcRow e set).1
def hqcCtLen (e : EngineInfo) (set : Nat) : Nat := (hqcRow e set).2.1
def hqcPrivLen (e : EngineInfo) (set : Nat) : Nat := (hqcRow e set).2.2.1
def hqcSsLen (e : EngineInfo) (set : Nat) : Nat := (hqcRow e set).2.2.2

/-- Curve keys (09 R188), families 0x09 and 0x0A. -/
def ecPrivLen (suite : Nat) : Nat :=
  if famOf suite = 9 then [32, 48, 66].getD (setOf suite - 1) 0 else [32, 32, 57, 32, 56].getD (setOf suite - 1) 0
def ecPubLen (suite : Nat) : Nat :=
  if famOf suite = 9 then [65, 97, 133].getD (setOf suite - 1) 0 else [32, 32, 57, 32, 56].getD (setOf suite - 1) 0
def ecSigLen (suite : Nat) : Nat :=
  if famOf suite = 9 then [64, 96, 132].getD (setOf suite - 1) 0 else [64, 64, 114].getD (setOf suite - 1) 0
def ecSharedLen (suite : Nat) : Nat :=
  if famOf suite = 9 then [32, 48, 66].getD (setOf suite - 1) 0 else [0, 0, 0, 32, 56].getD (setOf suite - 1) 0

/-- The group order of a P-curve (FIPS 186-5). -/
def curveOrder (set : Nat) : Nat :=
  match set with
  | 1 => 0xFFFFFFFF00000000FFFFFFFFFFFFFFFFBCE6FAADA7179E84F3B9CAC2FC632551
  | 2 => 0xFFFFFFFFFFFFFFFFFFFFFFFFFFFFFFFFFFFFFFFFFFFFFFFFC7634D81F4372DDF581A0DB248B0A77AECEC196ACCC52973
  | _ => 0x01FFFFFFFFFFFFFFFFFFFFFFFFFFFFFFFFFFFFFFFFFFFFFFFFFFFFFFFFFFFFFFFFFA51868783BF2F966B7FCC0148F709A5D03BB5C9B8899C47AEBB6FB71E91386409

/-! The curves (FIPS 186-5, SP 800-186, RFC 7748, RFC 8032). -/

/-- The field prime of a P-curve, and the coefficient b of y² = x³ - 3x + b. -/
def curvePrime (set : Nat) : Nat :=
  match set with
  | 1 => 2 ^ 256 - 2 ^ 224 + 2 ^ 192 + 2 ^ 96 - 1
  | 2 => 2 ^ 384 - 2 ^ 128 - 2 ^ 96 + 2 ^ 32 - 1
  | _ => 2 ^ 521 - 1

def curveB (set : Nat) : Nat :=
  match set with
  | 1 => 0x5AC635D8AA3A93E7B3EBBD55769886BC651D06B0CC53B0F63BCE3C3E27D2604B
  | 2 => 0xB3312FA7E23EE7E4988E056BE3F82D19181D9C6EFE8141120314088F5013875AC656398D8A2ED19D2A85C8EDD3EC2AEF
  | _ => 0x0051953EB9618E1C9A1F929A21A0B68540EEA2DA725B99B315F3B8B489918EF109E156193951EC7E937B1652C0BD3BB1BF073573DF883D2C34F1EF451FD46B503F00

def prime25519 : Nat := 2 ^ 255 - 19
def prime448 : Nat := 2 ^ 448 - 2 ^ 224 - 1
/-- The orders L of the two Edwards groups. -/
def order25519 : Nat := 2 ^ 252 + 27742317777372353535851937790883648493
def order448 : Nat := 2 ^ 446 - 13818066809895115352007386748515426880336692474882178609894547503885
/-- d of Ed25519 and -d of Ed448. -/
def edD25519 : Nat := 37095705934669439343138083508754565189542113879843219016388785533085940283555
def edD448 : Nat := 39081

/-- `b` to an exponent of `n` bits, modulo `m`. -/
def powMod (m b : Nat) : Nat → Nat → Nat
  | 0, _ => 1 % m
  | n + 1, e =>
    let r := powMod m b n (e / 2)
    if e % 2 = 1 then r * r % m * b % m else r * r % m

/-- Euler's criterion. -/
def isSquare (p x : Nat) : Bool := x % p == 0 || powMod p (x % p) 521 ((p - 1) / 2) == 1

/-- A SEC 1 uncompressed point lies on its P-curve, with both coordinates below p (09 R190). -/
def pointOk (set : Nat) (k : Bytes) : Bool :=
  let p := curvePrime set
  let l := (k.length - 1) / 2
  let x := beNat (slice k 1 l)
  let y := beNat (slice k (1 + l) l)
  k.head? == some 4 && x < p && y < p && (y * y + 3 * x) % p == (x * x * x + curveB set) % p

/-- A string decodes to a point of Ed25519 or Ed448 (RFC 8032): y below p, x² a square, and no sign on x = 0. -/
def edDecodes (suite : Nat) (k : Bytes) : Bool :=
  let big := suite == 0x0A03
  let p := if big then prime448 else prime25519
  let w := if big then 455 else 255
  let y := leNat k % 2 ^ w
  let u := (y * y + (p - 1)) % p
  let v := if big then (edD448 * (y * y % p) + 1) % p else (edD25519 * (y * y % p) + 1) % p
  -- For Ed448, x² = (1 - y²) / (39081 y² + 1).
  let w2 := if big then (p - u) % p else u
  y < p && isSquare p (w2 * v) && !(u == 0 && bit (leNat k) w)

/-- u of X25519, after bit 255 is cleared, and of X448 (RFC 7748; 04 R84). -/
def xCoord (suite : Nat) (k : Bytes) : Nat := if suite = 0x0A04 then leNat k % 2 ^ 255 else leNat k
def xCoordOk (suite : Nat) (k : Bytes) : Bool := xCoord suite k < (if suite = 0x0A04 then prime25519 else prime448)

/-- S of an EdDSA signature is below L, and its R decodes (04 R83). -/
def edSigOk (suite : Nat) (sig : Bytes) : Bool :=
  let l := sig.length / 2
  leNat (sig.drop l) < (if suite = 0x0A03 then order448 else order25519) && edDecodes suite (sig.take l)

/-- The 12-bit coefficients of an ML-KEM encapsulation key are below q = 3,329, so that it re-encodes to itself (FIPS 203; 05 R96). -/
def coeffsOk : Bytes → Bool
  | a :: b :: c :: rest =>
    a.toNat + 256 * (b.toNat % 16) < 3329 && b.toNat / 16 + 16 * c.toNat < 3329 && coeffsOk rest
  | _ => true

def mlkemModulusOk (set : Nat) (k : Bytes) : Bool := coeffsOk (k.take (384 * (set + 1)))

/-- Coefficients reduced below q: the encoding of every key that key generation makes. -/
def canonCoeffs : Bytes → Bytes
  | a :: b :: c :: rest =>
    let x := (a.toNat + 256 * (b.toNat % 16)) % 3329
    let y := (b.toNat / 16 + 16 * c.toNat) % 3329
    BitVec.ofNat 8 (x % 256) :: BitVec.ofNat 8 (x / 256 + 16 * (y % 16)) :: BitVec.ofNat 8 (y / 16) :: canonCoeffs rest
  | rest => rest

def mlkemPublic (set : Nat) (seed : Bytes) : Bytes :=
  let raw := algBytes .mlkemPublic (mlkemPubLen set) [set] [seed]
  canonCoeffs (raw.take (384 * (set + 1))) ++ raw.drop (384 * (set + 1))

/-- H of ML-KEM, SHA3-256 (FIPS 203). -/
def mlkemHash (ek : Bytes) : Bytes := algBytes .hash 32 [7] [ek]

/-- The secret a message gives under an encapsulation key: the first half of G(m ‖ H(ek)), SHA3-512. -/
def mlkemSecret (ek m : Bytes) : Bytes := (algBytes .hash 64 [9] [m ++ mlkemHash ek]).take 32

def mlkemCipher (set : Nat) (ek m : Bytes) : Bytes := algBytes .mlkemCiphertext (mlkemCtLen set) [set] [ek, m]

/-- The parts of an expanded ML-KEM key: dk of K-PKE, ek, H(ek) and z. -/
def dkPke (set : Nat) (dk : Bytes) : Bytes := dk.take (384 * (set + 1))
def dkEk (set : Nat) (dk : Bytes) : Bytes := slice dk (384 * (set + 1)) (mlkemPubLen set)
def dkHash (set : Nat) (dk : Bytes) : Bytes := slice dk (384 * (set + 1) + mlkemPubLen set) 32
def dkZ (set : Nat) (dk : Bytes) : Bytes := slice dk (384 * (set + 1) + mlkemPubLen set + 32) 32

/-- The hash check of FIPS 203 on an expanded key (05 R96). -/
def mlkemHashOk (set : Nat) (dk : Bytes) : Bool := mlkemHash (dkEk set dk) == dkHash set dk

/-- One secret of two, byte by byte, as a masked select takes it. -/
def select (n : Nat) (first : Bool) (a b : Bytes) : Bytes :=
  (List.range n).map (fun i => if first then a.getD i 0 else b.getD i 0)

/-- Decapsulation with implicit rejection (05 R97, R98): the derived secret where the whole ciphertext re-encrypts to itself, else
K̄ = J(z ‖ c), SHAKE256. -/
def mlkemDecaps (set : Nat) (dk c : Bytes) : Bytes :=
  let m := algBytes .mlkemMessage 32 [set] [dkPke set dk, c]
  select 32 (mlkemCipher set (dkEk set dk) m == c) (mlkemSecret (dkEk set dk) m) (algBytes .shake 32 [3] [dkZ set dk ++ c])

/-! RSA and DSA headers (09 R188). -/

def rsaBits (blob : Bytes) : Nat := field blob 0 2
def rsaE (blob : Bytes) : Nat := field blob 4 4
/-- k, the modulus length in bytes. -/
def rsaK (bitsN : Nat) : Nat := ceilDiv bitsN 8
def rsaPubLen (bitsN : Nat) : Nat := 8 + rsaK bitsN
def rsaPrivLen (bitsN : Nat) : Nat := 8 + 2 * ceilDiv bitsN 16
def rsaN (blob : Bytes) : Nat := beNat (slice blob 8 (rsaK (rsaBits blob)))
def dsaL (blob : Bytes) : Nat := field blob 0 2
def dsaN (blob : Bytes) : Nat := field blob 2 2
def dsaPubLen (bitsL bitsN : Nat) : Nat := 8 + 3 * (bitsL / 8) + bitsN / 8

/-- The length a public key of a suite has; for RSA and DSA its own header says (09 R191), for a stateful key its own type
fields (07 R140). -/
def pubLenOf (e : EngineInfo) (suite : Nat) (blob : Bytes) : Nat :=
  let set := setOf suite
  match famOf suite with
  | 1 => mlkemPubLen set
  | 2 => mldsaPubLen set
  | 3 => fndsaPubLen set
  | 4 => 2 * slhN set
  | 5 => 28 + stfN set
  | 6 => 4 + 2 * stfN set
  | 7 => cmPubLen set
  | 8 => hqcPubLen e set
  | 9 | 10 => ecPubLen suite
  | 11 => rsaPubLen (rsaBits blob)
  | 12 => if set = 3 then dsaPubLen (dsaL blob) (dsaN blob) else rsaPubLen (rsaBits blob)
  | _ => 0

def isZero (b : Bytes) : Bool := b.all (· == 0)

/-- An RSA modulus size a suite takes (02 R32, R34). -/
def rsaSizeOk (suite bitsN : Nat) : Bool :=
  (if famOf suite = 12 then 1024 else 2048) ≤ bitsN && bitsN ≤ 8192 && bitsN % 8 == 0

def dsaSizeOk (l n : Nat) : Bool :=
  [(1024, 160), (2048, 224), (2048, 256), (3072, 256)].contains (l, n)

/-- Edge checks on a public key, released at the slot with INVALID_INPUT (04 R83; 05 R96; 09 R190). -/
def pubFails (suite : Nat) (k : Bytes) : List Status :=
  when_ (match famOf suite with
    | 1 => !mlkemModulusOk (setOf suite) k
    | 9 => !pointOk (setOf suite) k
    | 10 => if setOf suite ≤ 3 then !edDecodes suite k else !xCoordOk suite k
    | 11 => rsaBad suite k
    | 12 => if setOf suite = 3 then dsaBad k else rsaBad suite k
    | _ => false) .invalidInput
where
  rsaBad (suite : Nat) (k : Bytes) : Bool :=
    let n := rsaN k
    !rsaSizeOk suite (rsaBits k) || field k 2 2 != 0 || n % 2 == 0 || n.log2 + 1 != rsaBits k
      || rsaE k % 2 == 0 || rsaE k < 3
  dsaBad (k : Bytes) : Bool :=
    let lb := dsaL k / 8
    let nb := dsaN k / 8
    let p := beNat (slice k 8 lb)
    let g := beNat (slice k (8 + lb + nb) lb)
    let y := beNat (slice k (8 + 2 * lb + nb) lb)
    !dsaSizeOk (dsaL k) (dsaN k) || field k 4 4 != 0 || g ≤ 1 || p ≤ g || y ≤ 1 || p ≤ y

/-- How many bits of a number are set, of its low 64. -/
def popcount (x : Nat) : Nat := ((List.range 64).filter (bit x)).length

/-- The checks on an unwrapped private plaintext (05 R90, 06 R110, 08 R168, 09 R189, 12 R256). -/
def privFails (e : EngineInfo) (suite : Nat) (k : Bytes) : List Status :=
  let set := setOf suite
  match famOf suite with
  | 1 => when_ (k.length != 64 || isZero (slice k 0 32) || isZero (slice k 32 32)) .keyRejected
  | 2 => when_ (k.length != 32 || isZero k) .keyRejected
  | 4 => when_ (k.length != 4 * slhN set || isZero (slice k 0 (slhN set))) .keyRejected
  | 7 =>
    let c := field k 32 8
    when_ (k.length != cmPrivLen set || isZero (slice k 0 32)
      || (if set % 2 = 1 then c != 0x00000000FFFFFFFF else popcount c != 32)
      || (List.range (cmT set)).any (fun i => 2 ^ cmM set ≤ field k (40 + 2 * i) 2)) .keyRejected
  | 8 => when_ (k.length != hqcPrivLen e set) .badLength ++ when_ (isZero k) .keyRejected
  | 9 => when_ (k.length != ecPrivLen suite || isZero k) .keyRejected
      ++ when_ (k.length == ecPrivLen suite && curveOrder set ≤ beNat k) .invalidInput
  | 10 => when_ (k.length != ecPrivLen suite || isZero k) .keyRejected
  | 11 =>
    let bitsN := rsaBits k
    let h := ceilDiv bitsN 16
    let p := beNat (slice k 8 h)
    let q := beNat (slice k (8 + h) h)
    let ex := rsaE k
    when_ (k.length != rsaPrivLen bitsN || !rsaSizeOk suite bitsN || field k 2 2 != 0 || ex % 2 == 0 || ex < 3
      || p % 2 == 0 || q % 2 == 0 || p == q || (p * q).log2 + 1 != bitsN
      || Nat.gcd ex (p - 1) != 1 || Nat.gcd ex (q - 1) != 1) .keyRejected
  | 14 => when_ ((if set = 1 then k.length < 16 || 128 < k.length else k.length != 32) || isZero k) .keyRejected
  | _ => []

/-- The big-endian bytes of a number, `n` of them. -/
def beBytes (n x : Nat) : Bytes := (leBytes n x).reverse

/-- The public key that belongs to a private key.  RSA multiplies P and Q; the others are the standards' own maps. -/
def derivePub (e : EngineInfo) (suite : Nat) (k : Bytes) : Bytes :=
  let set := setOf suite
  match famOf suite with
  | 1 => mlkemPublic set k
  | 2 => algBytes .mldsaPublic (mldsaPubLen set) [set] [k]
  | 4 => slice k (2 * slhN set) (2 * slhN set)
  | 8 => algBytes .hqcPublic (hqcPubLen e set) [set, e.hqcSpec] [k]
  | 9 => 4 :: algBytes .ecPublic (ecPubLen suite - 1) [suite] [k]
  | 10 => algBytes .ecPublic (ecPubLen suite) [suite] [k]
  | 11 =>
    let h := ceilDiv (rsaBits k) 16
    slice k 0 8 ++ beBytes (rsaK (rsaBits k)) (beNat (slice k 8 h) * beNat (slice k (8 + h) h))
  | _ => []

/-- The secret bytes a private slot of a suite holds in the arena, counted by R244 besides the public key: lattice slots keep
their expanded key too (05 R89), RSA slots dP, dQ and qInv (09 R189). -/
def arenaPrivLen (suite privLen : Nat) : Nat :=
  let set := setOf suite
  match famOf suite with
  | 1 => privLen + [1632, 2400, 3168].getD (set - 1) 0
  | 2 => privLen + [2560, 4032, 4896].getD (set - 1) 0
  | 11 => privLen + 3 * ((privLen - 8) / 2)
  | _ => privLen

/-- The inverse of `a` modulo `m` by the extended Euclidean algorithm, in at most `n` divisions. -/
def invModGo (m : Nat) : Nat → Int → Int → Nat → Nat → Nat
  | 0, _, _, _, _ => 0
  | n + 1, x0, x1, r0, r1 =>
    if r1 = 0 then (x0 % (m : Int)).toNat else invModGo m n x1 (x0 - (r0 / r1 : Nat) * x1) r1 (r0 % r1)

def invMod (a m : Nat) : Nat := invModGo m 16384 0 1 m (a % m)

/-- The private values the device derives from a key and holds beside it: a lattice key's expanded form (05 R89), and the dP, dQ and qInv of an
RSA key (09 R189). -/
def expandPriv (suite : Nat) (k : Bytes) : Bytes :=
  let set := setOf suite
  match famOf suite with
  | 1 =>
    -- FIPS 203: dk of K-PKE, the encapsulation key, its hash, and z.
    let ek := mlkemPublic set k
    algBytes .mlkemExpanded (384 * (set + 1)) [set] [k] ++ ek ++ mlkemHash ek ++ slice k 32 32
  | 2 => algBytes .mldsaExpanded ([2560, 4032, 4896].getD (set - 1) 0) [set] [k]
  | 11 =>
    let h := ceilDiv (rsaBits k) 16
    let p := beNat (slice k 8 h)
    let q := beNat (slice k (8 + h) h)
    beBytes h (invMod (rsaE k) (p - 1)) ++ beBytes h (invMod (rsaE k) (q - 1)) ++ beBytes h (invMod q p)
  | _ => []

/-- A slot as its blob or its replica gives it back: what is derived is rebuilt (05 R89, 09 R189). -/
def rebuilt (e : EngineInfo) (k : KeySlot) : KeySlot :=
  if k.publicOnly then k
  else
    { k with pub := if famOf k.suite = 1 ∨ famOf k.suite = 2 then derivePub e k.suite k.priv else k.pub, expanded := expandPriv k.suite k.priv }

/-- A slot from a template, with its granules counted over all it holds. -/
def keySlotFrom (t : Template) (suite owner : Nat) (priv pub : Bytes) (publicOnly : Bool)
    (lineage : List (Nat × Nat)) (fromRoot : Bool) (hqcRev : Nat) : KeySlot :=
  { slotFrom t suite owner priv pub publicOnly lineage fromRoot hqcRev with
    granules := granulesFor (arenaPrivLen suite priv.length) pub.length
    expanded := if publicOnly then [] else expandPriv suite priv }

/-! #### Suite lists (02 R27, R499) -/

def rangeIn (lo hi x : Nat) : Bool := lo ≤ x && x ≤ hi

/-- "Any key suite" for wrapped import and export. -/
def wrappedSuites (x : Nat) : Bool :=
  rangeIn 0x0101 0x0103 x || rangeIn 0x0201 0x0203 x || rangeIn 0x0401 0x040C x || rangeIn 0x0501 0x0504 x
    || rangeIn 0x0601 0x0604 x || rangeIn 0x0701 0x070A x || rangeIn 0x0801 0x0803 x || rangeIn 0x0901 0x0903 x
    || rangeIn 0x0A01 0x0A05 x || rangeIn 0x0B01 0x0B03 x || rangeIn 0x0E01 0x0E05 x

/-- "Any key suite" for public import and export. -/
def publicSuites (x : Nat) : Bool :=
  rangeIn 0x0101 0x0103 x || rangeIn 0x0201 0x0203 x || rangeIn 0x0301 0x0302 x || rangeIn 0x0401 0x040C x
    || rangeIn 0x0501 0x0504 x || rangeIn 0x0601 0x0604 x || rangeIn 0x0801 0x0803 x || rangeIn 0x0901 0x0903 x
    || rangeIn 0x0A01 0x0A05 x || rangeIn 0x0B01 0x0B03 x || rangeIn 0x0C01 0x0C03 x

def noSuite (x : Nat) : Bool := x == 0

/-- Every suite R27 defines. -/
def definedSuite (x : Nat) : Bool :=
  x == 0 || publicSuites x || wrappedSuites x || rangeIn 0x0D01 0x0D03 x || x == 0x0E06 || rangeIn 0x0F01 0x0F03 x
    || rangeIn 0x1001 0x1004 x

/-- Hash identifiers (R30): the hashes of any hashing use, and the extendable outputs for pre-hashing. -/
def hashAny (h : Nat) : Bool := rangeIn 2 9 h
def hashPre (h : Nat) : Bool := rangeIn 2 11 h

/-- The output length of a hash identifier (R30). -/
def hashLen (h : Nat) : Nat := [0, 20, 28, 32, 48, 64, 32, 32, 48, 64, 32, 64].getD h 0

/-- PARAM's fields (R29). -/
def pMask (p : Nat) : Nat := bits p 15 12
def pHash (p : Nat) : Nat := bits p 11 8
def pOpt (p : Nat) : Nat := bits p 7 0

end Sys2Proof.Machine
end

