-- ==== Sys2Proof/Machine/Rings.lean ====
section
/-! DEFINITION. Rings and doorbells: BAR2 writes, fetch, the index block, and the management of ring pairs (13_rings). -/
namespace Sys2Proof.Machine

/-! #### Doorbells (R281-R287, R291) -/

/-- A stray BAR2 write (R282). -/
def stray (inst d : Nat) (s : State) : State :=
  { s with qm := { s.qm with strayCount := sat 0xFFFF (s.qm.strayCount + 1), strayInst := inst, strayIndex := d } }

/-- A doorbell value is rejected: counted in DB_IGNORED, and the event where the rule names it. -/
def dbIgnored (n : Nat) (event : Bool) (s : State) : State :=
  let s := updRing n (fun r => { r with dbIgnored := sat 0xFF (r.dbIgnored + 1) }) s
  if event then raise_ 129 n s else s

/-- BAR2 writes are acted on (21 R478): not in D3hot, halted or BOOT; in recovery hold ring 0's doorbells only. -/
def bar2Ok (s : State) (inst d : Nat) : Bool :=
  !s.glb.perst && !s.hp.d3hot && !s.glb.halted
    && (s.glb.mode != .boot || (s.glb.recoveryHold && ((ringAt s inst d).map (·.1)) == some 0))

/-- A read of the index block failed: the previous value stays in force (R290). -/
def indexReadFailed (n : Nat) (s : State) : State :=
  raise_ 130 n (updRing n (fun r => { r with fetchErrors := sat 0xFF (r.fetchErrors + 1) }) s)

/-- Submission doorbell in SCAN mode, with the hint SQ_TAIL as read, or none where the read failed (R284, R287, R290). -/
def sqDoorbellScan (inst d : Nat) (hint : Option Nat) (s : State) : State :=
  if !bar2Ok s inst d then s else
  match ringAt s inst d with
  | none => stray inst d s
  | some (n, r) =>
    if r.tailMode then s else
    let start (s : State) : State := updRing n (fun r => { r with scanning := true, redo := none, again := r.scanning, stopped := false, idxDirty := r.idxDirty || r.stopped }) s
    match hint with
    | none => start (indexReadFailed n s)
    | some w =>
      match linOf r.size w with
      | some l => if used r.size l r.sqHead ≤ r.size then start s else start (dbIgnored n false s)
      | none => start (dbIgnored n false s)

/-- Submission doorbell in TAIL mode (R285). -/
def sqDoorbellTail (inst d w : Nat) (s : State) : State :=
  if !bar2Ok s inst d then s else
  match ringAt s inst d with
  | none => stray inst d s
  | some (n, r) =>
    if !r.tailMode then s else
    -- A doorbell clears the stop of R290 and reads again.
    let s := updRing n (fun r => { r with stopped := false, idxDirty := r.idxDirty || r.stopped }) s
    match linStrict r.size w with
    | none => dbIgnored n true s
    | some l =>
      if used r.size l r.sqHead ≤ r.size ∧ used r.size r.tail r.sqHead ≤ used r.size l r.sqHead then
        updRing n (fun r => { r with tail := l }) s
      else dbIgnored n true s

/-- Completion doorbell, with CQ_HEAD as read (R286); it also tries the writes of R294 again. -/
def cqDoorbell (inst d : Nat) (head : Option Nat) (s : State) : State :=
  if !bar2Ok s inst d then s else
  match ringAt s inst d with
  | none => stray inst d s
  | some (n, r) =>
    let s := updRing n (fun r => { r with writeWaits := false, idxDirty := r.idxDirty || r.writeStopped }) s
    match head with
    | none => indexReadFailed n s
    | some w =>
      match linOf r.size w with
      | none => dbIgnored n true s
      | some l =>
        if used r.size r.cqTail l ≤ used r.size r.cqTail r.cqHead then
          updRing n (fun r => { r with cqHead := l, idxDirty := true }) s
        else dbIgnored n true s

/-- INST_SQ_INVAL (R291): cached entries at or after the position are dropped and will be fetched again, by the scan under way or on their
own, and INVAL_ACK is written. -/
def sqInvalidate (inst d w : Nat) (s : State) : State :=
  if !bar2Ok s inst d then s else
  match ringAt s inst d with
  | none => stray inst d s
  | some (n, r) =>
    match linStrict r.size w with
    | none => dbIgnored n false s
    | some l =>
      -- The named entry has not been admitted when it lies at or after SQ_HEAD, within the orbit the ring spans.
      let live := used r.size l r.sqHead < r.size
      let keep := r.cache.filter (fun c => live && used r.size c.lin r.sqHead < used r.size l r.sqHead)
      let pos := if live && used r.size l r.sqHead < used r.size r.fetchPos r.sqHead then l
        else if live then r.fetchPos else r.sqHead
      updRing n (fun r => { r with
        cache := keep, fetchPos := pos
        -- A scan that has stopped stays so: only what was dropped is fetched again (R284 step 5).
        redo := if r.tailMode || r.scanning || pos = r.fetchPos then r.redo else r.redo.or (some r.fetchPos)
        inval := { word := w % 131072, done := live, tooLate := !live, seq := (r.inval.seq + 1) % 256 }
        idxDirty := true }) s

/-- Moderation settings of a ring (14 R328): 0 is taken as 1, values above 1,000 as 1,000; P at or above a new threshold fires; a
running timer expires at the earlier of its old expiry and its start plus the new time. -/
def cqModWrite (inst d w : Nat) (s : State) : State :=
  if !bar2Ok s inst d then s else
  match ringAt s inst d with
  | none => s
  | some (n, _) =>
    let en := bit w 31
    let valid := ringVectorValid s n
    updRing n (fun r =>
      let r := { r with countM1 := bits w 7 0, timerUs := clip 1 1000 (bits w 17 8), irqEn := en }
      if !en then { r with pend := 0, timerStart := none }
      else if r.countM1 + 1 ≤ r.pend then { r with pend := 0, timerStart := none, eventPending := r.eventPending || valid }
      else { r with timerAt := min r.timerAt (r.timerStart.getD 0 + beatsUs r.timerUs) }) s

def execSqDoorbellScan (inst d : Nat) (hint : Option Nat) (s : State) : Host.Outcome State Fault Refusal :=
  .next (sqDoorbellScan inst d hint s)
def execSqDoorbellTail (inst d w : Nat) (s : State) : Host.Outcome State Fault Refusal := .next (sqDoorbellTail inst d w s)
def execCqDoorbell (inst d : Nat) (head : Option Nat) (s : State) : Host.Outcome State Fault Refusal :=
  .next (cqDoorbell inst d head s)
def execSqInvalidate (inst d w : Nat) (s : State) : Host.Outcome State Fault Refusal := .next (sqInvalidate inst d w s)
def execCqModWrite (inst d w : Nat) (s : State) : Host.Outcome State Fault Refusal := .next (cqModWrite inst d w s)

/-- A BAR2 write the device ignores (R282; 21 R478): a narrower write, or one of a doorbell of an index without an enabled ring, is
counted; a whole word at a reserved offset is ignored. -/
def doorbellStray (inst off width : Nat) (s : State) : State :=
  let d := off % 0x1000 / 0x20 % 64
  if !bar2Ok s inst d then s else
  let noRing := off % 0x1000 < 0x800 && (ringAt s inst d).isNone && off % 0x20 < 0x0C
  if width < 4 || noRing then stray inst d s else s

def execDoorbellStray (inst off width : Nat) (s : State) : Host.Outcome State Fault Refusal :=
  .next (doorbellStray inst off width s)

/-! #### Fetch (R284, R285, R288, R290) -/

/-- Fetch may go on for a ring: the device issues requests, the ring is enabled and not stopped, and its instance is not being
reset (14 R309). -/
def fetchOk (s : State) (r : Ring) : Bool :=
  memoryOk s && r.enabled && !r.stopped && (instOf s r.inst).state == .bound
    && (r.cache.any (·.bad)
      || (if r.tailMode then used r.size r.fetchPos r.sqHead < used r.size r.tail r.sqHead else r.scanning || r.redo.isSome))

/-- One fetched entry: owned entries join the cache; an entry not owned stops a scan, and in TAIL mode is cached to complete
with MALFORMED. -/
def fetchNew (d : Desc) (r : Ring) : Ring :=
  let owned := d.phase == phaseOf r.size r.fetchPos
  let next := (r.fetchPos + 1) % (2 * r.size)
  if owned || r.tailMode then
    { r with cache := r.cache ++ [{ lin := r.fetchPos, desc := d, owned := owned, bad := false }], fetchPos := next
             redo := if r.redo = some next then none else r.redo }
  else { r with scanning := r.again, again := false, redo := none }

/-- A cached entry with a poisoned word, read again from the host (R288, 15 R334); one that has lost its ownership stops a SCAN ring
there. -/
def fetchAgain (d : Desc) (c : Cached) (r : Ring) : Ring :=
  let owned := d.phase == phaseOf r.size c.lin
  if owned || r.tailMode then
    { r with cache := r.cache.map (fun x => if x.lin = c.lin then { x with desc := d, owned := owned, bad := false } else x) }
  else { r with cache := r.cache.takeWhile (·.lin != c.lin), fetchPos := c.lin, scanning := r.again, again := false, redo := none }

/-- One entry as it arrives: for the first cached entry to be read again, or for the fetch position. -/
def fetchOne (e : Bytes) (r : Ring) : Ring :=
  match r.cache.find? (·.bad) with
  | some c => fetchAgain (decodeDesc e) c r
  | none => fetchNew (decodeDesc e) r

/-- There is room for what is fetched next (at most 8 cached, R288). -/
def fetchRoom (r : Ring) : Bool :=
  r.cache.any (·.bad) || (r.cache.length < 8 && used r.size r.fetchPos r.sqHead < r.size)

/-- A fetch of ring `n` delivers entries, as cache room allows. -/
def fetch (n : Nat) : List Bytes → State → State
  | [], s => s
  | e :: es, s =>
    match ring? s n with
    | none => s
    | some r => if fetchOk s r && fetchRoom r then fetch n es (setRing n (fetchOne e r) s) else s

/-- A ring's requests carry its instance's PASID, whose translations the device caches (14 R304). -/
def noteAts (n : Nat) (s : State) : State :=
  match ring? s n with
  | none => s
  | some r =>
    let p := (instOf s r.inst).pasid
    if r.inst = 0 || s.hp.ats.contains p then s else { s with hp := { s.hp with ats := s.hp.ats ++ [p] } }

/-- A read of submission entries failed (R290): the ring stops at the first entry it could not read. -/
def ringFetchError (n : Nat) (s : State) : State :=
  match ring? s n with
  | none => s
  | some r =>
    if fetchOk s r then
      raise_ 130 n (setRing n
        { r with
          stopped := true, scanning := false, redo := none, again := false, idxDirty := true
          fetchErrors := sat 0xFF (r.fetchErrors + 1) } s)
    else s

def execRingFetchError (ring : Nat) (s : State) : Host.Outcome State Fault Refusal := .next (ringFetchError ring s)

/-! #### Index block, held completions, timers (R280, R294-R297; 14 R327) -/

/-- The device half of the index block, bytes 0x20-0x3F (R279). -/
def indexHalf (r : Ring) : Bytes :=
  leBytes 4 (indexWord r.size r.sqHead) ++ leBytes 4 (indexWord r.size r.cqTail)
    ++ leBytes 4 (r.inval.word + 131072 * ofBool r.inval.done + 262144 * ofBool r.inval.tooLate + 16777216 * r.inval.seq)
    ++ leBytes 4 (ofBool r.full + 2 * ofBool r.backlog + 4 * ofBool r.stopped + 8 * ofBool r.writeStopped)
    ++ List.replicate 16 0

/-- WRITE_STOPPED clears when the index block and every held completion have been written (R294): with the write of the index block
that finds none held. -/
def clearStop (r : Ring) : Ring := if ringHeld r then r else { r with writeStopped := false }

/-- The 32-byte write of R280, where something has changed; a ring being destroyed has its completions written too (R300). -/
def indexBlockWrite (n : Nat) (s : State) : State :=
  match ring? s n with
  | none => s
  | some r =>
    if memoryOk s && r.idxDirty then
      let r := clearStop r
      writeHost (spaceOf s r.inst) (r.idxBase + 0x20) (indexHalf r) (setRing n { r with idxDirty := false } s)
    else s

def execIndexBlockWrite (ring : Nat) (s : State) : Host.Outcome State Fault Refusal := .next (indexBlockWrite ring s)

/-- A completion entry or the index block could not be written (R294). -/
def ringWriteError (n : Nat) (s : State) : State :=
  match ring? s n with
  | none => s
  | some r =>
    -- The write that fails is the front entry's where one can be tried, and the index block's otherwise.
    let entry := !r.outq.isEmpty && !cqFull r && !r.writeWaits
    if memoryOk s && (r.idxDirty || entry) then
      let held := if entry then r.backlogAt.or (some (s.beat + beatsMs (setting s 0x020104 15 0))) else r.backlogAt
      raise_ 131 n (setRing n
        { r with
          writeStopped := true, writeWaits := r.writeWaits || entry, writeErrors := sat 0xFF (r.writeErrors + 1), idxDirty := true, backlogAt := held } s)
    else s

def execRingWriteError (ring : Nat) (s : State) : Host.Outcome State Fault Refusal := .next (ringWriteError ring s)

/-- COMMIT of a ring's next completion (01 R17, 13 R293). -/
def commit (n : Nat) (outcome : Status) (s : State) : State := commitFront n outcome s

/-- A held completion is written once there is room (R296). -/
def heldWrite (n : Nat) (s : State) : State :=
  match ring? s n with
  | none => s
  | some r => if r.writeWaits || r.backlogAt.isNone || cqFull r then s else commitFront n .ok s

def execHeldCompletionWrite (ring : Nat) (s : State) : Host.Outcome State Fault Refusal := .next (heldWrite ring s)

/-- The backlog timer expires while the ring holds completions (R297): CQ_HEAD is read again, BACKLOG is set and the event raised. -/
def backlogTimer (n : Nat) (head : Option Nat) (s : State) : State :=
  match ring? s n with
  | none => s
  | some r =>
    match r.backlogAt with
    | none => s
    | some t =>
      if s.hp.d3hot || s.beat < t || r.outq.isEmpty then s else
      let r' := { r with backlog := true, idxDirty := true, backlogAt := some (s.beat + beatsMs (setting s 0x020104 15 0)) }
      let s := raise_ 128 n (setRing n r' s)
      match head with
      | none => indexReadFailed n s
      | some w =>
        match linOf r.size w with
        | some l =>
          if used r.size r.cqTail l ≤ used r.size r.cqTail r.cqHead then updRing n (fun r => { r with cqHead := l }) s
          else dbIgnored n true s
        | none => dbIgnored n true s

def execBacklogTimer (ring : Nat) (head : Option Nat) (s : State) : Host.Outcome State Fault Refusal :=
  .next (backlogTimer ring head s)

/-- A ring's moderation timer expires: its event fires (14 R327). -/
def moderationTimer (n : Nat) (s : State) : State :=
  match ring? s n with
  | none => s
  | some r =>
    if r.timerStart.isSome && r.timerAt ≤ s.beat then
      let s := setRing n { r with pend := 0, timerStart := none, eventPending := r.eventPending || ringVectorValid s n } s
      if ringVectorValid s n then wakePme s else s
    else s

def execModerationTimer (ring : Nat) (s : State) : Host.Outcome State Fault Refusal := .next (moderationTimer ring s)

/-- Vector `v` of the MSI-X table is masked: the function mask, or its own mask bit (14 R326; entry word 3, bit 0), which a reset
sets (PRESUMED, log 11). -/
def vectorMasked (s : State) (v : Nat) : Bool :=
  s.hp.functionMask || (((lookup (0x018000 + 16 * v + 12) s.regs).map (fun w => bit w.toNat 0)).getD true)

/-- A message on vector `v`: sent, or its pending bit set where it is masked. -/
def deliver (v : Nat) (s : State) : State :=
  if !s.hp.msixEnable then s
  else if vectorMasked s v then
    if s.hp.pba.contains v then s else { s with hp := { s.hp with pba := s.hp.pba ++ [v] } }
  else send (.msix v) s

/-- MSIX_MESSAGE for an event source (14 R326, R327, R329): sources 0-4,095 are rings, 4,096 + k device events. -/
def msixMessage (src : Nat) (s : State) : State :=
  if !memoryOk s then s
  else if src < 4096 then
    match ring? s src with
    | none => s
    | some r =>
      if r.eventPending && !r.idxDirty then
        deliver (setting s (0x034000 + 4 * src) 10 0) (setRing src { r with eventPending := false } s)
      else s
  else
    let k := src - 4096
    match lookup k s.im.events with
    | none => s
    | some e =>
      if e.unsent then
        deliver (setting s (0x03C000 + 4 * k) 10 0)
          { s with im := { s.im with events := put k { e with unsent := false } s.im.events } }
      else s

def execMsixMessage (source : Nat) (s : State) : Host.Outcome State Fault Refusal := .next (msixMessage source s)

/-- A vector is unmasked: its pending message is sent and the pending bit cleared (14 R326). -/
def msixUnmask (v : Nat) (s : State) : State :=
  if s.hp.pba.contains v && !vectorMasked s v && memoryOk s then
    send (.msix v) { s with hp := { s.hp with pba := s.hp.pba.filter (· != v) } }
  else s

/-- MSIX_UNMASK: software clears the mask bit of a vector's table entry, or for `v` of 2,048 and above enables MSI-X with its function mask
clear (log 11). -/
def msixClear (v : Nat) (s : State) : State :=
  let off := 0x018000 + 16 * v + 12
  if v < 2048 then
    if bar0Ok s off then msixUnmask v (setReg off (regWord s off &&& 0xFFFFFFFE#32) s) else s
  else s.hp.pba.foldl (fun t x => msixUnmask x t) { s with hp := { s.hp with msixEnable := true, functionMask := false } }

def execMsixUnmask (v : Nat) (s : State) : Host.Outcome State Fault Refusal := .next (msixClear v s)

/-! #### Ring pairs (R274, R275, R298-R301) -/

/-- A new pair: positions at the start of the first orbit, whose phase is 1 (R280), moderation from IM_MOD_DEFAULT. -/
def newRing (s : State) (inst sizeLog2 dbIndex sq cq idx : Nat) (tailMode : Bool) : Ring :=
  let size := 2 ^ sizeLog2
  { enabled := true, tailMode := tailMode, sizeLog2 := sizeLog2, dbIndex := dbIndex, inst := inst,
    sqBase := sq, cqBase := cq, idxBase := idx, sqHead := size, fetchPos := size, tail := size, scanning := false, redo := none,
    again := false, cqTail := size, cqHead := size, cache := [], stopped := false, writeStopped := false, writeWaits := false,
    full := false, backlog := false,
    outq := [], lastOut := s.beat, inval := { word := 0, done := false, tooLate := false, seq := 0 }, idxDirty := true,
    dbIgnored := 0, tailPhase := 0, fetchErrors := 0, writeErrors := 0, backlogAt := none, backlogLeft := none,
    batches := [], groups := [], countM1 := setting s 0x03010C 7 0, timerUs := setting s 0x03010C 17 8, irqEn := true,
    pend := 0, timerStart := none, timerAt := 0, eventPending := false }

/-- A base breaks R275: misaligned, 0, or above 62 bits. -/
def baseBad (align a : Nat) : Bool := a % align != 0 || a == 0 || 2 ^ 62 ≤ a

/-- The cancellation of one operation (03 R68): before dispatch it ends with ABORTED; after, its checkpoint is requested, and taken
at once where the engine has finished. -/
def cancelOne (id : Nat) (s : State) : State :=
  match op? s id with
  | none => s
  | some o =>
    if !dispatched o then endEarly o .aborted [] s
    else if o.stage == .finished then
      failStream o (updOp id (fun o => { o with cancel := true, checkpoint := true, parked := { o.parked with status := .aborted, out := [] } }) s)
    else updOp id (fun o => { o with cancel := true }) s

def cancelAll (ids : List Nat) (s : State) : State := ids.foldl (fun t id => cancelOne id t) s

def ringOps (s : State) (n : Nat) : List Nat := (s.ops.filter (·.ring == n)).map (·.id)

/-- A group cancelled with its ring rolls back: its first admitted member carries ABORTED, be it released already (03 R68). -/
def cancelGroup (g : Group) : Group :=
  match g.members with
  | [] => g
  | m :: ms =>
    if g.inForce || g.failed.isSome then g
    else { g with
      failed := some (m.op, .aborted)
      members := { m with done := m.done.map (fun c => { c with status := .aborted, verdict := .none, outLen := 0, opdata := [], writes := [] }) } :: ms }

/-- The operations a ring's cancellation meets: those in flight, and the members of its groups that wait, released, for the commit. -/
def cancellable (s : State) (n : Nat) : List Nat :=
  ringOps s n ++ (((ring? s n).map (fun r => (r.groups.filter (!·.inForce)).flatMap (fun g => (g.members.filter (·.done.isSome)).map (·.op)))).getD [])

/-- One of some operations has not ended: it is in flight, or its group has not. -/
def cancelPending (s : State) (n : Nat) (ids : List Nat) : Bool :=
  (ringOps s n).any ids.contains || ((ring? s n).map (fun r => r.groups.any (fun g => g.members.any (fun m => ids.contains m.op)))).getD false

/-- Every admitted operation of a ring cancelled together. -/
def cancelRing (n : Nat) (s : State) : State :=
  cancelAll (ringOps s n) (updRing n (fun r => { r with groups := r.groups.map cancelGroup }) s)

/-- Common field rules of RING_CREATE, RING_DESTROY and RING_CANCEL (R299). -/
def ringUses : Desc → Uses := fun _ => { inLen := true, inRef := true, inKinds := inlineOnly }

def instReason (r : Nat) : Bytes := [0, 0, BitVec.ofNat 8 r]

/-- The reasons RING_CREATE is refused for, in the order of R299; a ring being destroyed keeps its index to the end (R300). -/
def ringCreateReasons (s : State) (inst d : Nat) : List Nat :=
  (if (instOf s inst).state != .bound then [1] else [])
    ++ (if s.qm.rings.any (fun e => e.2.inst == inst && e.2.dbIndex == d) then [2] else [])
    ++ (if (firstFree 1 4096 s.qm.rings).isNone then [3] else [])
    ++ (if inst = 0 then [5] else [])

def ringCreateSpec : OpSpec :=
  { opcode := 0x0F05, suites := noSuite, param := fun _ p => p == 0, uses := ringUses, units := fun _ => []
    slot := fun _ _ _ => 0
    late := fun s o i =>
      let b := inBytes s o i
      -- INSTANCE_STATE, given in `run`, stands before a length out of range (02 R39).
      let refused := !(ringCreateReasons s (bits (field b 0x18 2) 9 0) (bits (field b 0x1C 1) 5 0)).isEmpty
      when_ (o.desc.inLen != 32 || (!refused && !(4 ≤ field b 0x1A 1 && field b 0x1A 1 ≤ 16))) .badLength
      ++ when_ (bits (field b 0x18 2) 15 10 != 0 || bits (field b 0x1B 1) 7 1 != 0 || bits (field b 0x1C 1) 7 6 != 0
          || field b 0x1D 3 != 0) .malformed
      ++ when_ (baseBad 4096 (field b 0 8) || baseBad 4096 (field b 8 8) || baseBad 64 (field b 16 8)) .badReference
    run := fun s o i =>
      let b := inBytes s o i
      let inst := bits (field b 0x18 2) 9 0
      let d := bits (field b 0x1C 1) 5 0
      match ringCreateReasons s inst d with
      | r :: _ => { st := s, fails := [.instanceState], opdata := instReason r }
      | [] =>
        match firstFree 1 4096 s.qm.rings with
        | none => { st := s, fails := [.instanceState], opdata := instReason 3 }
        | some n =>
          { st := setRing n (newRing s inst (field b 0x1A 1) d (field b 0 8) (field b 8 8) (field b 16 8)
                    (bit (field b 0x1B 1) 0)) s
            opdata := leBytes 2 n } }

/-- RING_DESTROY and RING_CANCEL refuse a ring that is not enabled, ring 0, or the ring that carries the operation; and one whose
instance is not bound. -/
def ringTargetReasons (s : State) (o : Op) (n : Nat) : List Nat :=
  match ring? s n with
  | none => [4]
  | some r =>
    (if (instOf s r.inst).state != .bound then [1] else [])
      ++ (if !r.enabled || n = 0 || n = o.ring then [4] else [])

/-- Unadmitted entries of a ring: up to the last accepted tail, or to where the last scan stopped (13 R302). -/
def unadmitted (r : Ring) : Nat := used r.size (if r.tailMode then r.tail else r.fetchPos) r.sqHead

/-- Steps 1-3 of R300: doorbells stray, unadmitted entries dropped, which consumes them (R289), admitted operations cancelled. -/
def beginDestroy (n : Nat) (s : State) : State × Nat :=
  match ring? s n with
  | none => (s, 0)
  | some r =>
    let s := setRing n
      { r with
        enabled := false, cache := [], scanning := false, redo := none, again := false
        sqHead := if r.tailMode then r.tail else r.fetchPos, idxDirty := true
        groups := r.groups.map (fun g => { g with closed := true })
        batches := r.batches.map (fun b => { b with closed := true }) } s
    (cancelRing n (updRing n flushBatches s), unadmitted r)

def ringWordLate (s : State) (o : Op) (i : OpInput) : List Status :=
  when_ (o.desc.inLen != 4) .badLength ++ when_ (bits (field (inBytes s o i) 0 4) 31 12 != 0) .malformed

/-- Nothing of a ring is in flight or waiting to be written. -/
def ringIdle (s : State) (n : Nat) : Bool :=
  (ringOps s n).isEmpty && (match ring? s n with | none => true | some r => r.outq.isEmpty && r.batches.isEmpty && r.groups.isEmpty)

def ringDestroySpec : OpSpec :=
  { opcode := 0x0F06, suites := noSuite, param := fun _ p => p == 0, uses := ringUses, units := fun _ => []
    slot := fun _ _ _ => 0, late := ringWordLate
    run := fun s o i =>
      let n := bits (field (inBytes s o i) 0 4) 11 0
      match ringTargetReasons s o n with
      | r :: _ => { st := s, fails := [.instanceState], opdata := instReason r }
      | [] =>
        let (t, dropped) := beginDestroy n s
        { st := t, wait := some (.destroy n dropped) } }

def ringCancelSpec : OpSpec :=
  { opcode := 0x0F07, suites := noSuite, param := fun _ p => p == 0, uses := ringUses, units := fun _ => []
    slot := fun _ _ _ => 0, late := ringWordLate
    run := fun s o i =>
      let n := bits (field (inBytes s o i) 0 4) 11 0
      match ringTargetReasons s o n with
      | r :: _ => { st := s, fails := [.instanceState], opdata := instReason r }
      | [] =>
        let ids := cancellable s n
        let t := cancelRing n s
        if cancelPending t n ids then { st := t, wait := some (.cancel n ids ids.length) }
        else { st := t, opdata := leBytes 4 ids.length } }

def execRingCreate (op : Nat) (inp : OpInput) (s : State) : Host.Outcome State Fault Refusal := .next (dispatchAs ringCreateSpec op inp s)
def execRingDestroy (op : Nat) (inp : OpInput) (s : State) : Host.Outcome State Fault Refusal := .next (dispatchAs ringDestroySpec op inp s)
def execRingCancel (op : Nat) (inp : OpInput) (s : State) : Host.Outcome State Fault Refusal := .next (dispatchAs ringCancelSpec op inp s)

/-- RING_CANCEL completes when the completion of every operation it cancelled has been written or is held (R301). -/
def settleCancels (s : State) : State :=
  s.im.waits.foldl (fun t w =>
    match w.2 with
    | .cancel n ids count => if cancelPending t n ids then t else completeWait w.1 .ok (leBytes 4 count) t
    | _ => t) s

/-- Rings freed: RING_n_ERRORS keeps their counts (21 R476). -/
def freeRings (hit : Nat → Ring → Bool) (s : State) : State :=
  let gone := s.qm.rings.filter (fun e => hit e.1 e.2)
  { s with qm := { s.qm with
      rings := s.qm.rings.filter (fun e => !hit e.1 e.2)
      errors := gone.foldl (fun l e => put e.1 (e.2.dbIgnored, e.2.tailPhase, e.2.fetchErrors, e.2.writeErrors) l) s.qm.errors } }

/-- Completions a ring has still to write: those released, one for each batch, and those of its groups' members. -/
def ringCompletions (r : Ring) : Nat :=
  r.outq.length + (r.batches.filter (!·.members.isEmpty)).length + (r.groups.map (·.members.length)).sum

/-- The end of a RING_DESTROY (R300 steps 5 and 6): the ring is unbound and its number freed. -/
def finishDestroy (id n dropped : Nat) (s : State) : State :=
  let discarded := ((ring? s n).map ringCompletions).getD 0
  completeWait id .ok (leBytes 4 dropped ++ leBytes 4 discarded) (freeRings (fun m _ => m == n) s)

/-- One backlog period has passed since the last release on a ring. -/
def heldOver (s : State) (r : Ring) : Bool := r.lastOut + beatsMs (setting s 0x020104 15 0) ≤ s.beat

/-- Ring 0 has been disabled, and all that bears on it has ended (R298, R300): it is unbound.  Management operations it carried that still
wait go on, and complete into no ring. -/
def settleRingZero (s : State) : State :=
  match ring? s 0 with
  | none => s
  | some r =>
    let busy := s.ops.any (fun o => o.ring == 0 && !s.im.waits.any (·.1 == o.id))
    if r.enabled || busy || !((r.outq.isEmpty && r.batches.isEmpty && r.groups.isEmpty) || heldOver s r) then s
    else
      let t := freeRings (fun m _ => m == 0) s
      { t with ops := t.ops.map (fun o => if o.ring = 0 then { o with ring := 4096 } else o) }

/-- RING_DESTROY_DISCARD: once its operations have ended, a ring being destroyed goes when all completions are written, or one backlog
period after the last was released, discarding what is held (R300). -/
def ringDestroyDiscard (n : Nat) (s : State) : State :=
  match s.im.waits.find? (fun w => match w.2 with | .destroy m _ => m == n | _ => false) with
  | some (id, .destroy _ dropped) =>
    if !(ringOps s n).isEmpty then s
    else if ringIdle s n || ((ring? s n).map (heldOver s)).getD true then finishDestroy id n dropped s
    else s
  | _ => if n = 0 then settleRingZero s else s

def execRingDestroyDiscard (ring : Nat) (s : State) : Host.Outcome State Fault Refusal := .next (ringDestroyDiscard ring s)

/-- Ring 0's stored fields (R298): RING_0_CTRL and its bases in the register file. -/
def ringZeroFields (s : State) : Nat × Nat × Nat × Nat × Nat × Bool :=
  let c := (regWord s 0x100000).toNat
  let pair (off : Nat) : Nat := (regWord s off).toNat + 2 ^ 32 * bits (regWord s (off + 4)).toNat 29 0
  (bits c 6 2, bits c 13 8, pair 0x100008, pair 0x100010, pair 0x100018, bit c 1)

/-- RING_0_CTRL written with ENABLE 1 (R298): the other writable fields are taken with it; a write with a field out of range or a base that
breaks R275 is ignored. -/
def ringZeroEnable (w : Nat) (old : State) : State :=
  if (ring? old 0).isSome || !bar0Ok old 0x100000 then old else
  let s := setReg 0x100000 (BitVec.ofNat 32 (bits w 13 8 * 256 + bits w 6 1 * 2)) old
  let (size, d, sq, cq, idx, tail) := ringZeroFields s
  if 4 ≤ size && size ≤ 16 && !baseBad 4096 sq && !baseBad 4096 cq && !baseBad 64 idx then
    setRing 0 (newRing s 0 size d sq cq idx tail) s
  else old

/-- RING_0_CTRL written with ENABLE 0: the effect of RING_DESTROY on ring 0 (R298), with no operation to report it. -/
def ringZeroDisable (s : State) : State :=
  if !((ring? s 0).map (·.enabled)).getD false || !bar0Ok s 0x100000 then s else settleRingZero (beginDestroy 0 s).1

def execRingZeroEnable (w : Nat) (s : State) : Host.Outcome State Fault Refusal := .next (ringZeroEnable w s)
def execRingZeroDisable (s : State) : Host.Outcome State Fault Refusal := .next (ringZeroDisable s)

end Sys2Proof.Machine
end

