-- ==== Sys2Proof/Machine/LinkOps.lean ====
section
/-! DEFINITION. Links as every chapter uses them: the lanes, frames, credits and sessions of a port, routes, and routed messages
(19_wyrum_groups R429-R446). -/
namespace Sys2Proof.Machine

def updGrp (f : DeviceGroup → DeviceGroup) (s : State) : State := { s with grp := f s.grp }

/-- This device's member number in the charter in force. -/
def selfMember (s : State) : Option Nat :=
  s.grp.charter.bind (fun c => (c.entries.find? (fun e => e.uid == s.cus.otp.uid)).map (·.number))

/-- A charter naming this device is in force (WY_GROUP_STATUS.IN_GROUP). -/
def inDeviceGroup (s : State) : Bool := (selfMember s).isSome

def member? (s : State) (m : Nat) : Option Member := lookup m s.grp.members

def blankMember : Member :=
  { routes := [], lost := false, routeless := none, helloMine := none, helloPeer := none, ctMine := none, keys := none, txSeq := 0,
    rxHigh := none, rxSeen := [], identity := [], asked := none, nextAttest := 0, attested := false, excluded := false, window := (0, 0),
    heard := 0 }

def updMember (m : Nat) (f : Member → Member) (s : State) : State :=
  updGrp (fun g => { g with members := put m (f ((lookup m g.members).getD blankMember)) g.members }) s

def updPort (p : Nat) (f : Port → Port) (s : State) : State := { s with ports := modAt s.ports p f }

/-- The primary, and whether this device is it. -/
def isPrimary (s : State) : Bool := selfMember s == some s.grp.primary && s.stf.role == 2
def isStandby (s : State) : Bool := s.stf.role == 3

/-! #### Lanes (R429, R432) -/

/-- The lanes a port runs on: all four, else 0 and 1, else 2 and 3, else one; a supply warning leaves it one. -/
def lanesFor (failed : Nat) (narrowed : Bool) : Nat :=
  let ok (l : Nat) : Bool := !bit failed l
  if !narrowed && ok 0 && ok 1 && ok 2 && ok 3 then 0xF
  else if !narrowed && ok 0 && ok 1 then 0x3
  else if !narrowed && ok 2 && ok 3 then 0xC
  else match (List.range 4).find? ok with
    | some l => 2 ^ l
    | none => 0

def laneCount (lanes : Nat) : Nat := ((List.range 4).filter (bit lanes)).length

/-- WY_PORT_n_CTRL: EN, and MIN_WIDTH in lanes. -/
def portEnabled (s : State) (n : Nat) : Bool := bit (regWord s (0x0D0000 + 0x100 * n)).toNat 0
def minLanes (s : State) (n : Nat) : Nat := [1, 2, 4].getD (setting s (0x0D0000 + 0x100 * n) 2 1) 4

/-- Every port that is up runs on the lanes it may (R432). -/
def settleLanes (s : State) : State :=
  let warns (n : Nat) : Bool := ((s.sup.supplies[n]?).map (·.warn)).getD false
  let narrow := warns 4 || warns 5
  { s with ports := s.ports.map (fun (p : Port) =>
      { p with narrowed := narrow, lanes := if p.trained then lanesFor p.failed narrow else p.lanes }) }

/-! #### Port events (R461) -/

/-- The DETAIL of a port event. -/
def portDetail (p : Port) : Nat := p.peer + 1024 * p.lanes

/-- Port event e: 0 LINK_DOWN, 1 LINK_UP, 2 AUTH_FAILED, 3 CREDIT_STARVED, 4 FEC_THRESHOLD, 5 FRAME_DROPPED, 6 PEER_TIMEOUT,
7 REPLAY_REJECTED. -/
def raisePort (n e : Nat) (s : State) : State :=
  match s.ports[n]? with
  | some p => raise_ (192 + 8 * n + e) (portDetail p) s
  | none => s

/-- Frames and envelopes dropped are counted in DROPPED. -/
def dropCount (n k : Nat) (s : State) : State := updPort n (fun p => { p with dropped := sat 0xFF (p.dropped + k) }) s

/-! #### Frames of a port (R433, R437) -/

/-- Receive buffers of the three channels, and FREE as it is reported: frames are processed as they arrive. -/
def vcBuffers (vc : Nat) : Nat := [8, 16, 8].getD vc 0
def freeWord : Nat := 8 + 256 * 16 + 65536 * 8

/-- The credit of a channel (R437). -/
def credit (p : Port) (vc : Nat) : Nat :=
  ((p.channels[vc]?).map (·.free)).getD 0
    - (p.sent.filter (fun e => e.2 == vc && (match p.ackSeq with | some a => a < e.1 | none => true))).length

/-- Since when each channel holds no credit (R438). -/
def markStarve (beat : Nat) (p : Port) : Port :=
  { p with channels := p.channels.zipIdx.map (fun (c, v) =>
      if 0 < credit p v then { c with starvedAt := none, raised := false } else { c with starvedAt := c.starvedAt.or (some beat) }) }

/-- ACK_SEQ of a frame sent: all ones before the first frame received. -/
def ackWord (p : Port) : Nat := p.rxSeq.getD 0xFFFFFFFFFFFFFFFF

/-- A frame of the session (R433). -/
def frameOf (p : Port) (vc : Nat) (payload : Bytes) : Bytes :=
  let aad := leBytes 4 (vc + 4 * ofBool p.keys.isSome + 65536 * payload.length) ++ leBytes 4 freeWord ++ leBytes 8 p.txSeq
    ++ leBytes 8 (ackWord p)
  match p.keys with
  | none => aad ++ payload
  | some k =>
    let iv := k.txSalt ++ leBytes 8 p.txSeq
    aad ++ algBytes .gcmCipher payload.length [] [k.txKey, iv, aad, payload] ++ algBytes .frameTag 16 [] [k.txKey, iv, aad, payload]

/-- The port once it has sent a frame. -/
def sentFrame (beat vc len : Nat) (p : Port) : Port :=
  let p :=
    { p with
      txSeq := p.txSeq + 1, lastSent := beat, unreported := none
      sent := if len = 0 then p.sent else p.sent ++ [(p.txSeq, vc)]
      active := p.active || len != 0
      lastLoad := if len = 0 then p.lastLoad else beat }
  if p.keys.isSome then markStarve beat p else p

/-- A frame sent at once: the heartbeat, which needs no credit, and the handshake that opens a session (R433, R439). -/
def sendNow (n : Nat) (payload : Bytes) (s : State) : State :=
  match s.ports[n]? with
  | some p => send (.frame n (frameOf p 0 payload)) (updPort n (sentFrame s.beat 0 payload.length) s)
  | none => s

/-- Queued envelopes sent, each channel in its order, while it has credit. -/
def pumpList (n : Nat) : List (Nat × Bytes) → State → State
  | [], s => s
  | e :: es, s =>
    match s.ports[n]? with
    | none => s
    | some p =>
      if 0 < credit p e.1 && !p.queue.any (·.1 == e.1) then
        pumpList n es (send (.frame n (frameOf p e.1 e.2)) (updPort n (sentFrame s.beat e.1 e.2.length) s))
      else pumpList n es (updPort n (fun p => { p with queue := p.queue ++ [e] }) s)

def pump (n : Nat) (s : State) : State :=
  match s.ports[n]? with
  | none => s
  | some p => pumpList n p.queue (updPort n (fun p => { p with queue := [] }) s)

/-- An envelope handed to a port that has a session. -/
def portSend (n vc : Nat) (payload : Bytes) (s : State) : State :=
  match s.ports[n]? with
  | some p => if p.keys.isSome then pump n (updPort n (fun p => { p with queue := p.queue ++ [(vc, payload)] }) s) else s
  | none => s

/-- An envelope's first 16 bytes (R444). -/
def envelopeHead (src dst hops msg rseq : Nat) : Bytes :=
  leBytes 2 src ++ leBytes 2 dst ++ leBytes 1 hops ++ leBytes 1 msg ++ leBytes 2 0 ++ leBytes 8 rseq

/-- A hop message to a port's neighbour. -/
def sendHop (n msg vc : Nat) (body : Bytes) (s : State) : State :=
  match s.ports[n]? with
  | some p => portSend n vc (envelopeHead ((selfMember s).getD 0x3FF) p.peer 63 msg 0 ++ body) s
  | none => s

/-! #### Routes (R445) -/

/-- The route to a member: the port with the fewest hops, a tie to the lower port. -/
def bestRoute (s : State) (m : Nat) : Option (Nat × Nat) :=
  (((member? s m).map (·.routes)).getD []).foldl (fun (best : Option (Nat × Nat)) r =>
    match best with
    | none => some (r.1, r.2.1)
    | some b => if r.2.1 < b.2 || (r.2.1 == b.2 && r.1 < b.1) then some (r.1, r.2.1) else some b) none

def nextHop (s : State) (m : Nat) : Option Nat := (bestRoute s m).map (·.1)

def routeTable (s : State) : List (Nat × Nat × Nat) :=
  s.grp.members.filterMap (fun e => (bestRoute s e.1).map (fun r => (e.1, r.1, r.2)))

def routeEntry (m hops : Nat) : Bytes := leBytes 2 (m % 1024 + 1024 * min 63 hops) ++ leBytes 2 0

/-- The body of ROUTE: this device, and each member it has a route to. -/
def routeBody (s : State) : Bytes :=
  (((selfMember s).map (routeEntry · 0)).getD []) ++ ((routeTable s).map (fun r => routeEntry r.1 r.2.2)).flatten

/-- Ports whose session carries every message. -/
def securePorts (s : State) : List Nat := (List.range 4).filter (fun n => ((s.ports[n]?).map (·.state == .secure)).getD false)

/-- ROUTE sent to every neighbour. -/
def sendRoutes (s : State) : State :=
  let body := routeBody s
  updGrp (fun g => { g with lastRoute := s.beat }) ((securePorts s).foldl (fun t n => sendHop n 0x10 0 body t) s)

/-- A route has come back to a member that was lost. -/
def memberBack (s : State) (m : Nat) : State :=
  match member? s m with
  | some x => if x.lost && !x.routes.isEmpty then raise_ 225 m (updMember m (fun x => { x with lost := false }) s) else s
  | none => s

/-- What follows from a change of routes: since when a member has none, MEMBER_JOINED, and ROUTE where the table changed. -/
def settleRoutes (before : List (Nat × Nat × Nat)) (s : State) : State :=
  let mark (x : Member) : Member := { x with routeless := if x.routes.isEmpty then x.routeless.or (some s.beat) else none }
  let s := updGrp (fun g => { g with members := g.members.map (fun e => (e.1, mark e.2)) }) s
  let s := (s.grp.members.map (·.1)).foldl memberBack s
  if routeTable s == before then s else sendRoutes s

def dropRoutes (n : Nat) (s : State) : State :=
  updGrp (fun g => { g with members := g.members.map (fun e => (e.1, { e.2 with routes := e.2.routes.filter (·.1 != n) })) }) s

/-! #### The end of a session -/

/-- The port without its session; it stays up where it was. -/
def Port.closed (p : Port) : Port :=
  { p with
    state := if p.trained then .up else p.state
    peer := 0x3FF, peerUid := [], authWindow := (0, 0), helloMine := none, helloPeer := none, ctMine := none, rekeying := false, keys := none
    oldKeys := none, txSeq := 0, rxSeq := none, rxOld := none, ackSeq := none, sent := [], unreported := none
    channels := List.replicate 3 Channel.blank, queue := [], assembly := none }

/-- A port's session ends, and the routes over it are withdrawn. -/
def endSession (n : Nat) (s : State) : State :=
  let before := routeTable s
  settleRoutes before (dropRoutes n (updPort n Port.closed s))

/-- A port goes out of service to another state, with LINK_DOWN where it was up. -/
def linkDown (n : Nat) (to_ : PortState) (retry : Option Nat) (s : State) : State :=
  let up := ((s.ports[n]?).map (·.trained)).getD false
  let s := if up then raisePort n 0 s else s
  updPort n (fun p => { p with state := to_, lanes := 0, active := false, retryAt := retry }) (endSession n s)

def retrain (n : Nat) (s : State) : State := linkDown n .training none s

/-! #### Handshakes (R439, R440, R443) -/

/-- In DORMANT, one LAT and one LN unit are powered for the work of a link (20 R467). -/
def linkEngine (s : State) : State :=
  if s.glb.mode == .dormant then updGrp (fun g => { g with dormantUse := some s.beat }) s else s

/-- HELLO_A, with its ephemeral keys. -/
def helloA (eph : Bytes) (s : State) : Bytes :=
  let c := s.grp.charter
  [1, 0, 0, 0] ++ fit 16 s.cus.otp.uid ++ fit 16 ((c.map (·.groupId)).getD []) ++ leBytes 4 ((c.map (·.seq)).getD 0)
    ++ leBytes 2 ((selfMember s).getD 0x3FF) ++ [0, 0] ++ eph ++ identityKey s

/-- Fields of a HELLO_A. -/
def helloUid (h : Bytes) : Bytes := slice h 4 16
def helloGroup (h : Bytes) : Bytes := slice h 20 16
def helloSeq (h : Bytes) : Nat := field h 36 4
def helloX (h : Bytes) : Bytes := slice h 44 56
def helloEk (h : Bytes) : Bytes := slice h 100 1568
def helloId (h : Bytes) : Bytes := slice h 1668 2592

/-- This end has the lower UNIQUE_ID, read as a big-endian number (log 24). -/
def lowerEnd (mine peer : Bytes) : Bool := beNat (helloUid mine) < beNat (helloUid peer)

/-- T: both HELLO_As and both ciphertexts, those of the lower end first. -/
def transcript (mine peer ctMine ctPeer : Bytes) : Bytes :=
  algBytes .hash 64 [9] [if lowerEnd mine peer then mine ++ peer ++ ctPeer ++ ctMine else peer ++ mine ++ ctMine ++ ctPeer]

/-- HELLO_B: our ciphertext, and the signature of the identity key over T as far as it is known when it is sent (log 25). -/
def helloB (mine peer ct : Bytes) (s : State) : Bytes :=
  [2, 0, 0, 0] ++ ct ++ algBytes .mldsaSignature 4627 [3] [ascii "KLQ wyrum", identityKey s, transcript mine peer ct []]

/-- The session keys of R440, ours first; `label` is the customisation string. -/
def sessionKeys (label : String) (mine peer ctMine ctPeer : Bytes) : SessionKeys :=
  let low := lowerEnd mine peer
  let (ctLow, ekLow, xLow) := if low then (ctPeer, helloEk mine, helloX mine) else (ctMine, helloEk peer, helloX peer)
  let (ctHigh, ekHigh, xHigh) := if low then (ctMine, helloEk peer, helloX peer) else (ctPeer, helloEk mine, helloX mine)
  let k := algBytes .linkSecret 32 [0] [ctLow, ekLow] ++ algBytes .linkSecret 32 [0] [ctHigh, ekHigh] ++ algBytes .linkSecret 56 [1] [xLow, xHigh]
  let b := kmac k (transcript mine peer ctMine ctPeer) 72 label
  let (lowKey, highKey, lowSalt, highSalt) := (slice b 0 32, slice b 32 32, slice b 64 4, slice b 68 4)
  if low then { txKey := lowKey, rxKey := highKey, txSalt := lowSalt, rxSalt := highSalt }
  else { txKey := highKey, rxKey := lowKey, txSalt := highSalt, rxSalt := lowSalt }

/-! #### Routed messages (R443, R444) -/

/-- A session with a member that can carry messages: authenticated, not excluded, with a route (R441, R459). -/
def reachable (s : State) (m : Nat) : Bool :=
  match member? s m with
  | some x => x.keys.isSome && !x.excluded && (nextHop s m).isSome
  | none => false

/-- A routed handshake, which travels plain with RSEQ 0. -/
def sendPlain (dst msg : Nat) (body : Bytes) (s : State) : State :=
  match nextHop s dst with
  | some n => portSend n 0 (envelopeHead ((selfMember s).getD 0x3FF) dst 63 msg 0 ++ body) s
  | none => s

/-- A routed session is opened on demand: HELLO_A to the member. -/
def openRouted (m : Nat) (s : State) : State :=
  match member? s m with
  | none => s
  | some x =>
    if x.keys.isSome || x.helloMine.isSome || (nextHop s m).isNone then s
    else
      let (eph, s) := drawBytes 1624 s
      let h := helloA eph s
      sendPlain m 0x40 h (linkEngine (updMember m (fun x => { x with helloMine := some h }) s))

/-- A routed message: encrypted under the routed session, GCM over the envelope's first bytes with HOPS as 0.  Without a session one is
opened, and the message is not sent. -/
def sendRouted (dst msg vc : Nat) (body : Bytes) (s : State) : State :=
  match member? s dst, nextHop s dst with
  | some m, some n =>
    match m.keys with
    | none => openRouted dst s
    | some k =>
      let src := (selfMember s).getD 0x3FF
      let aad := envelopeHead src dst 0 msg m.txSeq
      let iv := k.txSalt ++ leBytes 8 m.txSeq
      portSend n vc
        (envelopeHead src dst 63 msg m.txSeq ++ algBytes .gcmCipher body.length [] [k.txKey, iv, aad, body]
          ++ algBytes .frameTag 16 [] [k.txKey, iv, aad, body])
        (updMember dst (fun m => { m with txSeq := m.txSeq + 1 }) s)
  | _, _ => s

end Sys2Proof.Machine
end

