-- ==== Sys2Proof/Machine/Activation.lean ====
section
/-! DEFINITION. The activation record in force and the hand-over between the Hemin cores, which a DEVICE fault meets too
(18_boot_update R415, R421-R425). -/
namespace Sys2Proof.Machine

def updUp (f : Update → Update) (s : State) : State := { s with cus := { s.cus with up := f s.cus.up } }

def blankRecord : ActRec :=
  { seq := 0, isPending := false, confirmedBank := 0, pendingBank := 0, attempts := 0, stageState := 0, stageBank := 1, ownerSetSeen := false,
    confirmedId := 0, pendingId := 0, stagedId := 0, minSvn := 0 }

/-- The record in force: the correct copy with the higher SEQ. -/
def record_ (s : State) : ActRec :=
  match s.cus.up.copy0, s.cus.up.copy1 with
  | some a, some b => if b.seq ≤ a.seq then a else b
  | some a, none => a
  | none, some b => b
  | none, none => blankRecord

def bankSet (s : State) (b : Nat) : Option SetInfo := if b = 0 then s.cus.up.bank0 else s.cus.up.bank1

/-- The DETAIL of update events (R428). -/
def setDetail (id bank : Nat) : Nat := id % 65536 + 65536 * bank

/-- Steps 7-11: the standby core is active and the units switch at their next operation boundary (R423). -/
def finishHandover (s : State) : State :=
  let r := record_ s
  let us := busyUnits s ++ s.ecl.units
  let s := updUp (fun u => { u with running := bankSet s r.pendingBank, runningBank := r.pendingBank, switching := us }) s
  let s := { s with glb := { s.glb with activeCore := 1 - s.glb.activeCore } }
  raise_ 258 (setDetail r.pendingId r.pendingBank) (settleSwitch s)

/-- The UPDATE_ACTIVATE whose hand-over is under way, and its deadline. -/
def handingOver (s : State) : Option (Nat × Nat) :=
  s.im.waits.findSome? (fun w => match w.2 with | .handover t => some (w.1, t) | _ => none)

/-- A hand-over under way is carried to its end, and UPDATE_ACTIVATE completes (R425). -/
def endHandover (s : State) : State :=
  match handingOver s with
  | some (id, _) => completeWait id .ok [] (finishHandover s)
  | none => s

end Sys2Proof.Machine
end

