-- ==== Sys2Proof/Machine/Faults.lean ====
section
/-! DEFINITION. The fault collector: messages, escalation, FIRST, the log, the black box, eclipses, SAFE and halt
(16_faults_power R349-R368; 15 R334, R343, R346; 01 R11, R12, R18). -/
namespace Sys2Proof.Machine

/-- A fault message (R351). -/
structure FaultMsg where
  source : Nat
  kind : Nat
  severity : Nat
  sequence : Nat
  address : Nat
  deriving DecidableEq, Repr

/-- The message 64 bits spell (R351). -/
def decodeFault (m : Nat) : FaultMsg :=
  { source := bits m 63 54, kind := bits m 53 46, severity := bits m 45 43, sequence := bits m 42 32, address := bits m 31 0 }

def updFc (f : Collector → Collector) (s : State) : State := { s with sup := { s.sup with fc := f s.sup.fc } }

/-! #### Sources and kinds (R352, R353) -/

/-- The engine unit a source names (R352). -/
def sourceUnit (src : Nat) : Option UnitRef :=
  if src ≤ 0x03F then some ⟨.lat, src⟩
  else if 0x040 ≤ src ∧ src ≤ 0x04F then some ⟨.hf, src - 0x040⟩
  else if 0x068 ≤ src ∧ src ≤ 0x06F then some ⟨.code, src - 0x068⟩
  else if 0x070 ≤ src ∧ src ≤ 0x071 then some ⟨.elim, src - 0x070⟩
  else if 0x080 ≤ src ∧ src ≤ 0x09F then some ⟨.ln, src - 0x080⟩
  else if 0x0A0 ≤ src ∧ src ≤ 0x0DF then some ⟨.lane, src - 0x0A0⟩
  else if 0x0E0 ≤ src ∧ src ≤ 0x0EF then some ⟨.gcm, src - 0x0E0⟩
  else none

/-- The source number of an engine unit. -/
def unitSource (u : UnitRef) : Nat :=
  match u.kind with
  | .lat => u.num | .hf => 0x040 + u.num | .code => 0x068 + u.num | .elim => 0x070 + u.num
  | .ln => 0x080 + u.num | .lane => 0x0A0 + u.num | .gcm => 0x0E0 + u.num | .kv => 0x102

def shaLaneSource (src : Nat) : Bool := 0x050 ≤ src && src ≤ 0x05F
def keccakLaneSource (src : Nat) : Bool := 0x060 ≤ src && src ≤ 0x063

/-- Engine units, lanes, cores, the custody unit and KV: the sources of the first rows of R353. -/
def engineSource (src : Nat) : Bool :=
  (sourceUnit src).isSome || shaLaneSource src || keccakLaneSource src || src == 0x064 || src == 0x0F0
    || (0x100 ≤ src && src ≤ 0x102)

/-- A kind is listed for its source (R353, R346, R12; CUS and WY sources by R397, R427, R461). -/
def kindListed (src kind : Nat) : Bool :=
  if engineSource src then 1 ≤ kind && kind ≤ 7
  else if src = 0x110 then 1 ≤ kind && kind ≤ 9
  else if 0x120 ≤ src ∧ src ≤ 0x124 then kind == 3
  else if 0x130 ≤ src ∧ src ≤ 0x133 then 1 ≤ kind && kind ≤ 4
  else if 0x140 ≤ src ∧ src ≤ 0x145 then 1 ≤ kind && kind ≤ 3
  else if 0x148 ≤ src ∧ src ≤ 0x14F then 4 ≤ kind && kind ≤ 7
  else if src = 0x150 then 8 ≤ kind && kind ≤ 10
  else if src = 0x160 ∨ src = 0x161 ∨ src = 0x162 ∨ src = 0x165 then 1 ≤ kind && kind ≤ 3
  else if src = 0x163 then kind == 1
  else if src = 0x164 then 1 ≤ kind && kind ≤ 6
  else if src = 0x170 then 1 ≤ kind && kind ≤ 3
  else if src = 0x17F then 1 ≤ kind && kind ≤ 3
  else false

/-- Functions without a second unit: a CONTAINED message from one is handled as DEVICE (R355). -/
def soleFunction (s : State) (src : Nat) : Bool :=
  src == 0x064 || src == 0x0F0 || src == 0x102 || (0x120 ≤ src && src ≤ 0x124) || src == 0x150 || src == 0x170
    || src == 0x160 + s.glb.activeCore

/-! #### Records (R356-R359) -/

def recOf (s : State) (m : FaultMsg) (sev : Nat) (esc : Bool) : FaultRec :=
  { source := m.source, kind := m.kind, severity := sev, sequence := m.sequence, address := m.address, cleared := false,
    escalated := esc, acked := false, fromBlackbox := false, origSeverity := m.severity, repeats := 0, beat := s.beat }

def recMatches (src kind : Nat) (r : FaultRec) : Bool := r.source == src && r.kind == kind && !r.acked

/-- Every record held: FIRST, the open window's, and the log. -/
def allRecs (c : Collector) : List FaultRec := c.first.toList ++ ((c.window.map (·.2)).getD []) ++ c.log

def mapRecs (f : FaultRec → FaultRec) (c : Collector) : Collector :=
  { c with first := c.first.map f, window := c.window.map (fun w => (w.1, w.2.map f)), log := c.log.map f }

def faultDetail (r : FaultRec) : Nat := r.source + 1024 * r.kind

/-- The log with a record joined to it, where it finds a place (R358). -/
def logJoin (log : List FaultRec) (r : FaultRec) : Option (List FaultRec) :=
  if log.length < 64 then some (log ++ [r])
  else (log.findIdx? (fun x => x.severity ≤ r.severity)).map (fun i => log.eraseIdx i ++ [r])

/-- A record joins the log, or is lost (R358). -/
def logRec (r : FaultRec) (s : State) : State :=
  match logJoin s.sup.fc.log r with
  | some log => raise_ 1 (faultDetail r) (updFc (fun c => { c with log := log }) s)
  | none => raise_ 2 (faultDetail r) (updFc (fun c => { c with lost := sat 0xFF (c.lost + 1) }) s)

/-- The record of a window that becomes FIRST: the highest severity, a tie to the lower source (R357). -/
def pickFirst : List FaultRec → Option FaultRec
  | [] => none
  | r :: rs =>
    match pickFirst rs with
    | none => some r
    | some x => if x.severity < r.severity || (x.severity == r.severity && r.source ≤ x.source) then some r else some x

/-- The window closes (R357): its chosen record becomes FIRST, the others enter the log in arrival order. -/
def closeWindow (s : State) : State :=
  match s.sup.fc.window with
  | none => s
  | some (_, rs) =>
    let s := updFc (fun c => { c with window := none }) s
    match pickFirst rs with
    | none => s
    | some f =>
      let s := raise_ 0 (faultDetail f) (updFc (fun c => { c with first := some f }) s)
      (rs.erase f).foldl (fun t r => logRec r t) s

/-- A new record is placed (R357). -/
def placeRec (r : FaultRec) (s : State) : State :=
  let s := match s.sup.fc.window with
    | some (t, _) => if t + 8 ≤ s.beat then closeWindow s else s
    | none => s
  match s.sup.fc.first, s.sup.fc.window with
  | some _, _ => logRec r s
  | none, some (t, rs) => updFc (fun c => { c with window := some (t, rs ++ [r]) }) s
  | none, none => updFc (fun c => { c with window := some (s.beat, [r]) }) s

/-- Sources whose condition stays present until its own end (R360); every other message is an event, over once acted on. -/
def lasting (src kind : Nat) : Bool :=
  (0x140 ≤ src && src ≤ 0x145 && kind ≤ 2) || (0x148 ≤ src && src ≤ 0x14F) || (src == 0x150 && (kind == 8 || kind == 10))

/-- A live condition clears: the source's records get CLEARED_SINCE (R360). -/
def clearLive (src : Nat) (s : State) : State :=
  updFc (fun c => mapRecs (fun r => if r.source = src then { r with cleared := true } else r)
    { c with live := c.live.filter (· != src), liveDevice := c.liveDevice.filter (· != src) }) s

/-- A message's escalation, its record placed (R356-R358, R360). -/
def record (m : FaultMsg) (s : State) : State × FaultRec :=
  let hit := (allRecs s.sup.fc).find? (recMatches m.source m.kind)
  let base := if m.severity = 2 ∧ soleFunction s m.source then 3 else m.severity
  let esc := hit.isSome && (m.severity == 2 || m.severity == 3)
  let r := recOf s m (min 4 (if esc then base + 1 else base)) esc
  let s := updFc (fun c =>
    { c with
      live := if lasting m.source m.kind && !c.live.contains m.source then c.live ++ [m.source] else c.live
      liveDevice := if lasting m.source m.kind && 3 ≤ m.severity && !c.liveDevice.contains m.source then c.liveDevice ++ [m.source]
        else c.liveDevice
      lastMsg := put m.source s.beat c.lastMsg }) s
  let s := if hit.isSome && m.severity ≤ 1 then
      updFc (mapRecs (fun x => if recMatches m.source m.kind x then { x with repeats := sat 0xFF (x.repeats + 1) } else x)) s
    else placeRec r s
  (if lasting m.source m.kind then s else clearLive m.source s, r)

/-- The next SEQUENCE of a source (R351). -/
def nextSeq (src : Nat) (s : State) : Nat := ((lookup src s.sup.fc.sequences).map (fun x => (x + 1) % 2048)).getD 0

/-- FIRST and the log as a copy takes them: an open window's records are placed as at its close, which comes before the copy is made. -/
def boxCopy (c : Collector) : BlackBox :=
  let rs := (c.window.map (·.2)).getD []
  match pickFirst rs with
  | none => { first := c.first, log := c.log }
  | some f => { first := some f, log := (rs.erase f).foldl (fun l r => (logJoin l r).getD l) c.log }

/-- The black-box copy (R359); the last 16 are kept. -/
def blackBox (s : State) : State := updFc (fun c => { c with blackBox := (boxCopy c :: c.blackBox).take 16 }) s

/-- FAULT_N asserts for at least 1,250 beats (R368). -/
def assertFaultN (s : State) : State :=
  updFc (fun c => { c with faultNState := true, faultNHold := s.beat + 1250 }) s

/-- A NOTE of the device's own, which asks for no action but the pin's. -/
def note (src kind addr : Nat) (s : State) : State :=
  let q := nextSeq src s
  let s := (record { source := src, kind := kind, severity := 0, sequence := q, address := addr }
    (updFc (fun c => { c with sequences := put src q c.sequences }) s)).1
  if setting s 0x0B0620 2 0 = 0 then assertFaultN s else s

/-- The open debug session ends (17 R395, R397). -/
def closeSession (s : State) : State :=
  match s.cus.session with
  | some _ => note 0x165 3 0 { s with cus := { s.cus with session := none } }
  | none => s

/-! #### Actions (R354, R355, R361, R362) -/

/-- A unit's operation after its eclipse: dispatched, it counts as finished with its result lost, and completes at its slot even where it was
being cancelled (log 138); waiting at stage 5, it goes back to stage 4 (R361, R362, 01 R502). -/
def orphanOp (s : State) (u : UnitRef) (o : Op) : Op :=
  if !o.units.contains u then o
  else if o.stage == .running then { o with stage := .finished, faulted := true, cancel := false, doneBeat := s.beat, banks := [] }
  else if o.stage == .leased then { o with stage := .energised, units := [], banks := [], wipeWait := false }
  else o

/-- Operations waiting at stage 3 or 4 whose class has lost its last live unit go to their pre-dispatch outcome (01 R502). -/
def strandOp (s : State) (needs : State → Op → List UnitKind) (o : Op) : Op :=
  if (o.stage == .admitted || o.stage == .energised) && (needs s o).any (fun k => (liveUnits s k).isEmpty) then
    { o with stage := .leased, energy := 0, preFail := o.preFail ++ [.engineEclipsed] }
  else o

/-- An operation holds a unit: leased or running on it. -/
def holdsUnit (u : UnitRef) (o : Op) : Bool := o.units.contains u && (o.stage == .leased || o.stage == .running)

/-- Banks the lease table records for the operations that hold a unit are reclaimed and wiped, without the unit (R361 step 3, 01 R18). -/
def reclaim (u : UnitRef) (s : State) : State :=
  let mine (l : Lease) : Bool := match l with | .unit _ _ _ id => s.ops.any (fun o => o.id == id && holdsUnit u o) | _ => false
  { s with mem := { s.mem with leases := s.mem.leases.map (fun l => if mine l then .wiping else l) } }

/-- What a unit was doing when it was fenced: its operation's stream fails, its banks are reclaimed, and the operation counts as finished
or goes back to stage 4. -/
def loseUnit (s : State) (u : UnitRef) : State :=
  let s := (s.ops.filter (fun o => o.units.contains u && o.stage == .running)).foldl (fun t o => failStream o t) s
  let s := clearWork [u] (reclaim u s)
  sweepWiping { s with ops := s.ops.map (orphanOp s u) }

/-- An engine unit eclipsed (R361). -/
def eclipseUnit (u : UnitRef) (s : State) : State :=
  let s := { s with ecl := { s.ecl with units := if s.ecl.units.contains u then s.ecl.units else s.ecl.units ++ [u] } }
  raise_ 3 (unitSource u) (loseUnit s u)

/-- A class's control store lost: every unit of the class is fenced, whatever class of operation it serves (15 R334, R343). -/
def eclipseStore (cls : Nat) (s : State) : State :=
  let s := { s with ecl := { s.ecl with stores := if s.ecl.stores.contains cls then s.ecl.stores else s.ecl.stores ++ [cls] } }
  let us := s.ops.flatMap (fun o => o.units.filter (fun u => (storeClasses u.kind).contains cls))
  raise_ 3 0x110 (us.foldl loseUnit s)

/-- Every dispatched operation of classes 0x01-0x08 is cancelled (R354, 20 R465). -/
def cancelDispatched (s : State) : State :=
  cancelAll ((s.ops.filter (fun o => dispatched o && opClass o.desc != 0x0F)).map (·.id)) s

/-- MODE_SET operations superseded by SAFE: NOT_PERMITTED, reason 0x04 (20 R466, R473). -/
def supersedeModeSets (s : State) : State :=
  s.im.waits.foldl (fun t w =>
    match w.2 with
    | .modeSet _ => completeWait w.1 .notPermitted (instReason 4) t
    | _ => t) s

/-- A DEVICE fault: SAFE, from any mode but BOOT and SAFE itself (R354, 20 R463). -/
def enterSafe (r : FaultRec) (s : State) : State :=
  if s.glb.mode == .boot then
    -- BOOT steps 1-10: ROM warm-resets the device 1 ms later.
    if s.glb.recoveryHold || 10 < s.cus.up.step then s
    else { s with cus := { s.cus with resetDue := s.cus.resetDue.or (some (s.beat + beatsMs 1)) } }
  else if s.glb.mode == .safe then s
  else
    -- A hand-over that has begun ends first (18 R425).
    let s := closeSession (supersedeModeSets (cancelDispatched (endHandover s)))
    raise_ 6 (faultDetail r)
      (updFc (fun c => { c with safeByFault := true })
        { s with glb := { s.glb with fromDormant := s.glb.mode == .dormant
                                     mode := .safe, draining := false, drainAt := none, drainPast := false }
                 mem := { s.mem with injections := [] } })

/-- A FATAL fault: the device halts until a reset (R354). -/
def halt (s : State) : State := { s with glb := { s.glb with halted := true } }

/-- CM_KEYGEN and RSA_KEYGEN draw anew for every attempt: without a source the one that runs fails (08 R171). -/
def failDraws (o : Op) : Op :=
  if o.stage == .running && (o.desc.opcode == 0x0401 || o.desc.opcode == 0x0511) then
    { o with parked := { o.parked with status := (firstSlot (.rngFail :: when_ (o.parked.status != .ok) o.parked.status)).getD .rngFail
                                       verdict := .none, out := [] } }
  else o

/-- An entropy source that fails is eclipsed; the seeded DRBG instances reseed from the other alone, and without one every generate request
fails (12 R273). -/
def failEntropy (n : Nat) (s : State) : State :=
  let fail (e : Entropy) : Entropy := { ok := false, fails := sat 0xFF (e.fails + 1) }
  let s := updKv (fun v => if n = 0 then { v with src0 := fail v.src0 } else { v with src1 := fail v.src1 }) s
  raise_ 162 n
    (if rngOk s.kv then
      updKv (fun v => { v with drbgs := v.drbgs.map (fun d => if d.seeded then { d with requests := 0, lastReseed := s.beat } else d) }) s
    else { s with ops := s.ops.map failDraws })

/-- The effect of a CONTAINED memory message: a control store's class is eclipsed (R355; 15 R334, R343).  Checkers 240-247 guard the
eight stores, of classes 0x01-0x08 in order (18_boot_update, log 8). -/
def containedMem (address : Nat) (s : State) : State :=
  let ck := bits address 31 23
  if 240 ≤ ck ∧ ck ≤ 247 then eclipseStore (ck - 239) s else s

/-- A Wyrum port is eclipsed (R355; 19 R461): its sessions end, and the other ports run on. -/
def eclipsePort (p : Nat) (s : State) : State := linkDown p .eclipsed none s

/-- A lane of the hash forest faults (06 R109): of the operations that occupy sequencers, the one whose job it was running fails as with its
unit, or none where the lane was idle or ran a fill job, whose tree is then not there.  Which one is a free value (log 124). -/
def loseLane (s : State) : State :=
  let ids := (s.ops.filter (fun o => o.stage == .running && o.units.any (·.kind == .hf))).map (·.id)
  let (d, s) := draw s
  match ids[freeNat d % (ids.length + 1)]? with
  | none => s
  | some id =>
    let mine (l : Lease) : Bool := match l with | .unit _ _ _ x => x == id | _ => false
    sweepWiping (updOp id (fun o => { o with stage := .finished, faulted := true, cancel := false, doneBeat := s.beat, banks := [] })
      { s with mem := { s.mem with leases := s.mem.leases.map (fun l => if mine l then .wiping else l) } })

/-- The action of a CONTAINED message (R355). -/
def contain (m : FaultMsg) (s : State) : State :=
  match sourceUnit m.source with
  | some u => eclipseUnit u s
  | none =>
    if shaLaneSource m.source then
      let l := 64 * (m.source - 0x050) + bits m.address 5 0
      raise_ 3 m.source (loseLane { s with ecl := { s.ecl with shaLanes := put' l s.ecl.shaLanes } })
    else if keccakLaneSource m.source then
      let l := 64 * (m.source - 0x060) + bits m.address 5 0
      raise_ 3 m.source (loseLane { s with ecl := { s.ecl with keccakLanes := put' l s.ecl.keccakLanes } })
    else if m.source = 0x100 ∨ m.source = 0x101 then failEntropy (m.source - 0x100) s
    else if m.source = 0x110 then containedMem m.address s
    else if 0x130 ≤ m.source ∧ m.source ≤ 0x133 then eclipsePort (m.source - 0x130) s
    else if m.source = 0x160 ∨ m.source = 0x161 then
      -- The standby core; the active one is a sole function and does not come here alone.
      if m.source = 0x160 + s.glb.activeCore then s
      else raise_ 3 m.source { s with ecl := { s.ecl with core := true } }
    else if 0x148 ≤ m.source ∧ m.source ≤ 0x14F then
      { s with sup := { s.sup with sensors := modAt s.sup.sensors (m.source - 0x148) (fun x => { x with eclipsed := true }) } }
    else s
where
  put' (n : Nat) (l : List Nat) : List Nat := if l.contains n then l else l ++ [n]

/-! #### Collection -/

/-- A well-formed message: its record and its action (R354-R360, R368). -/
def collect (m : FaultMsg) (s : State) : State :=
  let (s, r) := record m s
  let sev := r.severity
  -- An escalated CONTAINED message still eclipses its unit (R356).
  let s := if m.severity = 2 then contain m s else s
  let s := if sev = 3 then enterSafe r s else if sev = 4 then halt s else s
  let s := if 3 ≤ sev then blackBox s else s
  if setting s 0x0B0620 2 0 ≤ sev then assertFaultN s else s

/-- The device's own message from a source, numbered next in that source's sequence. -/
def sendFault (src kind sev addr : Nat) (s : State) : State :=
  let q := nextSeq src s
  collect { source := src, kind := kind, severity := sev, sequence := q, address := addr }
    (updFc (fun c => { c with sequences := put src q c.sequences }) s)

/-- The collector's own messages, from source 0x17F, numbered in their own sequence. -/
def collectOwn (kind sev addr : Nat) (s : State) : State := sendFault 0x17F kind sev addr s

/-- A message arrives (R351-R354): a gap in its source's sequence, a reserved severity, an unlisted source or kind. -/
def receiveFault (m : FaultMsg) (s : State) : State :=
  if 5 ≤ m.severity || !kindListed m.source m.kind then collectOwn 2 3 0 s
  else
    let gap := match lookup m.source s.sup.fc.sequences with
      | some q => m.sequence != (q + 1) % 2048
      | none => false
    let s := updFc (fun c => { c with sequences := put m.source m.sequence c.sequences }) s
    let s := if gap then collectOwn 3 0 0 (updFc (fun c => { c with gaps := sat 0xFF (c.gaps + 1) }) s) else s
    collect m s

/-- The units an operation's opcode needs, for R502 after an eclipse. -/
def strand (needs : State → Op → List UnitKind) (s : State) : State := { s with ops := s.ops.map (strandOp s needs) }

/-- FIRST_WINDOW_CLOSE: the 8 beats are over (R357). -/
def firstWindowClose (s : State) : State :=
  match s.sup.fc.window with
  | some (t, _) => if t + 8 ≤ s.beat then closeWindow s else s
  | none => s

def execFirstWindowClose (s : State) : Host.Outcome State Fault Refusal := .next (firstWindowClose s)

/-- The FAULT_N pin (R368). -/
def faultNPin (s : State) : Bool :=
  s.sup.fc.faultNBoot || s.sup.fc.faultNState || s.beat < s.sup.fc.faultNHold || bit (regWord s 0x0B0620).toNat 9

/-- FAULTN_HOLD_END: the minimum period is over and the pin follows STATE; the hold's beat is forgotten. -/
def execFaultnHoldEnd (s : State) : Host.Outcome State Fault Refusal :=
  .next (if s.sup.fc.faultNHold ≤ s.beat then updFc (fun c => { c with faultNHold := 0 }) s else s)

/-- FAULTN_STATE_CLEAR: the host writes 1 to STATE; not while the device is halted (R368). -/
def faultnStateClear (s : State) : State := if bar0Ok s 0x0B0620 then updFc (fun c => { c with faultNState := false }) s else s

def execFaultnStateClear (s : State) : Host.Outcome State Fault Refusal := .next (faultnStateClear s)

/-- EVENT_PENDING_CLEAR: 1 written to PENDING of SUP_EVENT_k clears it and COUNT (R369). -/
def eventPendingClear (k : Nat) (s : State) : State :=
  if bar0Ok s (0x0B4000 + 4 * k) then
    { s with im := { s.im with events := adjust k (fun e => { e with pending := false, count := 0 }) s.im.events } }
  else s

def execEventPendingClear (k : Nat) (s : State) : Host.Outcome State Fault Refusal := .next (eventPendingClear k s)

/-! #### FAULT_ACK (R365) -/

def faultAckSpec : OpSpec :=
  { opcode := 0x0F0A, suites := noSuite, param := fun _ p => p == 0, uses := ringUses, units := fun _ => []
    slot := fun _ _ _ => 0
    late := fun s o i =>
      when_ (o.desc.inLen != 4) .badLength ++ when_ (bits (field (inBytes s o i) 0 4) 31 12 != 0) .malformed
    run := fun s o i =>
      let w := field (inBytes s o i) 0 4
      let src := bits w 9 0
      let every := bit w 10
      let keep := bit w 11
      let hit (r : FaultRec) : Bool := every || r.source == src
      let n := ((allRecs s.sup.fc).filter hit).length
      let c := s.sup.fc
      let mine (x : Nat) : Bool := every || x == src
      let c' :=
        if keep then mapRecs (fun r => if hit r then { r with acked := true } else r) c
        else
          { c with
            first := c.first.filter (fun r => !hit r)
            window := c.window.map (fun w => (w.1, w.2.filter (fun r => !hit r)))
            log := c.log.filter (fun r => !hit r) }
      let c' := { c' with recoveries := c'.recoveries.filter (fun e => !mine e.1), stoppedNow := c'.stoppedNow.filter (fun x => !mine x) }
      { st := updFc (fun _ => c') s, opdata := leBytes 2 n } }

def execFaultAck (op : Nat) (inp : OpInput) (s : State) : Host.Outcome State Fault Refusal := .next (dispatchAs faultAckSpec op inp s)

end Sys2Proof.Machine
end

