-- ==== Sys2Proof/Machine/Cache.lean ====
section
/-! DEFINITION. The hypertree cache as every chapter uses it: top entries, pinned layers and the working sets of stateful keys
(06_hash_forest R120-R124; 07_stateful_keys R142, R143). -/
namespace Sys2Proof.Machine

def updHf (f : Cache → Cache) (s : State) : State := { s with hf := f s.hf }

def isSlh (x : Nat) : Bool := rangeIn 0x0401 0x040C x

def slhH' (set : Nat) : Nat := [9, 3, 9, 3, 8, 4].getD ((set - 1) / 2) 0
/-- Blocks of one tree and trees of a pinned layer (R120). -/
def slhTreeBlocks (set : Nat) : Nat := ceilDiv ((2 ^ (slhH' set + 1) - 1) * slhN set) 256
def slhLayerTrees (set : Nat) : Nat := 2 ^ slhH' set

/-- The nodes of one level's working set, and the blocks of a key's (07 R142). -/
def setNodes (h : Nat) : Nat := (if 10 < h then 2 ^ (h - 9) - 1 else 0) + 2 * (2 ^ (min h 10 + 1) - 1)
def setBlocks (n levels h : Nat) : Nat := levels * ceilDiv (setNodes h * n) 256

/-- The working set of a stateful key of a suite. -/
def keySet (suite : Nat) (k : StfKey) : Nat := setBlocks (stfN (setOf suite)) k.levels k.height

/-- Blocks of group keys being created whose number has not come (01 R503). -/
def awaitedBlocks (s : State) : Nat :=
  ((s.grp.creating.filter (·.number.isNone)).map (fun c => (c.stf.map (keySet c.key.suite)).getD 0)).sum

/-- The cache's capacity: 65,536 blocks, less 1,024 for each withdrawn unit (R120; 15 R343). -/
def cacheBlocks (s : State) : Nat := 65536 - 1024 * (s.mem.lostUnits.filter (fun c => 128 ≤ c && c ≤ 191)).length

/-- T of R122: blocks of top entries, and of working sets (07 R142). -/
def topBlocks (s : State) : Nat := (s.hf.tops.map (·.2)).sum + (s.hf.sets.map (·.2)).sum + awaitedBlocks s

def freeBlocks (s : State) : Nat := cacheBlocks s - (topBlocks s + (s.hf.pins.map (·.2.blocks)).sum)

def hasTop (s : State) (n : Nat) : Bool := (lookup n s.hf.tops).isSome

/-- A key gets a top entry where there is room (R121); otherwise it runs without one.  The entry counts as built from the moment it is taken
(log 123). -/
def takeTop (n set : Nat) (s : State) : State :=
  if hasTop s n || 256 ≤ s.hf.tops.length || freeBlocks s < slhTreeBlocks set then s
  else updHf (fun h => { h with tops := put n (slhTreeBlocks set) h.tops }) s

/-- A stateful key takes its working set. -/
def takeSet (n blocks : Nat) (s : State) : State := updHf (fun h => { h with sets := put n blocks h.sets }) s

/-- The cached trees and the working set of a slot number that comes to nothing go with it. -/
def dropTrees (n : Nat) (s : State) : State := updHf (fun h => { h with tops := del n h.tops, sets := del n h.sets }) s

end Sys2Proof.Machine
end

