-- ==== Sys2Proof/Machine/GroupOps.lean ====
section
/-! DEFINITION. Group keys as every chapter uses them: lease message bodies, and the creation and revocation of group keys
(19_wyrum_groups R454, R457; 12 R269, R270). -/
namespace Sys2Proof.Machine

/-! #### Lease messages (R454) -/

/-- The body of a lease message. -/
def leaseBody (keyId : Bytes) (slot sat leaseNo start stop deadline epoch reqNo code : Nat) : Bytes :=
  fit 16 keyId ++ leBytes 2 slot ++ leBytes 2 sat ++ leBytes 4 leaseNo ++ leBytes 8 start ++ leBytes 8 stop ++ leBytes 8 deadline
    ++ leBytes 4 epoch ++ leBytes 4 reqNo ++ leBytes 4 code ++ leBytes 4 0

/-! #### Group keys (12 R269, R270; R456, R457) -/

/-- A template as a slot's attributes spell it, for replication. -/
def templateBytes (k : KeySlot) : Bytes :=
  leBytes 2 k.suite ++ leBytes 2 k.dest ++ leBytes 4 k.usage ++ leBytes 1 (ofBool k.persist + 2 * ofBool k.shared) ++ [0]
    ++ leBytes 2 k.hostTag ++ leBytes 4 0

def lineageBytes (l : List (Nat × Nat)) : Bytes := (l.map (fun a => leBytes 4 a.1 ++ leBytes 4 a.2)).flatten

/-- A key's import plaintext: the private or secret part, the public key where it has none. -/
def importPlain (k : KeySlot) : Bytes := if k.publicOnly then k.pub else k.priv

/-- The KEY_REPLICATE fragments of a key (R457). -/
def replicateBodies (slot : Nat) (k : KeySlot) : List Bytes :=
  let data := importPlain k
  let count := max 1 (ceilDiv data.length 8000)
  (List.range count).map (fun i =>
    leBytes 2 slot ++ leBytes 1 i ++ leBytes 1 count ++ leBytes 4 data.length
      ++ (if i = 0 then templateBytes k ++ lineageBytes k.lineage else []) ++ slice data (8000 * i) 8000)

/-- A key replicated to a member; the primary attests a member before it replicates any key to it (R458). -/
def replicateTo (slot : Nat) (k : KeySlot) (dst : Nat) (s : State) : State :=
  if isPrimary s && !((member? s dst).map (·.attested)).getD false then s else
  (replicateBodies slot k).foldl (fun t b => sendRouted dst 0x52 1 b t) s

/-- Members other than this device. -/
def others (s : State) : List Nat :=
  match s.grp.charter with
  | none => []
  | some c => (c.entries.map (·.number)).filter (fun m => some m != selfMember s)

/-- The primary and the standby primary, without this device: whose commit a new group key waits for. -/
def keepers (s : State) : List Nat :=
  ([s.grp.primary] ++ s.grp.standby.toList).filter (fun m => some m != selfMember s)

/-- A path to the primary, authenticated (12 R269). -/
def primaryPath (s : State) : Bool := isPrimary s || reachable s s.grp.primary

/-- The lowest group number that is neither in use nor assigned (R456, 12 R243). -/
def freeGroupNumber (s : State) : Option Nat :=
  ((List.range 1024).map (· + 15360)).find? (fun n => (slot? s.kv n).isNone && (lookup n s.grp.numbers).isNone)

/-- The creation of a group key has every commit it waits for, in time: its operation may finish. -/
def confirmCreates (s : State) : State :=
  s.grp.creating.foldl (fun t c =>
    match c.number with
    | none => t
    | some n =>
      if (keepers t).all c.acks.contains && t.beat < c.due then
        let t := updOp c.op (fun o => { o with waiting := false }) (updGrp (fun g => { g with creating := g.creating.filter (·.op != c.op) }) t)
        if isPrimary t then
          ((others t).filter (fun m => !(keepers t).contains m)).foldl (fun t m => replicateTo n { c.key with owner := 0, persist := true } m t) t
        else t
      else t) s

/-- The number of a group key being created has come: the slot is staged, the operation reports it, and the primary and the standby are
sent the key. -/
def takeNumber (op n : Nat) (s : State) : State :=
  match s.grp.creating.find? (·.op == op) with
  | none => s
  | some c =>
    let k := { c.key with owner := 0, persist := true, state := SlotState.staged }
    let s := updKv (putSlot n k) s
    let s := match c.stf with
      | some x => takeSet n (keySet k.suite x) { s with stf := { s.stf with keys := put n x s.stf.keys } }
      | none => s
    let s := updGrp (fun g => { g with creating := g.creating.map (fun c => if c.op = op then { c with number := some n } else c) }) s
    let s := updOp op (fun o =>
      { o with
        parked :=
          { o.parked with
            opdata := leBytes 2 n ++ o.parked.opdata.drop 2
            effects := o.parked.effects ++ [.slotLive n] ++ (if c.stf.isSome then [.stfLive n] else []) } }) s
    let s := match op? s op with
      | none => s
      | some o =>
        updRing o.ring (fun ring => { ring with groups := ring.groups.map (fun g =>
          { g with members := g.members.map (fun (m : GroupMember) =>
              if m.op = op then { m with created := some n, effects := [.create n k, .persist n] ++ m.effects } else m) }) }) s
    -- A generated SLH-DSA key gets its top-layer entry (06 R118, R121).
    let s := if (op? s op).any (·.desc.opcode == 0x0201) then takeTop n (setOf k.suite) s else s
    confirmCreates ((keepers s).foldl (fun t m => replicateTo n k m t) s)

/-- A group key's creation starts (R269): its granules and its working set are taken (01 R503), and the member asks the primary for a number,
or takes it where it is the primary. -/
def startGroupKey (s : State) (o : Op) (k : KeySlot) (stf : Option StfKey) (opdata : Bytes) : Run :=
  if !primaryPath s then { st := s, fails := [.primaryUnreachable] }
  else
    let c : Creating := { op := o.id, key := k, stf := stf, number := none, acks := [], due := s.beat + beatsS 1 }
    let s := updGrp (fun g => { g with creating := g.creating ++ [c] }) (updOp o.id (fun o => { o with waiting := true }) s)
    { st := s, opdata := opdata
      post := fun t => if isPrimary t then (match freeGroupNumber t with | some n => takeNumber o.id n t | none => t)
        else sendRouted t.grp.primary 0x50 1 (leBytes 4 o.id) t }

/-- A group key is invalidated or destroyed: the members are told, and the primary's and the standby's confirmation is awaited for
operation `op` (R270); `code` 0 invalidates, 1 destroys. -/
def askRevoke (n code op : Nat) (s : State) : State :=
  let s := (others s).foldl (fun t m => sendRouted m 0x54 1 (leBytes 2 n ++ leBytes 1 code ++ [0]) t) s
  if (keepers s).isEmpty then s
  else updGrp (fun g => { g with revoking := g.revoking ++ [{ op := op, slot := n, acks := [], due := s.beat + beatsS 1 }] }) s

/-- The operation itself waits for it. -/
def startRevoke (n code : Nat) (o : Op) (s : State) : State :=
  let t := askRevoke n code o.id s
  if t.grp.revoking.any (·.op == o.id) then updOp o.id (fun o => { o with waiting := true }) t else t

end Sys2Proof.Machine
end

