-- ==== Sys2Proof/Machine/StfOps.lean ====
section
/-! DEFINITION. Stateful-index custody as every chapter uses it: the journal, reservations, leases and the retirement of a slot
(07_stateful_keys R136, R144-R152, R158-R160). -/
namespace Sys2Proof.Machine

def updStf (f : Stateful → Stateful) (s : State) : State := { s with stf := f s.stf }
def stf? (s : State) (n : Nat) : Option StfKey := lookup n s.stf.keys
def updKey (n : Nat) (f : StfKey → StfKey) (s : State) : State := updStf (fun x => { x with keys := adjust n f x.keys }) s

/-! #### The journal (R148, R149) -/

def activeHalf (x : Stateful) : List JRec := if x.active = 0 then x.half0 else x.half1

/-- The active half has room for `n` more records. -/
def journalRoom (s : State) (n : Nat) : Bool := (activeHalf s.stf).length + n ≤ 16384

/-- The 64 bytes of a record, but for its SEAL. -/
def recordBody (r : JRec) : Bytes :=
  leBytes 4 (r.type + 2 ^ 8 + 2 ^ 16 * r.slot) ++ leBytes 4 r.seq ++ fit 16 r.keyId ++ leBytes 8 r.a ++ leBytes 8 r.b ++ leBytes 8 r.c

/-- SEAL: the first 16 bytes of KMAC256 over the rest, under the journal key (log 128). -/
def recordSeal (s : State) (r : JRec) : Bytes := (kmac (journalKey s) (recordBody r) 32 "").take 16

/-- A record as it stands in MRAM (R148). -/
def recordBytes (s : State) (r : JRec) : Bytes := recordBody r ++ recordSeal s r

/-- One record appended to the active half. -/
def journal (type slot : Nat) (keyId : Bytes) (a b c : Nat) (s : State) : State :=
  updStf (fun x =>
    let r : JRec := { type := type, slot := slot, seq := x.seq + 1, keyId := keyId, a := a, b := b, c := c }
    if x.active = 0 then { x with seq := x.seq + 1, half0 := x.half0 ++ [r] } else { x with seq := x.seq + 1, half1 := x.half1 ++ [r] }) s

/-! #### Ranges, leases and the assignment of an index (R144, R145, R147, R159, R160) -/

/-- The lease in use: the lower one, where it is confirmed and its deadline has not passed. -/
def usableLease (beat : Nat) (k : StfKey) : Option LeaseHeld :=
  match k.leases.head? with
  | some l => match l.deadline with
    | some d => if beat < d && k.next < l.stop then some l else none
    | none => none
  | none => none

/-- The end of the range in use, capped while a split runs (R153). -/
def signLimit (k : StfKey) : Nat :=
  if k.group then ((k.leases.head?).map (·.stop)).getD 0
  else match k.cap with
    | some c => min c k.rangeEnd
    | none => k.rangeEnd

def signStart (k : StfKey) : Nat := if k.group then ((k.leases.head?).map (·.start)).getD 0 else k.rangeStart

/-- Indices left: in the range, or in the lease in use. -/
def indicesLeft (k : StfKey) : Nat := (if k.group then signLimit k else k.rangeEnd) - k.next

/-- Indices left in every lease held (R159). -/
def leasesLeft (k : StfKey) : Nat :=
  (k.leases.map (fun l => l.stop - max l.start k.next)).sum

/-- The value the next reservation raises RESERVED_END to: the next multiple of 1,024 of the global index, capped (R145). -/
def nextReserve (k : StfKey) : Nat := min ((k.reservedEnd / 1024 + 1) * 1024) (signLimit k)

/-- A reservation starts, where none is in progress and it would raise RESERVED_END. -/
def startReserve (k : StfKey) : StfKey :=
  if k.reserving.isNone && k.reservedEnd < nextReserve k then { k with reserving := some (nextReserve k) } else k

/-- The next lease comes into use: NEXT and RESERVED_END move up to it. -/
def useNextLease (k : StfKey) : StfKey :=
  let ls := k.leases.drop 1
  match ls.head? with
  | some l => { k with leases := ls, next := max k.next l.start, reservedEnd := max k.reservedEnd l.start }
  | none => { k with leases := ls }

/-- An index is assigned (R144, R145): i = NEXT, and a reservation starts where i needs one or the block runs low. -/
def assignIndex (low : Nat) (k : StfKey) : Nat × StfKey :=
  let i := k.next
  let k := { k with next := i + 1 }
  let k := if k.reservedEnd ≤ i || k.reservedEnd - k.next ≤ low then startReserve k else k
  (i, k)

/-- A lease request sent to the primary (R159, 19 R454); the primary and the primary alone answers. -/
def requestLease (n : Nat) (s : State) : State :=
  match stf? s n with
  | none => s
  | some k =>
    if !k.group || k.asking.isSome || 2 ≤ k.leases.length || 1024 * max 1 (setting s 0x050804 15 0) ≤ leasesLeft k || isPrimary s then s
    else
      let q := k.reqNo + 1
      let ok := reachable s s.grp.primary
      let s := updKey n (fun k => { k with reqNo := q, asking := some (q, s.beat), lastUnreachable := !ok }) s
      sendRouted s.grp.primary 0x60 2 (leaseBody k.keyId n ((selfMember s).getD 0x3FF) 0 0 0 0 s.grp.epoch q 0) s

/-- A lease takes its place among those held: the lower one is signed from first (R159).  One that comes below the lease in use goes before it,
and the other then begins above every index that was assigned or reserved in it. -/
def insertLease (l : LeaseHeld) (k : StfKey) : StfKey :=
  match k.leases.head? with
  | none => { k with leases := [l], next := max k.next l.start, reservedEnd := max k.reservedEnd l.start }
  | some h =>
    if h.start < l.start then { k with leases := k.leases ++ [l] }
    else
      let used := max k.next (max k.reservedEnd (k.reserving.getD 0))
      { k with leases := l :: { h with start := max h.start used } :: k.leases.drop 1, next := l.start }

/-- A lease is held from its LEASE commit (R158 step 4, R160). -/
def holdLease (n number start stop ticks : Nat) (s : State) : State :=
  match stf? s n with
  | none => s
  | some k =>
    if 2 ≤ k.leases.length || k.leases.any (·.number == number) || !journalRoom s 1 then s
    else
      let l : LeaseHeld := { start := start, stop := stop, number := number, deadline := some (s.beat + ticks) }
      updKey n (fun k => { insertLease l k with asking := none, lastRefused := false, lapsed := false })
        (journal 4 n k.keyId start stop number s)

/-- A lease ends: its remaining indices are abandoned, and the member moves to its other lease (R160). -/
def endLeaseOf (n number : Nat) (lapse : Bool) (s : State) : State :=
  updKey n (fun k =>
    match k.leases.head? with
    | some l =>
      if l.number = number then
        useNextLease { k with lapsed := if lapse && k.leases.length == 1 then k.next < l.stop else k.lapsed }
      else { k with leases := k.leases.filter (·.number != number) }
    | none => k) s

/-! #### Granting, at the primary (R158) -/

def leaseTicks (s : State) : Nat := 7500000000 * max 1 (setting s 0x050808 31 16)
def leaseSize (s : State) : Nat := 1024 * max 1 (setting s 0x050808 15 0)

/-- A grant goes to its satellite (R158 step 3); the primary's own is committed at once. -/
def sendGrant (n : Nat) (g : Grant) (s : State) : State :=
  match stf? s n with
  | none => s
  | some k =>
    if some g.sat = selfMember s then
      updKey n (fun k => { k with grants := k.grants.map (fun x => if x.number = g.number then { x with mirrorAt := none, acked := true } else x) })
        (holdLease n g.number g.start g.stop (leaseTicks s) s)
    else
      sendRouted g.sat 0x61 2 (leaseBody k.keyId n g.sat g.number g.start g.stop (leaseTicks s) s.grp.epoch g.reqNo 0)
        (updKey n (fun k => { k with grants := k.grants.map (fun x => if x.number = g.number then { x with mirrorAt := none } else x) }) s)

/-- The primary grants a lease: GRANTED is committed and the granted end raised; a SOLE primary sends the grant, any other asks the
standby to mirror it first (R158 steps 1 and 2). -/
def grantLease (n sat reqNo : Nat) (s : State) : State :=
  match stf? s n with
  | none => s
  | some k =>
    let start := k.granted
    let stop := min (k.granted + leaseSize s) k.rangeEnd
    let g : Grant :=
      { sat := sat, number := k.nextLease + 1, start := start, stop := stop, deadline := s.beat + leaseTicks s, reqNo := reqNo,
        mirrorAt := some s.beat, acked := false }
    let s := journal 5 n k.keyId stop sat g.number s
    let s := updKey n (fun k => { k with granted := stop, nextLease := g.number, grants := k.grants ++ [g] }) s
    match s.grp.standby with
    | none => sendGrant n g s
    | some b =>
      let mirrorOut (t : State) : State := sendRouted b 0x64 2 (leaseBody k.keyId n sat g.number 0 stop (leaseTicks t) t.grp.epoch 0 0) t
      -- A SOLE primary waits for no standby, but one it is to leave SOLE for has the new end to mirror too (R163).
      if s.stf.sole then mirrorOut (sendGrant n g (updGrp (fun g => { g with mirrored := g.mirrored.filter (· != n) }) s)) else mirrorOut s

/-- Leases a satellite holds of a key that have not passed their deadlines, as the primary counts them. -/
def liveGrants (s : State) (k : StfKey) (sat : Nat) : Nat :=
  (k.grants.filter (fun g => g.sat == sat && s.beat < g.deadline)).length

/-- The primary's own need of a lease, met as a satellite's is (R159; "the primary itself signs only within leases"). -/
def ownLease (n : Nat) (s : State) : State :=
  match stf? s n with
  | some k =>
    if k.group && isPrimary s && k.leases.length < 2 && leasesLeft k < 1024 * max 1 (setting s 0x050804 15 0) && k.granted < k.rangeEnd
        && journalRoom s 2 && !(k.grants.any (fun g => some g.sat == selfMember s && g.mirrorAt.isSome)) then
      grantLease n ((selfMember s).getD 0) 0 s
    else s
  | none => s

/-- NEXT stands in the lease in use or above it. -/
def enterLease (k : StfKey) : StfKey :=
  match k.leases.head? with
  | some l => { k with next := max k.next l.start, reservedEnd := max k.reservedEnd l.start }
  | none => k

/-- The primary finds the time left of its own leases on its own count; one it no longer grants is abandoned (R161). -/
def confirmOwn (s : State) : State :=
  if !isPrimary s then s
  else updStf (fun x => { x with keys := x.keys.map (fun e =>
    (e.1, enterLease { e.2 with leases := e.2.leases.filterMap (fun l =>
      if l.deadline.isSome then some l
      else match e.2.grants.find? (fun g => g.number == l.number && s.beat < g.deadline) with
        | some g => some { l with deadline := some g.deadline }
        | none => none) })) }) s

/-- A key asks for a lease when its indices run low (R159). -/
def wantLease (n : Nat) (s : State) : State := if isPrimary s then ownLease n s else requestLease n s

/-! #### Retiring, skipping -/

def statefulPrivate (k : KeySlot) : Bool := (k.suite / 256 == 5 || k.suite / 256 == 6) && !k.publicOnly

/-- The slot is retired: a RETIRED record, every index left abandoned, its working set freed (R136, R142). -/
def retireStateful (n : Nat) (s : State) : State :=
  match stf? s n with
  | none => s
  | some k =>
    let s := journal 6 n k.keyId 0 0 0 s
    { s with stf := { s.stf with keys := del n s.stf.keys }, hf := { s.hf with sets := del n s.hf.sets } }

/-- NEXT becomes RESERVED_END (R150, 12 R268). -/
def statefulSkip (n : Nat) (s : State) : State := updKey n (fun k => { k with next := k.reservedEnd, reserving := none }) s

/-- A stateful key comes into force: its CREATED record (R141, R149); a group key's members want leases (R157). -/
def journalCreated (n : Nat) (s : State) : State :=
  match stf? s n with
  | none => s
  | some k =>
    let s := journal 1 n k.keyId k.rangeStart k.rangeEnd (ofBool k.group) s
    if k.group then wantLease n s else s

/-- A slot's effect on the vault and on what depends on the slot: a stateful key is retired with its slot, and what no operation uses any
more is wiped (12 R264, R265; 06 R121). -/
def applyKvState (e : KvEffect) (s : State) : State :=
  let s := match e with
    | .invalidate n | .destroy n => retireStateful n s
    | .create n k => if statefulPrivate k then journalCreated n s else s
    | _ => s
  sweepWiping (updKv (fun v => applyKv v e) s)

end Sys2Proof.Machine
end

