-- ==== Sys2Proof/Machine/Custody.lean ====
section
/-! DEFINITION. The life-cycle state and what it permits, the roots in force, and zeroisation (17_lifecycle R379-R383, R390, R393;
12 R257-R259). -/
namespace Sys2Proof.Machine

def updCus (f : Custody → Custody) (s : State) : State := { s with cus := f s.cus }

/-! #### The OTP array and the state it decodes to (R380-R382) -/

/-- The base value of a state's pattern. -/
def lcBase (st : Nat) : Nat := [0x0000, 0x0101, 0x0303, 0x0F0F, 0x3F3F, 0x7F7F, 0xFFFF].getD st 0

/-- Rotation left by `j` within 16 bits. -/
def rotl16 (x j : Nat) : Nat := (x * 2 ^ j % 65536) ||| (x / 2 ^ (16 - j))

/-- The pattern of a state: group j is its base rotated left by j. -/
def lcPattern (st : Nat) : Nat := ((List.range 8).map (fun j => rotl16 (lcBase st) j * 2 ^ (16 * j))).sum

/-- The offsets of the fields R380 reads twice. -/
def offPattern : Nat := 0x000
def offOwnerKill : Nat := 0x010
def offIdentityKill : Nat := 0x014

/-- A kill field is burnt when any of its bits reads 1, which of two reads that differ one does. -/
def ownerKilled (o : Otp) : Bool := o.ownerKill != 0 || o.marginBad.contains offOwnerKill
def identityKilled (o : Otp) : Bool := o.identityKill != 0 || o.marginBad.contains offIdentityKill

/-- OWNER_KEY_HASH, where it is written and every word of it can be read (R379). -/
def ownerHash (o : Otp) : Option Bytes := if o.bad.contains 0x040 then none else o.ownerKeyHash

/-- The state a pattern is the pattern of. -/
def patternState (p : Nat) : Option Nat := (List.range 7).find? (fun st => lcPattern st == p)

def lcOfCode (c : Nat) : Lc :=
  match c with
  | 0 => .blank | 1 => .vendorTest | 2 => .vendorLocked | 3 => .personalised | 4 => .inService | 5 => .returned
  | 6 => .scrapped | _ => .invalid

def Lc.code : Lc → Nat
  | .blank => 0 | .vendorTest => 1 | .vendorLocked => 2 | .personalised => 3 | .inService => 4 | .returned => 5
  | .scrapped => 6 | .invalid => 7

/-- The decode of R382: a marker that stays makes the state INVALID, and so does a seed word left uncorrectable (R392). -/
def decodeLc (o : Otp) (transitionMarker : Bool) : Lc :=
  match (if o.marginBad.contains offPattern then none else patternState o.pattern) with
  | none => .invalid
  | some st =>
    if transitionMarker || ((st == 3 || st == 4) && ownerKilled o) || (st != 6 && identityKilled o)
        || (st != 6 && (o.bad.contains 0x200 || o.bad.contains 0x240)) then .invalid else lcOfCode st

/-- The state in force. -/
def lcOf (s : State) : Lc := s.cus.lc

/-! #### What each state permits (R383; 12 R257) -/

def workAllowed : Lc → Bool
  | .vendorTest | .vendorLocked | .personalised | .inService | .returned => true
  | _ => false
def persistAllowed (l : Lc) : Bool := l == .personalised || l == .inService
def groupKeysAllowed (l : Lc) : Bool := l == .inService
def reattestAllowed (l : Lc) : Bool := l == .inService
def debugAllowed (l : Lc) : Bool := l == .vendorTest || l == .returned
def rootDeriveAllowed (l : Lc) : Bool := l == .vendorTest || l == .personalised || l == .inService || l == .returned

/-- The Pubel root in force (12 R257): PUBEL_T 1, PUBEL_V 2, PUBEL_O 3, PUBEL_X 4, each an uninterpreted function of the seed it is made
from (log 4). -/
def rootInForce (s : State) : Bytes :=
  match lcOf s with
  | .vendorTest => algBytes .pubelRoot 32 [1] []
  | .vendorLocked => rootV s
  | .personalised | .inService => rootO s
  | .returned => algBytes .pubelRoot 32 [4] [s.cus.otp.pubelV.getD []]
  | _ => []

/-- The SHA3-256 key hashes fixed in the boot ROM: 1 vendor life-cycle, 3 vendor debug, 4 vendor update.  The spec gives no values. -/
def romHash (role : Nat) : Bytes := algBytes .romKeyHash 32 [role] []

/-! #### Device resets the custody controller makes -/

/-- A warm reset is due 1 ms from now (R389 step 7, 18 R414, R424). -/
def dueReset (s : State) : State := updCus (fun c => { c with resetDue := some (s.beat + beatsMs 1) }) s

/-! #### Zeroisation (R390, R393) -/

/-- Every DRBG instance reseeded, where a source is admitted. -/
def reseedAll (s : State) : State :=
  updKv (fun v => { v with drbgs := v.drbgs.map (fun d => if rngOk v then { d with seeded := true, requests := 0, lastReseed := s.beat } else d) }) s

/-- On-chip buffers wiped and freed; their banks are wiped before they return (15 R336). -/
def wipeBuffers (hit : Nat → Buffer → Bool) (s : State) : State :=
  let gone := s.bufs.filter (fun e => hit e.1 e.2)
  let s := gone.foldl (fun t e => returnBanks e.2.banks (unwriteBuf e.1 0 e.2.size t)) s
  { s with
    bufs := s.bufs.filter (fun e => !hit e.1 e.2)
    kv := gone.foldl (fun v e => freeSlot e.1 v) s.kv }

/-- Slots wiped: each number is freed with its epoch incremented, a staged one without (12 R505); retired numbers stay. -/
def wipeSlots (hit : Nat → KeySlot → Bool) (s : State) : State :=
  let gone := s.kv.slots.filter (fun e => e.2.state != .retired && e.2.state != .buffer && hit e.1 e.2)
  let s := gone.foldl (fun t e => { t with stf := { t.stf with keys := del e.1 t.stf.keys }, hf := { t.hf with sets := del e.1 t.hf.sets } }) s
  sweepWiping (updKv (fun v => sweep (gone.foldl (fun v e => if e.2.state == .staged then unstage e.1 v else freeSlot e.1 v) v)) s)

/-- The zeroisation's own work: arena, buffers, blobs, journal, replicas, DRBG instances; epochs stay (R393). -/
def zeroise (s : State) : State :=
  let s := wipeSlots (fun _ _ => true) (wipeBuffers (fun _ _ => true) s)
  reseedAll
    { s with
      kv := { s.kv with blobs := [] }
      stf := { s.stf with keys := [], half0 := [], half1 := [], seq := s.stf.seq }
      grp := { s.grp with creating := [], incoming := [] } }

/-- Slots a zeroisation wipes. -/
def slotsHeld (s : State) : Nat := (s.kv.slots.filter (fun e => e.2.state != .retired && e.2.state != .buffer)).length

/-- Volatile keys and buffers wiped (R396, 20 R471). -/
def wipeVolatile (s : State) : State :=
  wipeSlots (fun n _ => (lookup n s.kv.blobs).isNone) (wipeBuffers (fun _ _ => true) s)

end Sys2Proof.Machine
end

