-- ==== Sys2Proof/Machine/Create.lean ====
section
/-! DEFINITION. The creation of key slots, and the wrap and unwrap of key material (12_key_vault R249, R254, R256, R260, R261, R269, R505). -/
namespace Sys2Proof.Machine

/-! #### Creating a slot -/

/-- What a creating operation is to make: the template, the suite, the material, and where the new slot stands in lineage. -/
structure NewKey where
  t : Template
  suite : Nat
  priv : Bytes
  pub : Bytes
  publicOnly : Bool
  lineage : List (Nat × Nat) := []
  fromRoot : Bool := false
  hqcRev : Nat := 0

def NewKey.record (k : NewKey) (owner : Nat) : KeySlot :=
  { keySlotFrom k.t k.suite owner k.priv k.pub k.publicOnly k.lineage k.fromRoot k.hqcRev with
    persist := bit k.t.flags 0 || bit k.t.dest destGroup }

/-- Where a new slot of `suite` with the ancestors `line` may stand: persistence and groups in the life-cycle state (R257, R269), ancestors that
are all persisted where the slot is to be (R266), and room (R244, R266). -/
def placeFails (s : State) (o : Op) (t : Template) (suite : Nat) (priv : Bool) (privLen pubLen : Nat) (line : List (Nat × Nat)) :
    List Status :=
  when_ (bit t.flags 0 && !persistAllowed (lcOf s) || bit t.dest destGroup && !groupKeysAllowed (lcOf s)) .lifecycleState
    ++ when_ (bit t.dest destGroup && !inDeviceGroup s) .notInGroup
    ++ when_ (7 < line.length
        || (bit t.flags 0 || bit t.dest destGroup) && line.any (fun a => (lookup a.1 (viewOf s o).blobs).isNone)) .keyUsage
    ++ when_ (if bit t.dest destGroup then isPrimary s && (freeGroupNumber s).isNone else (ordinaryNumber (viewOf s o)).isNone) .vaultFull
    ++ vaultFullFails s (viewOf s o) (granulesFor (arenaPrivLen suite privLen) pubLen)
        (if bit t.flags 0 || bit t.dest destGroup then some (blobSize line.length (if priv then privLen else pubLen)) else none)

/-- Stage-5 checks of a template that creates a slot: its own (R249), and where the slot may stand. -/
def createFails (s : State) (o : Op) (t : Template) (suite : Nat) (priv secret : Bool) (privLen pubLen : Nat) (line : List (Nat × Nat)) :
    List Status :=
  templateFails t suite priv secret ++ placeFails s o t suite priv privLen pubLen line

/-- A class 0x07 operation creates a slot: at once outside a transaction group, staged inside one (R254); a group key by the protocol of
R269.  A slot that is to be persisted needs its MRAM commit (R266). -/
def createNow (s : State) (o : Op) (i : OpInput) (k : NewKey) : Run :=
  let r := k.record o.inst
  if r.persist && !i.commitOk then { st := s, fails := [.journalFailed] }
  else if bit k.t.dest destGroup then startGroupKey s o r none [0, 0]
  else match ordinaryNumber s.kv with
  | none => { st := s, fails := [.vaultFull] }
  | some n =>
    if o.desc.group then
      { st := updKv (putSlot n r) s, opdata := leBytes 2 n, created := some n
        staged := [.create n r] ++ (if r.persist then [.persist n] else []) }
    else
      let s := updKv (putSlot n { r with state := .live }) s
      { st := if r.persist then updKv (persistSlot n) s else s, opdata := leBytes 2 n, created := some n }

/-- An engine operation takes a slot number: it stays STAGED until the release (R505). -/
def createStaged (s : State) (o : Op) (i : OpInput) (k : NewKey) : Run :=
  let r := k.record o.inst
  if r.persist && !i.commitOk then { st := s, fails := [.journalFailed] }
  else if bit k.t.dest destGroup then startGroupKey s o r none [0, 0]
  else match ordinaryNumber s.kv with
  | none => { st := s, fails := [.vaultFull] }
  | some n =>
    { st := updKv (putSlot n r) s, opdata := leBytes 2 n, created := some n, effects := [.slotLive n] }

/-- A KMAC slot for a shared secret (R251): its parent is the key slot of the operation. -/
def secretKey (s : State) (o : Op) (t : Template) (secret : Bytes) (keyField : Nat) : NewKey :=
  { t := t, suite := 0x0E02, priv := secret, pub := [], publicOnly := false
    lineage := (match resolveKey s o keyField with | some n => childLineage (viewOf s o) n | none => []) }

/-! #### Shared by the class -/

def kvUnits : Desc → List UnitKind := fun _ => [.kv]

def templateAux (s : State) (o : Op) (i : OpInput) : Template := decodeTemplate (auxBytes s o i)
def templateIn (s : State) (o : Op) (i : OpInput) : Template := decodeTemplate (inBytes s o i)

/-- A template operand must be 16 bytes (R248). -/
def tmplLen (len : Nat) : List Status := when_ (len != 16) .badLength

/-- The group key an effect invalidates or destroys, and how the members are told (R270). -/
def revoked : KvEffect → Option (Nat × Nat)
  | .invalidate n => if 15360 ≤ n then some (n, 0) else none
  | .destroy n => if 15360 ≤ n then some (n, 1) else none
  | _ => none

/-- Effects on slots inside a transaction group are staged; outside they are made at dispatch (R254), and those on a group key are told
to the members (R270). -/
def effectNow (s : State) (o : Op) (e : KvEffect) : Run :=
  if o.desc.group then { st := s, staged := [e] }
  else
    { st := applyKvState e s
      post := fun t => match revoked e with
        | some (n, code) => if inDeviceGroup t then startRevoke n code o t else t
        | none => t }

/-- The slot a management opcode names, 0 where it resolves to none (its checks have then failed). -/
def target (s : State) (o : Op) : Nat := (resolveKey s o o.desc.keyA).getD 0

def anySuite : Nat → Bool := fun _ => true

/-- An HQC key that is not of the revision in force is refused by every operation but KEY_EXPORT_WRAPPED (08 R179). -/
def hqcFails (s : State) (o : Op) : List Status :=
  when_ (match keyOf s o o.desc.keyA with | some k => famOf k.suite == 8 && k.hqcRev != s.eng.info.hqcSpec | none => false) .keySuite

/-! #### Import (R252, R256, R261) -/

/-- AES-256-KW or KWP of a plaintext under a wrapping key; the lengths of R260. -/
def wrapLen (wrapSuite plainLen : Nat) : Nat :=
  if wrapSuite = 0x0E04 then plainLen + 8 else 8 * ceilDiv plainLen 8 + 8

def wrapKey (wrapSuite : Nat) (kek plain : Bytes) : Bytes :=
  algBytes .keyWrap (wrapLen wrapSuite plain.length) [wrapSuite] [kek, plain]

/-- The plaintext a wrapped key holds: its length is one the data decides under KWP. -/
def unwrapKey (wrapSuite : Nat) (kek wrapped : Bytes) : Bytes :=
  let n := if wrapSuite = 0x0E04 then wrapped.length - 8
    else min (algNat .keyUnwrap [wrapSuite] [kek, wrapped]) (wrapped.length - 8)
  algBytes .keyUnwrap n [wrapSuite] [kek, wrapped]

def unwrapOk (wrapSuite : Nat) (kek wrapped : Bytes) : Bool := algBool .keyUnwrapOk [wrapSuite] [kek, wrapped]

def unwrapNeed : KeyNeed :=
  { suite := fun x => x == 0x0E04 || x == 0x0E05, dest := some destKv, usage := some usageUnwrap }

end Sys2Proof.Machine
end

