-- ==== Sys2Proof/Machine/Power.lean ====
section
/-! DEFINITION. The power arbiter's budgets, the supplies, the temperature and the reference clock (16_faults_power R370-R377;
04_release_timing R76, R78, R79). -/
namespace Sys2Proof.Machine

def updSup (f : Supervisor → Supervisor) (s : State) : State := { s with sup := f s.sup }

/-- The effective value of a calibration item (R378). -/
def calEff (s : State) (item : Nat) : Int := ((s.sup.cal[item]?).map (·.eff)).getD 0

/-- The effective power limit in credits: item 0x00. -/
def powerLimit (s : State) : Nat := (calEff s 0).toNat

/-- The standing charge in credits (R371). -/
def portCharge (p : Port) : Nat := if p.active then 7 else if p.trained then 1 else 0
def standing (s : State) : Nat := 12 + (s.ports.map portCharge).sum

/-- The effective budget (R372). -/
def effectiveBudget (s : State) : Nat :=
  let b := min (setting s 0x0B0700 8 0) (powerLimit s)
  let b := if s.sup.brownout then min b 80 else b
  match s.sup.thermal with
  | some l => min b l
  | none => b

/-- VDD_CORE and Tj are in range for a release (04 R76): 0.65 V and 105 °C. -/
def hottest (s : State) : Int :=
  ((s.sup.sensors.filter (fun x => !x.eclipsed)).map (·.temp)).foldl max (-160)

def supplyOk (s : State) : Bool :=
  650 ≤ ((s.sup.supplies[0]?).map (·.mv)).getD 0 && hottest s ≤ 420

/-! #### Supplies (R373-R375) -/

/-- Recovery and reset thresholds in mV (R373); the warning thresholds are calibration items 0x02-0x07. -/
def recoveryMv (n : Nat) : Nat := [680, 770, 770, 1700, 870, 1160].getD n 0
def resetMv (n : Nat) : Nat := [600, 720, 720, 1550, 800, 1080].getD n 0
def warningMv (s : State) (n : Nat) : Nat := (calEff s (2 + n)).toNat

def setSupply (n mv : Nat) (f : Supply → Supply) (s : State) : State :=
  updSup (fun u => { u with supplies := modAt u.supplies n (fun x => f { x with mv := mv }) }) s

def supplyWarns (s : State) (n : Nat) : Bool := ((s.sup.supplies[n]?).map (·.warn)).getD false
def supplyBelow (s : State) (n : Nat) : Bool := ((s.sup.supplies[n]?).map (·.belowRange)).getD false

/-- A supply's warning trips: it has been below its threshold for 4 beats (R373, R374). -/
def vddWarn (n mv : Nat) (s : State) : State :=
  if 6 ≤ n || warningMv s n ≤ mv || supplyWarns s n then s
  else
    let s := setSupply n mv (fun x => { x with warn := true }) s
    let s := if n ≤ 1 then updSup (fun u => { u with brownout := true, liftAt := none }) s else s
    raise_ 64 n (sendFault (0x140 + n) 1 1 mv (settleLanes s))

/-- The warning clears at its recovery threshold; the floor is lifted 1 ms after both supplies have recovered (R374). -/
def vddRestored (n mv : Nat) (s : State) : State :=
  if 6 ≤ n || mv < recoveryMv n || !supplyWarns s n then s
  else
    let s := setSupply n mv (fun x => { x with warn := false }) s
    let s := if supplyBelow s n then s else clearLive (0x140 + n) s
    let s := if n ≤ 1 && s.sup.brownout && !supplyWarns s 0 && !supplyWarns s 1 then
        updSup (fun u => { u with liftAt := some (s.beat + beatsMs 1) }) s else s
    raise_ 65 n (settleLanes s)

def brownoutLift (s : State) : State :=
  match s.sup.liftAt with
  | some t => if t ≤ s.beat then updSup (fun u => { u with brownout := false, liftAt := none }) s else s
  | none => s

/-- VDD_CORE crosses 0.65 V (04 R76): below it releases are held, and the monitor records it. -/
def vddRange (mv : Nat) (s : State) : State :=
  let was := supplyBelow s 0
  let now := mv < 650
  let s := setSupply 0 mv (fun x => { x with belowRange := now }) s
  if now && !was then sendFault 0x140 2 0 mv s
  else if was && !now && !supplyWarns s 0 then clearLive 0x140 s
  else s

def execVddWarn (supply mv : Nat) (s : State) : Host.Outcome State Fault Refusal := .next (vddWarn supply mv s)
def execVddRestored (supply mv : Nat) (s : State) : Host.Outcome State Fault Refusal := .next (vddRestored supply mv s)
def execBrownoutLift (s : State) : Host.Outcome State Fault Refusal := .next (brownoutLift s)
def execVddRange (mv : Nat) (s : State) : Host.Outcome State Fault Refusal := .next (vddRange mv s)

/-! #### Temperature (R376, R377); readings in 0.25 °C -/

def setTemp (n : Nat) (t : Int) (s : State) : State :=
  updSup (fun u => { u with sensors := modAt u.sensors n (fun x => { x with temp := t }) }) s

def throttleAt (s : State) : Int := 4 * calEff s 0x10
def thermAt (s : State) : Int := 4 * calEff s 0x11

/-- The hottest sensor reaches the throttle threshold: the thermal limit starts at the effective budget. -/
def throttle (n : Nat) (t : Int) (s : State) : State :=
  let s := setTemp n t s
  if hottest s < throttleAt s || s.sup.thermal.isSome then s
  else
    let b := effectiveBudget s
    raise_ 66 n (sendFault (0x148 + n) 4 0 (t.toNat % 4096) (updSup (fun u => { u with thermal := some b, thermalAt := s.beat + beatsMs 1 }) s))

/-- The thermal limit's step each 125,000 beats. -/
def thermalStep (n : Nat) (t : Int) (s : State) : State :=
  let s := setTemp n t s
  match s.sup.thermal with
  | none => s
  | some l =>
    if s.beat < s.sup.thermalAt then s
    else
      let l' := if throttleAt s ≤ hottest s then max 80 (l - 16)
        else if hottest s < throttleAt s - 8 then min (powerLimit s) (l + 16) else l
      updSup (fun u => { u with thermal := some l', thermalAt := s.beat + beatsMs 1 }) s

/-- Fewer than two healthy sensors are left on the die of a sensor (R376). -/
def dieShort (s : State) (n : Nat) : Bool :=
  ((if n < 6 then List.range 6 else [6, 7]).filter (fun i => !((s.sup.sensors[i]?).map (·.eclipsed)).getD true)).length < 2

/-- The thermal condition of the sensors is over; an eclipsed sensor's own, and that of a die short of sensors, stay (R360, R376). -/
def clearSensors (s : State) : State :=
  (List.range 8).foldl (fun t i =>
    if ((t.sup.sensors[i]?).map (·.eclipsed)).getD true || dieShort t i then t else clearLive (0x148 + i) t) s

/-- A thermal condition has ended: the sensors' is over when neither the throttle nor THERM_N is left, and at DEVICE level when THERM_N has
cleared. -/
def settleSensors (s : State) : State :=
  if s.sup.thermN then s
  else if s.sup.thermal.isNone then clearSensors s
  else updFc (fun c => { c with liveDevice := c.liveDevice.filter (fun x => !rangeIn 0x148 0x14F x || dieShort s (x - 0x148)) }) s

/-- The limit is removed when it has reached the power limit. -/
def throttleOff (s : State) : State :=
  match s.sup.thermal with
  | none => s
  | some l =>
    if powerLimit s ≤ l && hottest s < throttleAt s - 8 then
      raise_ 67 0 (settleSensors (updSup (fun u => { u with thermal := none }) s))
    else s

/-- The THERM_N threshold: the pin asserts and THERM sends the device to SAFE. -/
def therm (n : Nat) (t : Int) (s : State) : State :=
  let s := setTemp n t s
  if hottest s < thermAt s || s.sup.thermN then s
  else raise_ 68 n (sendFault (0x148 + n) 5 3 (t.toNat % 4096) (updSup (fun u => { u with thermN := true }) s))

/-- Both clear at or below 105 °C. -/
def thermClear (n : Nat) (t : Int) (s : State) : State :=
  let s := setTemp n t s
  if s.sup.thermN && hottest s ≤ 420 then
    settleSensors (updSup (fun u => { u with thermN := false }) s)
  else s

/-- 115 °C: the compute die is held in reset and the link goes down; only POR_N releases the device. -/
def thermalShutdown (n : Nat) (t : Int) (s : State) : State :=
  let s := setTemp n t s
  if hottest s < 460 || s.sup.shutdown then s
  else send (.link false) (sendFault (0x148 + n) 6 4 (t.toNat % 4096) (updSup (fun u => { u with shutdown := true }) s))

def execThrottle (sensor : Nat) (temp : Int) (s : State) : Host.Outcome State Fault Refusal := .next (throttle sensor temp s)
def execThermalLimitStep (sensor : Nat) (temp : Int) (s : State) : Host.Outcome State Fault Refusal :=
  .next (thermalStep sensor temp s)
def execThrottleOff (s : State) : Host.Outcome State Fault Refusal := .next (throttleOff s)
def execTherm (sensor : Nat) (temp : Int) (s : State) : Host.Outcome State Fault Refusal := .next (therm sensor temp s)
def execThermClear (sensor : Nat) (temp : Int) (s : State) : Host.Outcome State Fault Refusal := .next (thermClear sensor temp s)
def execThermalShutdown (sensor : Nat) (temp : Int) (s : State) : Host.Outcome State Fault Refusal :=
  .next (thermalShutdown sensor temp s)

/-- A die with fewer than two healthy sensors raises THERM at DEVICE severity until a warm reset (R376). -/
def checkSensors (s : State) : State :=
  if dieShort s 0 && !s.sup.fc.liveDevice.contains 0x148 then sendFault 0x148 5 3 0 s
  else if dieShort s 6 && !s.sup.fc.liveDevice.contains 0x14E then sendFault 0x14E 5 3 0 s
  else s

/-! #### Reference clock (04 R79) -/

/-- REFCLK is lost: the metronome runs from the custody-die oscillator; the count neither skips nor repeats. -/
def refclkLost (s : State) : State :=
  if !s.sup.refclk then s
  else raise_ 69 0 (sendFault 0x150 8 0 0 (updSup (fun u => { u with refclk := false }) s))

def refclkRestored (s : State) : State :=
  if s.sup.refclk then s
  else raise_ 70 0 (clearLive 0x150 (sendFault 0x150 9 0 0 (updSup (fun u => { u with refclk := true }) s)))

def execRefclkLost (s : State) : Host.Outcome State Fault Refusal := .next (refclkLost s)
def execRefclkRestored (s : State) : Host.Outcome State Fault Refusal := .next (refclkRestored s)

end Sys2Proof.Machine
end

