-- ==== Sys2Proof/Machine/Pipeline.lean ====
section
/-! DEFINITION. The gates before dispatch and the way out after it: energy, operand banks, scatter lists, engine completion, release,
overrun, cancellation and the commit of a transaction group (01_architecture R14, R15, R502; 03 R51, R52, R62-R64, R68; 04 R76-R80). -/
namespace Sys2Proof.Machine

/-! #### Stage 3 (16 R370, R372, R506; 01 R502) -/

/-- The energy of some units, in 1/64 credit. -/
def opEnergy (ks : List UnitKind) : Nat := (ks.map unitEnergy).sum

/-- The first operation that waits at stage 3, in admission order. -/
def firstWaiting (s : State) : Option Nat := (s.ops.find? (fun o => o.stage == .admitted)).map (·.id)

/-- ENERGY_GRANT: an operation whose class has no live unit of a kind it needs takes no grant and goes to its pre-dispatch outcome;
otherwise it is granted when it is first in admission order and the grants fit the budget. -/
def energyGrant (needs : State → Op → List UnitKind) (id : Nat) (s : State) : State :=
  match op? s id with
  | none => s
  | some o =>
    if o.stage != .admitted || !modeRuns s (opClass o.desc) then s
    else
      let ks := needs s o
      if ks.any (fun k => (liveUnits s k).isEmpty) then
        updOp id (fun o => { o with stage := .leased, preFail := o.preFail ++ [.engineEclipsed] }) s
      else
        let e := opEnergy ks
        if firstWaiting s == some id && energyUsed s + e ≤ 64 * (effectiveBudget s - standing s) then
          updOp id (fun o => { o with stage := .energised, energy := e }) s
        else s

/-! #### Stage 4 (01 R14, 15 R344, 03 R54, 09 R185) -/

/-- A free unit for an instance: a long-number unit whose recorded instance matches first (09 R187); for a stream lane, one of the
RESERVE lanes for snooped operations only, the highest-numbered ones, where one is free (10 R206); otherwise the lowest-numbered
(DESIGN CHOICE, log 7). -/
def unitFor (s : State) (inst : Nat) (snooped : Bool) (taken : List UnitRef) (k : UnitKind) : Option Nat :=
  let free := (liveUnits s k).filter (fun n => !(busyUnits s).contains ⟨k, n⟩ && !taken.contains ⟨k, n⟩)
  let general := 64 - min 16 (setting s 0x080040 4 0)
  if k = .ln then (free.find? (fun n => lookup n s.eng.lnOwner == some inst)).or free.head?
  else if k = .lane then (if snooped then (free.find? (general ≤ ·)).or free.head? else free.find? (· < general))
  else free.head?

/-- Units chosen for an operation, one per kind it needs; none while one is not free. -/
def chooseUnits (s : State) (inst : Nat) (snooped : Bool) : List UnitKind → List UnitRef → Option (List UnitRef)
  | [], acc => some acc
  | k :: ks, acc =>
    match unitFor s inst snooped acc k with
    | none => none
    | some n => chooseUnits s inst snooped ks (acc ++ [⟨k, n⟩])

/-- The operation is a snooped one (10 R218): a digest mask on an operation of another class than FX's. -/
def snooped (d : Desc) : Bool := bits d.param 15 12 != 0 && opClass d != 6

/-- Operations naming one stream are taken in admission order: it waits while an earlier one has not finished (10 R212). -/
def streamBlocked (s : State) (o : Op) : Bool :=
  namesStream o.desc.opcode
    && (s.ops.takeWhile (·.id != o.id)).any (fun x => namesStream x.desc.opcode && x.desc.keyA == o.desc.keyA && x.stage != .finished)

/-- An operation waits for no lane any more: its yield entry is free, and what it held is gone. -/
def unyield (id : Nat) (s : State) : State :=
  { s with fx := { s.fx with yielded := s.fx.yielded.filter (· != id), saved := del id s.fx.saved } }

/-- Operations that have yielded resume on the next free lanes, ahead of operations that have not started (10 R221). -/
def resumeOne (s : State) (id : Nat) : State :=
  match op? s id with
  | none => unyield id s
  | some o =>
    if o.stage != .running || !o.waiting then unyield id s
    else match unitFor s o.inst false [] .lane with
      | none => s
      | some n =>
        setLeases o.banks (.unit .lane n (opClass o.desc) id)
          (updOp id (fun o => { o with waiting := false, units := [⟨.lane, n⟩], since := s.beat }) (unyield id s))

def resumeYielded (s : State) : State := s.fx.yielded.foldl resumeOne s

/-- Banks that a buffer of `size` bytes takes (03 R54). -/
def banksFor (size : Nat) : Nat := ceilDiv size 262144

/-- Banks a BUF_CREATE has taken at stage 4 for the buffer it has still to create. -/
def comingBanks (s : State) : List Nat := ((s.ops.filter (fun o => o.desc.opcode == 0x0711 && o.stage == .leased)).map (·.banks)).flatten

/-- BUFFER_SPACE (03 R54): above BANK_LIMIT, or above the banks that are neither withdrawn nor held by a standing lease or another
buffer, which one on its way to be created is. -/
def bufferNoSpace (s : State) (n : Nat) : Bool :=
  let limit := min 64 (setting s 0x0A0040 6 0)
  let coming := comingBanks s
  let usable := (s.mem.leases.zipIdx.filter (fun (l, i) =>
    match l with
    | .withdrawn | .standing | .buffer _ => false
    | _ => !s.mem.lost.contains i && !coming.contains i)).length
  limit < bufBanks s + coming.length + n || usable < n

/-- The long-number unit's working memory must be wiped before another instance's operation (09 R185, R186). -/
def needsWipe (s : State) (o : Op) (us : List UnitRef) : Bool :=
  us.any (fun u => u.kind == .ln && (s.eng.lnDirty.contains u.num ||
    (match lookup u.num s.eng.lnOwner with | some i => i != o.inst | none => false)))

/-- STATEFUL_RESERVE sequencers are withheld from class 0x02 (06 R107). -/
def sequencerWithheld (s : State) (o : Op) : Bool :=
  opClass o.desc == 2
    && (liveUnits s .hf).length - min 8 (setting s 0x050020 3 0)
        ≤ (s.ops.filter (fun x => opClass x.desc == 2 && (x.stage == .leased || x.stage == .running) && x.units.any (·.kind == .hf))).length

/-- Units and banks for an operation that has its energy; without a live unit of a kind it needs it goes to its pre-dispatch outcome
(01 R502).  How many banks an engine operation leases the spec leaves open: `given`
is the sender's (log 7); a buffer takes what its size needs. -/
def leaseNow (needs : State → Op → List UnitKind) (banks : Desc → Option Nat) (id given : Nat) (s : State) : State :=
  match op? s id with
  | none => s
  | some o =>
    if o.stage != .energised || !modeRuns s (opClass o.desc) then s
    else if (needs s o).any (fun k => (liveUnits s k).isEmpty) then
      updOp id (fun o => { o with stage := .leased, energy := 0, preFail := o.preFail ++ [.engineEclipsed] }) s
    else if streamBlocked s o || sequencerWithheld s o then s
    else if o.desc.opcode = 0x0711 then
      let k := banksFor o.desc.inLen
      if bufferNoSpace s k then updOp id (fun o => { o with stage := .leased, preFail := o.preFail ++ [.bufferSpace] }) s
      else match freeBanks s k with
        | none => s
        | some bs => setLeases bs (.unit .kv 0 7 id) (updOp id (fun o => { o with stage := .leased, banks := bs, since := s.beat }) s)
    else
      let n := (banks o.desc).getD given
      match chooseUnits s o.inst (snooped o.desc) (needs s o) [], freeBanks s n with
      | some us, some bs =>
        let l : Lease := match us with | u :: _ => .unit u.kind u.num (opClass o.desc) id | [] => .free
        setLeases bs l (updOp id (fun o => { o with stage := .leased, units := us, banks := bs, since := s.beat, wipeWait := needsWipe s o us }) s)
      | _, _ => s

/-- BANK_LEASE: yielded operations resume first (10 R221). -/
def bankLease (needs : State → Op → List UnitKind) (banks : Desc → Option Nat) (id given : Nat) (s : State) : State :=
  leaseNow needs banks id given (resumeYielded s)

/-- LN_OWNER_WIPE: the unit's working memory is wiped for its next owner (09 R185); LN_STATS.WIPES counts it. -/
def lnOwnerWipe (unit : Nat) (s : State) : State :=
  if s.ops.any (fun o => o.wipeWait && o.units.contains ⟨.ln, unit⟩) || s.eng.lnDirty.contains unit then
    { s with
      eng := { s.eng with lnWipes := sat 0xFFFF (s.eng.lnWipes + 1), lnDirty := s.eng.lnDirty.filter (· != unit)
                          lnOwner := del unit s.eng.lnOwner, lnWork := del unit s.eng.lnWork }
      ops := s.ops.map (fun o => if o.units.contains ⟨.ln, unit⟩ then { o with wipeWait := false } else o) }
  else s

def execLnOwnerWipe (unit : Nat) (s : State) : Host.Outcome State Fault Refusal := .next (lnOwnerWipe unit s)

/-! #### Scatter lists (03 R51, R52) -/

/-- SCATTER_WALK of one operand, 0 IN, 1 AUX, 2 OUT, with the list's entries as read; `failed` where a read of the list failed, `poison`
where a word of it carried EP. -/
def scatterWalk (id fieldNo : Nat) (words : List Bytes) (failed poison : Bool) (s : State) : State :=
  match op? s id with
  | none => s
  | some o =>
    let (r, len) := match fieldNo with
      | 0 => (o.desc.inRef, o.desc.inLen)
      | 1 => (o.desc.auxRef, o.desc.auxLen)
      | _ => (o.desc.outRef, o.desc.outCap)
    let have_ := match fieldNo with | 0 => o.inPieces | 1 => o.auxPieces | _ => o.outPieces
    if o.stage != .leased || refKind r != .scatter || !have_.isEmpty then s
    else
      match if failed || poison then none else walkScatter words 0 0 with
      | none => updOp id (fun o => { o with preFail := o.preFail ++ [.badScatter], poisonSeen := o.poisonSeen || poison }) s
      | some ps =>
        let bad := if scatterSum ps = len then [] else [Status.lengthMismatch]
        updOp id (fun o =>
          match fieldNo with
          | 0 => { o with inPieces := ps, preFail := o.preFail ++ bad }
          | 1 => { o with auxPieces := ps, preFail := o.preFail ++ bad }
          | _ => { o with outPieces := ps, preFail := o.preFail ++ bad }) s

def execScatterWalk (op fieldNo : Nat) (words : List Bytes) (failed poison : Bool) (s : State) :
    Host.Outcome State Fault Refusal := .next (scatterWalk op fieldNo words failed poison s)

/-! #### Engine done (01 R14, R15) -/

/-- A unit that failed the check of its own result is eclipsed when it is done with the operation (06 R109, R116; 09 R182, R184). -/
def eclipseSuspect (o : Op) (s : State) : State :=
  match o.units.find? (fun u => some u.kind == o.selfFault) with
  | some u => sendFault (unitSource u) 2 2 u.num s
  | none => s

/-- IM_RELEASE_CTRL.WATCHDOG_MULT (R77). -/
def watchdogMult (s : State) : Nat := max 4 (setting s 0x030200 7 0)

/-- MAX_MULT of CODE_KG_CTRL or LN_KG_CTRL (08 R172, 09 R201). -/
def maxMult (s : State) (off : Nat) : Nat := min (max 2 (setting s off 3 0)) (watchdogMult s - 1)

/-- A group key its operation made has come into being: the operation has waited for its replication (12 R269). -/
def groupMade (o : Op) : Bool := o.parked.effects.any (fun e => match e with | .slotLive n => 15360 ≤ n | _ => false)

/-- A key generation whose search a retry limit ends, never the watchdog (08 R172, 09 R201). -/
def retryLimited (opcode : Nat) : Bool := opcode == 0x0401 || opcode == 0x0511

/-- The engine has been stopped: at its retry limit, or by the watchdog at WATCHDOG_MULT (R77, 08 R172).  An operation that can wait for
another agent or for a lane is not held to it here (log 40). -/
def stoppedEngine (s : State) (o : Op) : Bool :=
  let limit := if o.desc.opcode = 0x0401 then maxMult s 0x060020 else if o.desc.opcode = 0x0511 then maxMult s 0x070020 else watchdogMult s
  [1, 2, 4, 5].contains (opClass o.desc) && !o.cancel && !groupMade o && 0 < o.slot && o.dispatch + limit * o.slot < s.beat

/-- A part of a compound operation ends before its last: its unit and that unit's energy come back (11 R228; the parts end in the order of
the operation's units, log 86). -/
def partDone (o : Op) (s : State) : State :=
  let us := o.units.take 1
  switchUnits us (resumeYielded (updOp o.id (fun o => { o with units := o.units.drop 1, energy := o.energy - opEnergy (us.map (·.kind)) })
    (clearWork us s)))
  |> eclipseSuspect { o with units := us }

/-- ENGINE_DONE: the unit has finished; unit, credits and banks come back, and key references drop. -/
def engineDone (id : Nat) (s : State) : State :=
  let s := resumeYielded s
  match op? s id with
  | none => s
  | some o =>
    if o.stage != .running || opClass o.desc = 0x0F || o.waiting || stoppedEngine s o then s
    else if opClass o.desc = 8 && 1 < o.units.length then partDone o s
    else
      let isBuf := o.desc.opcode = 0x0711
      let s := if isBuf then s else returnBanks o.banks s
      let s := clearWork o.units s
      let s := if o.cancel then failStream o s else directWrite o s
      switchUnits o.units (resumeYielded (sweepWiping (updOp id (fun o =>
        { o with
          stage := .finished, doneBeat := s.beat, banks := if isBuf then o.banks else []
          checkpoint := o.cancel
          parked := if o.cancel then { o.parked with status := .aborted, out := [] } else o.parked }) s)))
      |> eclipseSuspect o

/-- BANK_WIPE: a bank's wipe ends and it returns to the pool, or leaves it where it is withdrawn (15 R336, R345). -/
def bankWipe (b : Nat) (s : State) : State :=
  match s.mem.leases[b]? with
  | some .wiping => setLeases [b] (if s.mem.lost.contains b then .withdrawn else .free) s
  | _ => s

def execBankWipe (bank : Nat) (s : State) : Host.Outcome State Fault Refusal := .next (bankWipe bank s)

/-- DMA_READ_TIMEOUT: the read's data is delivered as poison (15 R333): an operation still to consume it is failed with it.  Where the
lower code of a stream's own lengths stands, so does its NOT_EQUAL (02 R41). -/
def dmaReadTimeout (id : Nat) (s : State) : State :=
  match op? s id with
  | none => s
  | some o =>
    if o.stage == .running && opClass o.desc != 0x0F then
      failStream o (updOp id (fun o =>
        { o with
          poisonSeen := true
          parked :=
            { o.parked with
              status := (firstSlot ([Status.poisonConsumed] ++ (if o.parked.status = .ok then [] else [o.parked.status]))).getD .ok
              verdict := if (o.parked.status == .truncated || o.parked.status == .overrun) && o.parked.verdict == .notEqual then .notEqual
                else .none
              out := [] } }) s)
    else s

def execDmaReadTimeout (op : Nat) (s : State) : Host.Outcome State Fault Refusal := .next (dmaReadTimeout op s)

end Sys2Proof.Machine
end

