-- ==== Sys2Proof/Machine/Buffers.lean ====
section
/-! DEFINITION. On-chip buffers: BUF_CREATE, BUF_LOAD, BUF_FREE and the wipe of a freed buffer (03_descriptors R54-R57). -/
namespace Sys2Proof.Machine

/-- BUF_CREATE takes its size in IN_LEN; its banks were leased at stage 4 (R54). -/
def bufCreateSpec : OpSpec :=
  { opcode := 0x0711, suites := noSuite, param := fun _ p => p == 0, units := kvUnits
    uses := fun _ => { inLen := true }
    late := fun s o _ =>
      when_ (o.desc.inLen % 64 != 0 || !rangeIn 64 4194304 o.desc.inLen) .badLength ++ when_ (ordinaryNumber s.kv).isNone .vaultFull
    slot := fun _ _ _ => slotKv
    run := fun s o _ =>
      match ordinaryNumber s.kv with
      | none => { st := s, fails := [.vaultFull] }
      | some h =>
        let b : Buffer := { owner := o.inst, size := o.desc.inLen, banks := o.banks, live := false }
        let s := updOp o.id (fun o => { o with banks := [], bufs := o.bufs ++ [h] }) (setLeases o.banks (.buffer h) s)
        { st := updKv (putSlot h (blankSlot .buffer o.inst)) { s with bufs := put h b s.bufs }
          opdata := leBytes 2 h, effects := [.bufLive h] } }

/-- BUF_LOAD (R56): its output is direct (R67), and is in the buffer when the engine is done. -/
def bufLoadSpec : OpSpec :=
  { opcode := 0x0712, suites := noSuite, param := fun _ p => p == 0, units := kvUnits
    uses := fun _ => { inLen := true, inRef := true, out := true, outKinds := bufferOnly }
    more := fun d => when_ (refKind d.outRef != .buffer) .badReference
    late := fun _ o _ =>
      when_ (o.desc.inLen % 4 != 0 || bufOffset o.desc.outRef % 4 != 0 || o.desc.outCap != o.desc.inLen) .badLength
    slot := fun _ o _ => slotBufLoad (classOf o.desc)
    run := fun s o i =>
      { st := s, out := inBytes s o i } }

/-- BUF_FREE: the handle stops being live at the dispatch (R57). -/
def bufFreeSpec : OpSpec :=
  { opcode := 0x0713, suites := noSuite, param := fun _ p => p == 0, units := kvUnits
    uses := fun _ => { inLen := true, inRef := true, inKinds := bufferOnly, inData := false }
    more := fun d => when_ (refKind d.inRef != .buffer || bufOffset d.inRef != 0) .badReference
    late := fun s o _ =>
      when_ (match lookup (bufHandle o.desc.inRef) s.bufs with | some b => o.desc.inLen != b.size | none => false) .badLength
    slot := fun _ _ _ => slotKv
    run := fun s o _ => { st := { s with bufs := adjust (bufHandle o.desc.inRef) (fun b => { b with live := false }) s.bufs } } }

/-- A released result still to be written names the buffer. -/
def bufAwaited (s : State) (h : Nat) : Bool :=
  let names (c : Completion) : Bool := c.writes.any (fun p => p.buf == some h)
  s.qm.rings.any (fun e =>
    e.2.outq.any names
      || e.2.batches.any (fun b => b.members.any (fun m => (m.done.map names).getD false))
      || e.2.groups.any (fun g => g.members.any (fun m => (m.done.map names).getD false)))

/-- BUF_WIPE: a freed buffer that no operation references any more is wiped, and its banks and number return (R57). -/
def bufWipe (h : Nat) (s : State) : State :=
  match lookup h s.bufs with
  | none => s
  | some b =>
    if b.live || s.ops.any (·.bufs.contains h) || bufAwaited s h then s
    else wipeBuffers (fun n _ => n == h) s

/-- Every buffer of an instance freed as BUF_FREE frees one (R57). -/
def freeBuffersOf (inst : Nat) (s : State) : State :=
  { s with bufs := s.bufs.map (fun e => if e.2.owner = inst then (e.1, { e.2 with live := false }) else e) }

def execBufCreate (op : Nat) (inp : OpInput) (s : State) : Host.Outcome State Fault Refusal := .next (dispatchAs bufCreateSpec op inp s)
def execBufLoad (op : Nat) (inp : OpInput) (s : State) : Host.Outcome State Fault Refusal := .next (dispatchAs bufLoadSpec op inp s)
def execBufFree (op : Nat) (inp : OpInput) (s : State) : Host.Outcome State Fault Refusal := .next (dispatchAs bufFreeSpec op inp s)
def execBufWipe (handle : Nat) (s : State) : Host.Outcome State Fault Refusal := .next (bufWipe handle s)

end Sys2Proof.Machine
end

