-- ==== Sys2Proof/Machine/Links.lean ====
section
/-! DEFINITION. Wyrum ports: training and lanes, frames and credits, hop and routed sessions, and routes (19_wyrum_groups R429-R446, R460,
R461; 22_electrical R496). -/
namespace Sys2Proof.Machine

/-! #### Handshakes (R439, R441, R443) -/

/-- A hop handshake starts on a port that is up; a device with no charter establishes no session (R441). -/
def startHello (n : Nat) (s : State) : State :=
  match s.ports[n]? with
  | none => s
  | some p =>
    if p.state != .up || p.keys.isSome || p.helloMine.isSome || s.grp.charter.isNone then s
    else
      let (eph, s) := drawBytes 1624 s
      let h := helloA eph s
      sendNow n h (linkEngine (updPort n (fun p => { p with helloMine := some h }) s))

/-- A rekey starts: a fresh HELLO_A inside a protected frame (R442). -/
def startRekey (n : Nat) (s : State) : State :=
  let (eph, s) := drawBytes 1624 s
  let h := helloA eph s
  sendHop n 0x01 0 h (linkEngine (updPort n (fun p => { p with helloMine := some h, rekeying := true }) s))

/-- What R441 makes of a peer. -/
inductive Judged where
  | accepted (member : Nat)
  | restricted
  | refused
  deriving DecidableEq, Repr

/-- The charter entry whose UNIQUE_ID and ID_HASH match. -/
def entryOf (s : State) (hello : Bytes) : Option Nat :=
  s.grp.charter.bind (fun c =>
    (c.entries.find? (fun e => e.uid == helloUid hello && e.idHash == sha3_256 (helloId hello))).map (·.number))

def judge (s : State) (mine hello ctMine ctPeer sig : Bytes) : Judged :=
  match s.grp.charter with
  | none => .refused
  | some c =>
    if !mldsa87Ok "KLQ wyrum" (helloId hello) (transcript mine hello ctMine ctPeer) sig || helloGroup hello != fit 16 c.groupId then .refused
    else match entryOf s hello with
      | some m => .accepted m
      | none => if c.seq < helloSeq hello then .restricted else .refused

/-- A refused peer: AUTH_FAILED and PEER_UNAUTHENTICATED, and the port tries again after a wait that doubles up to 64 s (R441). -/
def refusePeer (n : Nat) (s : State) : State :=
  let w := max 1 (((s.ports[n]?).map (·.backoff)).getD 1)
  let s := raise_ 228 0x3FF (raisePort n 2 s)
  updPort n (fun p => { p with retryAt := some (s.beat + beatsS w), backoff := min 64 (2 * w) }) (endSession n s)

/-! #### Charters on the wire (R451, R452) -/

def charterBodies (c : Charter) : List Bytes :=
  let count := ceilDiv c.raw.length 8000
  (List.range count).map (fun i =>
    leBytes 4 c.seq ++ leBytes 1 i ++ leBytes 1 count ++ [0, 0] ++ leBytes 4 c.raw.length ++ slice c.raw (8000 * i) 8000)

/-- The charter in force sent to a neighbour, a fragment in each message. -/
def sendCharter (n : Nat) (s : State) : State :=
  match s.grp.charter with
  | some c => (charterBodies c).foldl (fun t b => sendHop n 0x11 0 b t) s
  | none => s

/-! #### A hop session opens -/

/-- The port under its new keys; `first` where it had no session before. -/
def Port.opened (p : Port) (beat : Nat) (st : PortState) (member : Nat) (uid : Bytes) (k : SessionKeys) : Port :=
  markStarve beat
    { p with
      state := st, peer := member, peerUid := uid, keys := some k, keysAt := beat, oldKeys := p.keys, rxOld := p.rxSeq, txSeq := 0
      rxSeq := none, ackSeq := none, sent := [], helloMine := none, helloPeer := none, ctMine := none, rekeying := false
      lastHeard := if p.keys.isSome then p.lastHeard else beat, backoff := 0, retryAt := none }

/-- A neighbour with a session is one hop away. -/
def addNeighbour (n m : Nat) (s : State) : State :=
  let before := routeTable s
  settleRoutes before (updMember m (fun x => { x with routes := x.routes.filter (·.1 != n) ++ [(n, 1, s.beat)] }) s)

/-- Keys are in force: the first protected frame goes out with SEQ 0; a new session brings routes, and a peer with an older charter is
sent the one in force (R439, R445; log 26). -/
def openHop (n : Nat) (st : PortState) (member : Nat) (hello : Bytes) (k : SessionKeys) (s : State) : State :=
  let rekeyed := ((s.ports[n]?).map (fun p => p.keys.isSome)).getD false
  let s := sendNow n [] (updPort n (fun p => p.opened s.beat st member (helloUid hello ++ sha3_256 (helloId hello)) k) s)
  if rekeyed then pump n s
  else if st != .secure then s
  else
    let s := sendRoutes (addNeighbour n member s)
    if helloSeq hello < ((s.grp.charter.map (·.seq)).getD 0) then sendCharter n s else s

/-- HELLO_A arrives: our own goes out if it has not, and HELLO_B.  Equal UNIQUE_IDs end the handshake (R440). -/
def helloInA (n : Nat) (h : Bytes) (s : State) : State :=
  match s.ports[n]? with
  | none => s
  | some p =>
    let hop := p.state == .up && p.keys.isNone
    if h.length ≠ 4260 || field h 0 1 ≠ 1 || s.grp.charter.isNone || !(hop || p.state == .secure) then s
    else if helloUid h == fit 16 s.cus.otp.uid then
      updPort n (fun p => { p with helloMine := none, helloPeer := none, ctMine := none, rekeying := false }) s
    else
      let s := if hop then startHello n s else if p.rekeying then s else startRekey n s
      let (ct, s) := drawBytes 1568 s
      let mine := (((s.ports[n]?).bind (·.helloMine))).getD []
      let s := linkEngine (updPort n (fun p => { p with helloPeer := some h, ctMine := some ct }) s)
      if hop then sendNow n (helloB mine h ct s) s else sendHop n 0x02 0 (helloB mine h ct s) s

/-- HELLO_B arrives: the peer is checked, and the keys derived (R439 step 3). -/
def helloInB (n : Nat) (b : Bytes) (s : State) : State :=
  match s.ports[n]? with
  | none => s
  | some p =>
    match p.helloMine, p.helloPeer, p.ctMine with
    | some mine, some hello, some ct =>
      if b.length ≠ 6199 || field b 0 1 ≠ 2 then s
      else
        let ctPeer := slice b 4 1568
        let k := sessionKeys "KLQ wyrum session" mine hello ct ctPeer
        match judge s mine hello ct ctPeer (slice b 1572 4627) with
        | .accepted m => openHop n .secure m hello k (linkEngine s)
        | .restricted => openHop n .restricted 0x3FF hello k (linkEngine s)
        | .refused => refusePeer n (linkEngine s)
    | _, _, _ => s

def execHelloA (port : Nat) (hello : Bytes) (s : State) : Host.Outcome State Fault Refusal := .next (helloInA port hello s)
def execHelloB (port : Nat) (hello : Bytes) (s : State) : Host.Outcome State Fault Refusal := .next (helloInB port hello s)

/-- A restricted session without a charter that lifts it ends after 1 s (R441). -/
def restrictedTimeout (n : Nat) (s : State) : State :=
  match s.ports[n]? with
  | some p => if p.state == .restricted && p.keysAt + beatsS 1 ≤ s.beat then refusePeer n s else s
  | none => s

/-- A port without a session tries its handshake again (R441). -/
def peerRetry (n : Nat) (s : State) : State :=
  match s.ports[n]? with
  | some p =>
    match p.retryAt with
    | some t =>
      if p.state == .up && p.keys.isNone && t ≤ s.beat then
        startHello n (updPort n (fun p => { p with retryAt := none, helloMine := none, helloPeer := none, ctMine := none }) s)
      else s
    | none => s
  | none => s

/-- REKEY: after 2^32 frames in either direction, or REKEY_MIN minutes (R442). -/
def rekey (n : Nat) (s : State) : State :=
  match s.ports[n]? with
  | some p =>
    let due := 2 ^ 32 ≤ p.txSeq || (match p.rxSeq with | some q => decide (2 ^ 32 ≤ q + 1) | none => false)
      || p.keysAt + 7500000000 * max 1 (setting s 0x0D0804 7 0) ≤ s.beat
    if p.state == .secure && !p.rekeying && due then startRekey n s else s
  | none => s

def execRestrictedTimeout (port : Nat) (s : State) : Host.Outcome State Fault Refusal := .next (restrictedTimeout port s)
def execPeerRetry (port : Nat) (s : State) : Host.Outcome State Fault Refusal := .next (peerRetry port s)
def execRekey (port : Nat) (s : State) : Host.Outcome State Fault Refusal := .next (rekey port s)

/-! #### Training and lanes (R429-R432, R496) -/

/-- Training completes with some lanes working: at the widest width, or not at all where that is below MIN_WIDTH. -/
def portTraining (n working : Nat) (s : State) : State :=
  match s.ports[n]? with
  | none => s
  | some p =>
    let may := p.state == .training || p.state == .down && p.retryAt.isNone
    if !may || !portEnabled s n || !s.sup.wyRefclk || s.glb.perst || s.glb.mode == .boot then s
    else
      let failed := 15 - bits working 3 0
      let s := if failed = 0 then s else sendFault (0x130 + n) 1 0 failed s
      if laneCount (lanesFor failed false) < minLanes s n then
        updPort n (fun p => { p with state := .down, failed := failed, lanes := 0, retryAt := some (s.beat + beatsS 1) }) s
      else
        let s := settleLanes (updPort n (fun p =>
          { p with state := .up, failed := failed, retryAt := none, backoff := 0, lastSent := s.beat, lastHeard := s.beat }) s)
        startHello n (raisePort n 1 s)

/-- A lane fails at a frame boundary. -/
def laneFail (n lane : Nat) (s : State) : State :=
  match s.ports[n]? with
  | none => s
  | some p =>
    if !p.trained || 4 ≤ lane || bit p.failed lane then s
    else
      let failed := p.failed + 2 ^ lane
      let s := sendFault (0x130 + n) 1 0 failed (updPort n (fun p => { p with failed := failed }) s)
      if laneCount (lanesFor failed false) < minLanes s n then linkDown n .down (some (s.beat + beatsS 1)) s else settleLanes s

def trainingRetry (n : Nat) (s : State) : State :=
  match s.ports[n]? with
  | some p =>
    match p.retryAt with
    | some t =>
      if p.state == .down && t ≤ s.beat && portEnabled s n && s.sup.wyRefclk then
        updPort n (fun p => { p with state := .training, retryAt := none }) s
      else s
    | none => s
  | none => s

/-- A second's codewords: symbols corrected and codewords beyond correction (R430). -/
def fecSecond (n corrected uncorrectable : Nat) (s : State) : State :=
  match s.ports[n]? with
  | none => s
  | some p =>
    if !p.trained then s
    else
      let s := updPort n (fun p => { p with fecCorrected := sat 0xFFFF corrected, fecUncorr := sat 0xFFFF (p.fecUncorr + uncorrectable) }) s
      if max 1 (setting s 0x0D0800 27 20) < uncorrectable then
        retrain n (sendFault (0x130 + n) 2 0 (sat 0xFFFF uncorrectable) (raisePort n 4 s))
      else s

/-- WY_REFCLK is lost, or is back: without it every port stays DOWN (R496). -/
def wyRefclk (present : Bool) (s : State) : State :=
  let s := { s with sup := { s.sup with wyRefclk := present } }
  if present then s
  else (List.range 4).foldl (fun t n =>
    if ((t.ports[n]?).map (·.state == .eclipsed)).getD true then t else linkDown n .down (some (t.beat + beatsS 1)) t) s

def execPortTraining (port lanes : Nat) (s : State) : Host.Outcome State Fault Refusal := .next (portTraining port lanes s)
def execLaneFail (port lane : Nat) (s : State) : Host.Outcome State Fault Refusal := .next (laneFail port lane s)
def execTrainingRetry (port : Nat) (s : State) : Host.Outcome State Fault Refusal := .next (trainingRetry port s)
def execFecThreshold (port corrected uncorrectable : Nat) (s : State) : Host.Outcome State Fault Refusal :=
  .next (fecSecond port corrected uncorrectable s)
def execWyRefclkLost (present : Bool) (s : State) : Host.Outcome State Fault Refusal := .next (wyRefclk present s)

/-! #### Time on a port (R431, R433, R437, R438, R460) -/

def onSession (n : Nat) (f : Port → State) (s : State) : State :=
  match s.ports[n]? with
  | some p => if p.keys.isSome then f p else s
  | none => s

/-- HEARTBEAT: nothing sent for 125,000 beats. -/
def heartbeat (n : Nat) (s : State) : State :=
  onSession n (fun p => if p.lastSent + 125000 ≤ s.beat then sendNow n [] s else s) s

/-- CREDIT_REPORT: buffers freed and not reported. -/
def creditReport (n : Nat) (s : State) : State := onSession n (fun p => if p.unreported.isSome then sendNow n [] s else s) s

def portIdle (n : Nat) (s : State) : State :=
  match s.ports[n]? with
  | some p => if p.active && p.lastLoad + 125000 ≤ s.beat then updPort n (fun p => { p with active := false }) s else s
  | none => s

def starveBeats (s : State) : Nat := beatsMs (clip 1 1000 (setting s 0x0D0800 19 10))

/-- A channel has held no credit for so long. -/
def starvedFor (p : Port) (vc beats now : Nat) : Bool :=
  match (p.channels[vc]?).bind (·.starvedAt) with
  | some t => decide (t + beats ≤ now)
  | none => false

def creditStarved (n vc : Nat) (s : State) : State :=
  onSession n (fun p =>
    if starvedFor p vc (starveBeats s) s.beat && !((p.channels[vc]?).map (·.raised)).getD true then
      raisePort n 3 (updPort n (fun p =>
        { p with starved := sat 0xFF (p.starved + 1), channels := modAt p.channels vc (fun c => { c with raised := true }) }) s)
    else s) s

def starveSessionEnd (n vc : Nat) (s : State) : State :=
  onSession n (fun p => if starvedFor p vc (8 * starveBeats s) s.beat then retrain n s else s) s

def peerTimeout (n : Nat) (s : State) : State :=
  onSession n (fun p =>
    if p.lastHeard + beatsMs (clip 1 1000 (setting s 0x0D0800 9 0)) ≤ s.beat then retrain n (raisePort n 6 s) else s) s

def execHeartbeat (port : Nat) (s : State) : Host.Outcome State Fault Refusal := .next (heartbeat port s)
def execCreditReport (port : Nat) (s : State) : Host.Outcome State Fault Refusal := .next (creditReport port s)
def execPortIdle (port : Nat) (s : State) : Host.Outcome State Fault Refusal := .next (portIdle port s)
def execCreditStarved (port vc : Nat) (s : State) : Host.Outcome State Fault Refusal := .next (creditStarved port vc s)
def execStarveSessionEnd (port vc : Nat) (s : State) : Host.Outcome State Fault Refusal := .next (starveSessionEnd port vc s)
def execPeerTimeout (port : Nat) (s : State) : Host.Outcome State Fault Refusal := .next (peerTimeout port s)

/-! #### A frame arrives (R434, R435, R444, R446) -/

def frameBad (f : FrameIn) : Bool :=
  f.delimited != 24 + f.len + (if f.prot then 16 else 0) || 8192 < f.len || 2 < f.vc || f.reserved

/-- Step 1 of R435: a tag that fails. -/
def tagFailed (n : Nat) (s : State) : State :=
  match s.ports[n]? with
  | none => s
  | some p =>
    let (k, t) := p.authWindow
    let w := if k != 0 && s.beat < t + beatsS 1 then (k + 1, t) else (1, s.beat)
    let s := updPort n (fun p => { p with auth := sat 0xFF (p.auth + 1), authWindow := w }) s
    if p.keys.isSome && max 1 (setting s 0x0D0804 23 16) ≤ w.1 then
      let s := sendFault (0x130 + n) 3 0 p.peer (raisePort n 2 s)
      updPort n (fun p => { p with retryAt := some (s.beat + beatsS 1) }) (endSession n s)
    else s

/-- The three FREE counts of a header. -/
def freeCounts (w : Nat) : List Nat := [bits w 7 0, bits w 15 8, bits w 23 16]

/-- The port with a frame accepted: SEQ values skipped are dropped frames, its FREE and ACK_SEQ are taken. -/
def Port.accepted (p : Port) (beat : Nat) (f : FrameIn) : Port :=
  let old := f.prot && f.old && p.oldKeys.isSome
  let high := if old then p.rxOld else p.rxSeq
  let next := match high with | some q => q + 1 | none => 0
  let ack := if f.ack = 0xFFFFFFFFFFFFFFFF then none else some f.ack
  let p :=
    { p with
      dropped := sat 0xFF (p.dropped + (f.seq - next))
      rxSeq := if old then p.rxSeq else some f.seq
      rxOld := if old then some f.seq else p.rxOld
      oldKeys := if f.prot && !f.old then none else p.oldKeys
      lastHeard := beat, active := p.active || f.len != 0
      lastLoad := if f.len = 0 then p.lastLoad else beat
      unreported := if f.len = 0 then p.unreported else p.unreported.or (some beat) }
  if old then p
  else
    let p :=
      { p with
        ackSeq := ack
        sent := p.sent.filter (fun e => match ack with | some a => a < e.1 | none => true)
        channels := (p.channels.zip (freeCounts f.free)).map (fun e => { e.1 with free := e.2 }) }
    if p.keys.isSome then markStarve beat p else p

/-- Message codes of R446, and those that travel hop by hop. -/
def hopCode (m : Nat) : Bool := m == 0x01 || m == 0x02 || m == 0x10 || m == 0x11
def knownCode (m : Nat) : Bool :=
  hopCode m || m == 0x40 || m == 0x41 || 0x48 ≤ m && m ≤ 0x4A || 0x50 ≤ m && m ≤ 0x54 || 0x60 ≤ m && m ≤ 0x68

/-- An envelope: one with an unlisted code is dropped; one for another member is relayed with HOPS one less; what one for this device says
is the command of its own message (log 23). -/
def envelopeIn (n vc : Nat) (e : Bytes) (restricted : Bool) (s : State) : State :=
  let dst := field e 2 2
  let hops := field e 4 1
  let msg := field e 5 1
  if !knownCode msg || (restricted && msg != 0x11) then dropCount n 1 s
  else if hopCode msg || some dst = selfMember s then s
  else if hops = 0 then dropCount n 1 s
  else match nextHop s dst with
    | some p => portSend p vc (e.take 4 ++ leBytes 1 (hops - 1) ++ e.drop 5) s
    | none => s

/-- A PROT 0 frame is accepted only as a handshake (R435 step 4). -/
def helloFrame (p : Port) (f : FrameIn) : Bool :=
  f.vc == 0 && p.keys.isNone && (field f.payload 0 1 == 1 || field f.payload 0 1 == 2)

def frameReceive (n : Nat) (f : FrameIn) (s : State) : State :=
  match s.ports[n]? with
  | none => s
  | some p =>
    if !p.trained then s
    else if frameBad f then raisePort n 5 (dropCount n 1 s)
    else if f.prot && (p.keys.isNone || !f.tagOk) then tagFailed n s
    else
      let high := if f.prot && f.old && p.oldKeys.isSome then p.rxOld else p.rxSeq
      if (match high with | some q => decide (f.seq ≤ q) | none => false) then
        raisePort n 7 (updPort n (fun p => { p with replay := sat 0xFF (p.replay + 1) }) s)
      else if !f.prot && !helloFrame p f then dropCount n 1 s
      else
        let s := pump n (updPort n (fun p => p.accepted s.beat f) s)
        let s := if f.prot && (member? s p.peer).isSome then updMember p.peer (fun x => { x with heard := s.beat }) s else s
        if f.prot && f.len != 0 then envelopeIn n f.vc f.payload (p.state == .restricted) s else s

def execFrameReceive (port : Nat) (frame : FrameIn) (s : State) : Host.Outcome State Fault Refusal := .next (frameReceive port frame s)

/-! #### Routes (R445) -/

/-- ROUTE from a neighbour: each member it reaches is one hop further; what it no longer lists is withdrawn. -/
def routeIn (n : Nat) (entries : List (Nat × Nat)) (s : State) : State :=
  match s.ports[n]? with
  | none => s
  | some p =>
    if p.state != .secure then s
    else
      let before := routeTable s
      let kept := (entries.map (fun e => (e.1 % 1024, e.2 % 64 + 1))).filter (fun e => e.2 < 64 && some e.1 != selfMember s && e.1 != p.peer)
      let s := updGrp (fun g => { g with members := g.members.map (fun e =>
        if e.1 = p.peer then e else (e.1, { e.2 with routes := e.2.routes.filter (·.1 != n) })) }) s
      let known (m : Nat) : Bool := (s.grp.charter.map (fun c => c.entries.any (·.number == m))).getD false
      let s := (kept.filter (fun e => known e.1)).foldl (fun t e =>
        updMember e.1 (fun x => { x with routes := x.routes.filter (·.1 != n) ++ [(n, e.2, s.beat)] }) t) s
      settleRoutes before s

/-- ROUTE_SEND: every 1 s. -/
def routeSend (s : State) : State :=
  if s.grp.lastRoute + beatsS 1 ≤ s.beat && !(securePorts s).isEmpty then sendRoutes s else s

/-- MEMBER_LOST: no route for 3 s. -/
def memberLost (m : Nat) (s : State) : State :=
  match member? s m with
  | none => s
  | some x =>
    match x.routeless with
    | some t =>
      if !x.lost && x.routes.isEmpty && t + beatsS 3 ≤ s.beat then
        raise_ 224 m (updMember m (fun x => { x with lost := true, helloMine := none, helloPeer := none, ctMine := none }) s)
      else s
    | none => s

def execRoute (port : Nat) (entries : List (Nat × Nat)) (s : State) : Host.Outcome State Fault Refusal := .next (routeIn port entries s)
def execRouteSend (s : State) : Host.Outcome State Fault Refusal := .next (routeSend s)
def execMemberLost (member : Nat) (s : State) : Host.Outcome State Fault Refusal := .next (memberLost member s)

end Sys2Proof.Machine
end

