-- ==== Sys2Proof/Machine/Stateful.lean ====
section
/-! DEFINITION. The stateful class 0x03, sealed range blobs and the journal's own work (07_stateful_keys). -/
namespace Sys2Proof.Machine

/-! #### Parameters (02 R31, R32; R133-R135, R140) -/

def isStf (x : Nat) : Bool := rangeIn 0x0501 0x0504 x || rangeIn 0x0601 0x0604 x

/-- Total height and layers of the XMSS and XMSS^MT parameter sets of RFC 8391 and SP 800-208. -/
def xmssSets : List (Nat × Nat) :=
  [(10, 1), (16, 1), (20, 1), (20, 2), (20, 4), (40, 2), (40, 4), (40, 8), (60, 3), (60, 6), (60, 12)]

/-- PARAM of STF_KEYGEN: levels, the height of each, and the Winternitz code. -/
def stfParams (suite p : Nat) : Nat × Nat × Nat :=
  if famOf suite = 5 then (bits p 7 5 + 1, [5, 10, 15, 20, 25].getD (bits p 2 0) 0, bits p 4 3)
  else
    let h := [10, 16, 20, 40, 60].getD (bits p 2 0) 0
    let d := bits p 6 3
    (d, if d = 0 then 0 else h / d, 0)

def stfKeygenParam (suite p : Nat) : Bool :=
  if famOf suite = 5 then
    bits p 15 8 == 0 && bits p 2 0 ≤ 4 && (stfParams suite p).1 * (stfParams suite p).2.1 ≤ 60
  else bits p 15 7 == 0 && bits p 2 0 ≤ 4 && xmssSets.contains ([10, 16, 20, 40, 60].getD (bits p 2 0) 0, bits p 6 3)

/-- LM-OTS chains p, by n and Winternitz code (RFC 8554, SP 800-208); XMSS chains len. -/
def lmotsP (n w : Nat) : Nat := (if n = 32 then [265, 133, 67, 34] else [200, 101, 51, 26]).getD w 0
def xmssLen (n : Nat) : Nat := if n = 32 then 67 else 51

/-- Length of an LMS signature at one level, and of an HSS signature (R140). -/
def lmsSigLen (n h w : Nat) : Nat := 4 + (4 + n + lmotsP n w * n) + 4 + h * n
def hssSigLen (n levels h w : Nat) : Nat := 4 + levels * lmsSigLen n h w + (levels - 1) * (24 + n)
def xmssSigLen (n d h : Nat) : Nat :=
  if d = 1 then 4 + n + (xmssLen n + h) * n else ceilDiv (d * h) 8 + n + (d * h + d * xmssLen n) * n

def stfSigLen (suite : Nat) (k : StfKey) : Nat :=
  let n := stfN (setOf suite)
  if famOf suite = 5 then hssSigLen n k.levels k.height k.wcode else xmssSigLen n k.levels k.height

/-- The private part's length P (R135). -/
def stfPrivLen (suite : Nat) : Nat :=
  let n := stfN (setOf suite)
  if famOf suite = 5 then 16 + n + 8 else 20 + 4 * n

/-- Big-endian type codes of RFC 8554 and SP 800-208 for a set, height and Winternitz code. -/
def lmsType (set h : Nat) : Nat := 5 + 5 * ((set - 1) % 4) + (h / 5 - 1)
def lmotsType (set w : Nat) : Nat := 1 + 4 * ((set - 1) % 4) + w

/-- The OID of an XMSS or XMSS^MT parameter set (RFC 8391, SP 800-208). -/
def xmssOid (set d total : Nat) : Nat :=
  if d = 1 then
    let i := if total = 10 then 0 else if total = 16 then 1 else 2
    [0x01, 0x0D, 0x10, 0x13].getD (set - 1) 0 + i
  else
    let i := ([(20, 2), (20, 4), (40, 2), (40, 4), (40, 8), (60, 3), (60, 6), (60, 12)].findIdx? (· == (total, d))).getD 0
    [0x01, 0x21, 0x29, 0x31].getD (set - 1) 0 + i

/-! #### Working sets (R142, R143) -/

/-- The bottom subtree's leaves. -/
def subtree (h : Nat) : Nat := 2 ^ min h 10

/-- The checks every creation of a stateful slot makes (R136, R137, R143). -/
def stfCreateFails (s : State) (blocks : Nat) : List Status :=
  when_ (!persistAllowed (lcOf s)) .lifecycleState ++ when_ (4096 ≤ s.stf.keys.length) .vaultFull
    ++ when_ (freeBlocks s < blocks) .bufferSpace

/-- The custody of a new key. -/
def newStf (keyId : Bytes) (levels height wcode start stop : Nat) (group ready : Bool) : StfKey :=
  { keyId := keyId, levels := levels, height := height, wcode := wcode, rangeStart := start, rangeEnd := stop, reservedEnd := start,
    next := start, reserving := none, cap := none, group := group, granted := start, nextLease := 0, grants := [], leases := [],
    asking := none, reqNo := 0, lastRefused := false, lastUnreachable := false, lapsed := false, setReady := ready,
    builtTo := if ready then start + subtree height else start }

/-- A stateful slot's record: it is always persisted (R136). -/
def stfRecord (k : NewKey) (owner : Nat) : KeySlot := { k.record owner with persist := true }

/-! #### STF_KEYGEN (R133-R135, R139-R141, R157) -/

def hfUnit : Desc → List UnitKind := fun _ => [.hf]

def stfKeygenSpec : OpSpec :=
  { opcode := 0x0301, suites := isStf, param := stfKeygenParam, units := hfUnit
    uses := fun _ => { aux := true, out := true }
    late := fun s o i =>
      let suite := o.desc.suite
      let (l, h, _) := stfParams suite o.desc.param
      tmplLen o.desc.auxLen ++ stfCreateFails s (setBlocks (stfN (setOf suite)) l h)
        ++ createFails s o { templateAux s o i with flags := (templateAux s o i).flags ||| 1 } suite true false (stfPrivLen suite)
            (pubLenOf s.eng.info suite []) []
    outLen := fun s o _ => pubLenOf s.eng.info o.desc.suite []
    slot := fun _ o _ =>
      let (l, h, w) := stfParams o.desc.suite o.desc.param
      slotStfKeygen (setOf o.desc.suite) (List.replicate l (h, if famOf o.desc.suite = 5 then stfF100 w else 100))
    random := fun _ _ => true
    run := fun s o i =>
      let suite := o.desc.suite
      let set := setOf suite
      let n := stfN set
      let (l, h, w) := stfParams suite o.desc.param
      let (rnd, s) := freeBytes (16 + 3 * n) s
      let keyId := rnd.take 16
      let seed := slice rnd 16 n
      let root := algBytes .lmsPublic n [suite, l, h, w] [if famOf suite = 5 then rnd.take (16 + n) else rnd]
      let priv := if famOf suite = 5 then keyId ++ seed ++ beBytes 4 (lmsType set h) ++ beBytes 4 (lmotsType set w)
        else keyId ++ beBytes 4 (xmssOid set l (l * h)) ++ rnd.drop 16 ++ root
      let pub := if famOf suite = 5 then
          beBytes 4 l ++ beBytes 4 (lmsType set h) ++ beBytes 4 (lmotsType set w) ++ keyId ++ root
        else beBytes 4 (xmssOid set l (l * h)) ++ root ++ slice rnd (16 + 2 * n) n
      let t := templateAux s o i
      let group := bit t.dest destGroup
      let key : NewKey := { t := t, suite := suite, priv := priv, pub := pub, publicOnly := false }
      let stf := newStf keyId l h w 0 (2 ^ (l * h)) group true
      let stop := leBytes 8 (2 ^ (l * h))
      if !i.commitOk || !journalRoom s 1 then { st := s, fails := [.journalFailed] }
      else if group then { startGroupKey s o (stfRecord key o.inst) (some stf) ([0, 0, 0, 0] ++ stop) with out := pub }
      else match ordinaryNumber s.kv with
        | none => { st := s, fails := [.vaultFull] }
        | some m =>
          { st := takeSet m (setBlocks n l h) (updStf (fun x => { x with keys := put m stf x.keys }) (updKv (putSlot m (stfRecord key o.inst)) s))
            out := pub, opdata := leBytes 2 m ++ [0, 0] ++ stop, created := some m, effects := [.slotLive m, .stfLive m] } }

/-! #### Signatures (R133, R138, R140) -/

/-- The trees above the leaf of a global index: for a level, counted from the top, the number of its tree's leaf among all leaves of the level
(R133): the bits of the index above the lower levels. -/
def levelPath (k : StfKey) (level idx : Nat) : Nat := idx / 2 ^ (k.height * (k.levels - 1 - level))

/-- The leaf within the tree at a level. -/
def levelIndex (k : StfKey) (level idx : Nat) : Nat := levelPath k level idx % 2 ^ k.height

/-- The public key of the tree at a level that a global index falls in, which the level above signs: it is fixed by the seed (R138). -/
def lmsTreeKey (suite : Nat) (k : StfKey) (priv : Bytes) (level idx : Nat) : Bytes :=
  let set := setOf suite
  beBytes 4 (lmsType set k.height) ++ beBytes 4 (lmotsType set k.wcode)
    ++ algBytes .lmsPublic (16 + stfN set) [suite, k.height, k.wcode, level, levelPath k level idx / 2 ^ k.height] [priv]

/-- The LMS signature of `m` by the one-time key of a level that a global index fixes (RFC 8554).  Its randomiser comes from the seed and the
index. -/
def lmsSign (suite : Nat) (k : StfKey) (priv : Bytes) (level idx : Nat) (m : Bytes) : Bytes :=
  let set := setOf suite
  let n := stfN set
  let at_ := [suite, k.height, k.wcode, level, levelPath k level idx]
  beBytes 4 (levelIndex k level idx) ++ beBytes 4 (lmotsType set k.wcode) ++ algBytes .lmsSignature (n + lmotsP n k.wcode * n) at_ [priv, m]
    ++ beBytes 4 (lmsType set k.height) ++ algBytes .lmsPath (k.height * n) at_ [priv]

/-- An HSS signature: every upper level signs the key of the tree below, and the bottom level the message (R138). -/
def hssSign (suite : Nat) (k : StfKey) (priv : Bytes) (idx : Nat) (m : Bytes) : Bytes :=
  beBytes 4 (k.levels - 1)
    ++ ((List.range (k.levels - 1)).map (fun j =>
        let below := lmsTreeKey suite k priv (j + 1) idx
        lmsSign suite k priv j idx below ++ below)).flatten
    ++ lmsSign suite k priv (k.levels - 1) idx m

/-- The root of the XMSS tree at a level that a global index falls in. -/
def xmssRoot (suite : Nat) (k : StfKey) (priv : Bytes) (level idx : Nat) : Bytes :=
  algBytes .lmsPublic (stfN (setOf suite)) [suite, k.levels, k.height, level, levelPath k level idx / 2 ^ k.height] [priv]

/-- One layer of an XMSS signature: the one-time signature of `m` and the path to the layer's root (RFC 8391). -/
def xmssLayer (suite : Nat) (k : StfKey) (priv : Bytes) (level idx : Nat) (m : Bytes) : Bytes :=
  let n := stfN (setOf suite)
  let at_ := [suite, k.levels, k.height, level, levelPath k level idx]
  algBytes .lmsSignature (xmssLen n * n) at_ [priv, m] ++ algBytes .lmsPath (k.height * n) at_ [priv]

/-- An XMSS or XMSS^MT signature: the index, r, the bottom layer's signature of the message and each upper layer's of the root below it. -/
def xmssSign (suite : Nat) (k : StfKey) (priv : Bytes) (idx : Nat) (m : Bytes) : Bytes :=
  let n := stfN (setOf suite)
  let r := algBytes .lmsSignature n [suite, idx] [priv]
  beBytes (if k.levels = 1 then 4 else ceilDiv (k.levels * k.height) 8) idx ++ r
    ++ xmssLayer suite k priv (k.levels - 1) idx (r ++ m)
    ++ ((List.range (k.levels - 1)).reverse.map (fun j => xmssLayer suite k priv j idx (xmssRoot suite k priv (j + 1) idx))).flatten

/-- What STF_SIGN writes (R140). -/
def stfSign (suite : Nat) (k : StfKey) (priv : Bytes) (idx : Nat) (m : Bytes) : Bytes :=
  if famOf suite = 5 then hssSign suite k priv idx m else xmssSign suite k priv idx m

/-! #### STF_SIGN (R139, R144-R147, R160) -/

def stfKeyNeed (suite : Nat) : KeyNeed := { suite := (· == suite), dest := some destHf, usage := some usageSign }

def stfPublicOnly (s : State) (o : Op) : List Status :=
  when_ (((keyOf s o o.desc.keyA).map (·.publicOnly)).getD false) .keyUsage

def stfSpecTarget (s : State) (o : Op) : Nat := (resolveKey s o o.desc.keyA).getD 0

/-- What a sign waits for at stage 5 (R143, R160): its working set and subtree, and for a group key a usable lease. -/
def stfReady (s : State) (o : Op) : Bool :=
  match stf? s (stfSpecTarget s o) with
  | none => true
  | some k => k.setReady && (k.next < k.builtTo || signLimit k ≤ k.next) && (!k.group || (usableLease s.beat k).isSome)

def stfSignSpec : OpSpec :=
  { opcode := 0x0302, suites := isStf, param := fun _ p => bits p 11 0 == 0, snoops := true, units := hfUnit
    uses := fun _ => { keyA := .required, inLen := true, inRef := true, out := true }
    late := fun s o _ =>
      keyFieldFails s o (stfKeyNeed o.desc.suite) o.desc.keyA ++ stfPublicOnly s o
        ++ when_ (match stf? s (stfSpecTarget s o) with | some k => !k.group && signLimit k ≤ k.next | none => false) .keyExhausted
    ready := stfReady
    outLen := fun s o _ => ((stf? s (stfSpecTarget s o)).map (stfSigLen o.desc.suite)).getD 0
    slot := fun s o _ =>
      let set := setOf o.desc.suite
      if famOf o.desc.suite = 5 then slotLmsSign set (((stf? s (stfSpecTarget s o)).map (·.wcode)).getD 0) (classOf o.desc)
      else slotXmssSign set (classOf o.desc)
    random := fun _ _ => true
    run := fun s o i =>
      let n := stfSpecTarget s o
      match stf? s n with
      | none => { st := s }
      | some k =>
        let (idx, k') := assignIndex (max 1 (setting s 0x050800 9 0)) k
        -- A lease used up gives way to the other one (R159).
        let k'' := if k'.group && signLimit k' ≤ k'.next then useNextLease k' else k'
        let s := wantLease n (updKey n (fun _ => k'') s)
        -- The one-time key waits for its reservation (R144).
        let s := if k.reservedEnd ≤ idx then updOp o.id (fun o => { o with waiting := true }) s else s
        { st := s
          out := stfSign o.desc.suite k (keyPriv s o o.desc.keyA) idx (inBytes s o i)
          opdata := leBytes 8 idx ++ leBytes 4 (min 0xFFFFFFFF (indicesLeft k')) } }

/-- The index a sign was assigned, which its completion reports. -/
def signIndex (o : Op) : Nat := field o.parked.opdata 0 8

/-- STF_SIGN, and REATTEST under a stateful key (11 R233). -/
def signing (o : Op) : Bool := o.desc.opcode == 0x0302 || o.desc.opcode == 0x0801

/-- Signs of a slot that wait for a reservation. -/
def waitingSigns (s : State) (n : Nat) : List Op :=
  s.ops.filter (fun o => o.waiting && signing o && (o.held.head?).map (·.1) == some n)

/-- RESERVATION_COMMIT: the RESERVED record commits, or cannot (R145, R146). -/
def reservationCommit (n : Nat) (ok : Bool) (s : State) : State :=
  match stf? s n with
  | none => s
  | some k =>
    match k.reserving with
    | none => s
    | some e =>
      if ok && journalRoom s 1 then
        let s := journal 2 n k.keyId e 0 0 s
        let s := updKey n (fun k => { k with reservedEnd := max k.reservedEnd e, reserving := none }) s
        let still := (waitingSigns s n).filter (fun o => e ≤ signIndex o)
        let s := { s with ops := s.ops.map (fun o =>
          if o.waiting && signing o && (o.held.head?).map (·.1) == some n && signIndex o < e then { o with waiting := false } else o) }
        if still.isEmpty then s else updKey n startReserve s
      else
        let s := updKey n (fun k => { k with reserving := none }) s
        let s := { s with ops := s.ops.map (fun o =>
          if o.waiting && signing o && (o.held.head?).map (·.1) == some n then
            { o with waiting := false, parked := { o.parked with status := .noReservation, verdict := .none, out := [] } }
          else o) }
        raise_ 160 n (updKv (fun v => { v with slots := adjust n (fun k => { k with state := .damaged }) v.slots }) s)

def execReservationCommit (slot : Nat) (ok : Bool) (s : State) : Host.Outcome State Fault Refusal := .next (reservationCommit slot ok s)

/-- WORKING_SET_FILL: fill jobs complete the working set, or the next subtree (R143, 06 R108). -/
def workingSetFill (n : Nat) (s : State) : State :=
  updKey n (fun k =>
    let sub := subtree k.height
    let goal := (k.next / sub + 2) * sub
    if !k.setReady then { k with setReady := true, builtTo := max k.builtTo goal }
    else if k.builtTo < goal then { k with builtTo := k.builtTo + sub } else k) s

def execWorkingSetFill (slot : Nat) (s : State) : Host.Outcome State Fault Refusal := .next (workingSetFill slot s)

/-! #### STF_VERIFY (R139, R140) -/

/-- The levels and the Winternitz code an HSS public key names in its own type fields (R140, 04 R72).  The slot takes its BASE from the top
level's code where the levels differ, counts levels within 1-8, and reads a type of no set by its place in the list of four (log 130). -/
def hssLevels (pub : Bytes) : Nat := min 8 (max 1 (beNat (pub.take 4)))
def hssCode (pub : Bytes) : Nat := (beNat (slice pub 8 4) - 1) % 4

/-- The layers an XMSS or XMSS^MT public key's OID names for its suite (RFC 8391, SP 800-208); an OID that names a parameter set of both
is taken as XMSS (log 42). -/
def xmssLayers (set : Nat) (pub : Bytes) : Nat :=
  let oid := beNat (pub.take 4)
  let one := [1, 1, 0x0D, 0x10, 0x13].getD set 1
  let many := [1, 1, 0x21, 0x29, 0x31].getD set 1
  if one ≤ oid ∧ oid < one + 3 then 1 else if many ≤ oid ∧ oid < many + 8 then [2, 4, 2, 4, 8, 3, 6, 12].getD (oid - many) 1 else 1

/-- The length of the LMS signature at the head of a string, as its own type fields say (R140). -/
def lmsLenAt (set : Nat) (b : Bytes) : Option Nat :=
  let n := stfN set
  let ots := beNat (slice b 4 4)
  if !rangeIn (lmotsType set 0) (lmotsType set 3) ots then none
  else
    let at_ := 8 + n + lmotsP n (ots - lmotsType set 0) * n
    let lms := beNat (slice b at_ 4)
    if !rangeIn (lmsType set 5) (lmsType set 25) lms then none
    else
      let len := at_ + 4 + 5 * (lms - lmsType set 5 + 1) * n
      if len ≤ b.length then some len else none

/-- `levels` LMS signatures, each but the last with the key of the tree below, and nothing after them. -/
def hssBodyOk (set : Nat) : Nat → Bytes → Bool
  | 0, b => lmsLenAt set b == some b.length
  | k + 1, b =>
    match lmsLenAt set b with
    | some len => len + 24 + stfN set ≤ b.length && hssBodyOk set k (b.drop (len + 24 + stfN set))
    | none => false

/-- A signature has the length of its parsed types (R140). -/
def stfLenOk (suite : Nat) (pub sig : Bytes) : Bool :=
  let set := setOf suite
  if famOf suite = 5 then
    let up := beNat (sig.take 4)
    4 ≤ sig.length && up + 1 == beNat (pub.take 4) && up < 8 && hssBodyOk set up (sig.drop 4)
  else xmssSets.any (fun p => xmssOid set p.2 p.1 == beNat (pub.take 4) && sig.length == xmssSigLen (stfN set) p.2 (p.1 / p.2))

def stfVerifySpec : OpSpec :=
  { opcode := 0x0303, suites := isStf, param := fun _ p => bits p 11 0 == 0, snoops := true, units := hfUnit
    uses := fun _ => { keyA := .optional, inLen := true, inRef := true, aux := true }
    late := fun s o _ =>
      keyFieldFails s o { suite := (· == o.desc.suite), dest := some destHf, usage := some usageVerify } o.desc.keyA
        ++ when_ (o.desc.auxLen = 0 || (o.desc.keyA = 0 && o.desc.inLen < pubLenOf s.eng.info o.desc.suite [])) .badLength
    msgFrom := fun s o _ => if o.desc.keyA = 0 then pubLenOf s.eng.info o.desc.suite [] else 0
    slot := fun s o i =>
      let suite := o.desc.suite
      let pub := if o.desc.keyA != 0 then keyPub s o o.desc.keyA else inBytes s o i
      let set := setOf suite
      if famOf suite = 5 then slotLmsVerify set (hssCode pub) (hssLevels pub) (classOf o.desc)
      else slotXmssVerify set (match stf? s (stfSpecTarget s o) with
        | some k => if o.desc.keyA = 0 then xmssLayers set pub else k.levels
        | none => xmssLayers set pub) (classOf o.desc)
    run := fun s o i =>
      let suite := o.desc.suite
      let n := pubLenOf s.eng.info suite []
      let pub := if o.desc.keyA != 0 then keyPub s o o.desc.keyA else (inBytes s o i).take n
      let msg := if o.desc.keyA != 0 then inBytes s o i else (inBytes s o i).drop n
      { st := s
        verdict := if stfLenOk suite pub (auxBytes s o i)
            && algBool (if famOf suite = 5 then .lmsVerify else .xmssVerify) [suite] [pub, msg, auxBytes s o i] then .valid else .invalid } }

/-! #### STF_SPLIT (R153-R155) -/

def splitNeed : KeyNeed := { suite := (· == 0x0103), dest := some destKv, usage := some usageWrap }

/-- Bytes 0x00-0x27 of a sealed range blob (R155). -/
def blobHeader (suite : Nat) (keyId : Bytes) (start stop : Nat) : Bytes :=
  leBytes 2 1 ++ leBytes 2 suite ++ leBytes 4 0 ++ fit 16 keyId ++ leBytes 8 start ++ leBytes 8 stop

def wrappedLen (suite : Nat) : Nat := 8 * ceilDiv (stfPrivLen suite) 8 + 8
def blobLen (suite : Nat) : Nat := 40 + 1568 + wrappedLen suite

/-- From the split's dispatch reservations on the donor are capped, the one in progress too (R153). -/
def capAt (first : Nat) (k : StfKey) : StfKey := { k with cap := some first, reserving := k.reserving.map (min first) }

def stfSplitSpec : OpSpec :=
  { opcode := 0x0304, suites := isStf, param := fun _ p => p == 0, units := hfUnit
    uses := fun d => { keyA := .required, keyB := .optional, inLen := true, inRef := true, aux := d.keyB = 0, out := d.keyB != 0 }
    late := fun s o i =>
      let suite := o.desc.suite
      let k := stf? s (stfSpecTarget s o)
      keyFieldFails s o (stfKeyNeed suite) o.desc.keyA ++ stfPublicOnly s o
        ++ keyFieldFails s o splitNeed o.desc.keyB
        ++ when_ (o.desc.inLen != 8) .badLength
        ++ when_ ((k.map (·.group)).getD false) .keyUsage
        ++ when_ (!persistAllowed (lcOf s)) .lifecycleState
        ++ (if o.desc.keyB = 0 then
              tmplLen o.desc.auxLen
                ++ stfCreateFails s (match k with | some k => setBlocks (stfN (setOf suite)) k.levels k.height | none => 0)
                ++ createFails s o { templateAux s o i with flags := (templateAux s o i).flags ||| 1 } suite true false (stfPrivLen suite)
                    (pubLenOf s.eng.info suite []) []
            else [])
    outLen := fun _ o _ => if o.desc.keyB = 0 then 0 else blobLen o.desc.suite
    slot := fun _ _ _ => slotStfSplit
    random := fun _ _ => true
    run := fun s o i =>
      let suite := o.desc.suite
      let n := stfSpecTarget s o
      match stf? s n with
      | none => { st := s }
      | some k =>
        let count := field (inBytes s o i) 0 8
        if count % 1024 != 0 || count < 1024 then { st := s, fails := [.invalidInput] }
        else if signLimit k - max k.reservedEnd k.next < count || signLimit k < count then { st := s, fails := [.keyExhausted] }
        else if !i.commitOk || !journalRoom s 2 then { st := s, fails := [.journalFailed] }
        else
          let first := signLimit k - count
          let s := updKey n (capAt first) s
          if o.desc.keyB != 0 then
            let (r, s) := freeBytes 32 s
            let pub := keyPub s o o.desc.keyB
            let ct := mlkemCipher 3 pub r
            let ss := mlkemSecret pub r
            let hdr := blobHeader suite k.keyId first (first + count)
            let kek := kmac ss hdr 32 "KLQ stateful range"
            { st := s, out := hdr ++ ct ++ wrapKey 0x0E05 kek (keyPriv s o o.desc.keyA)
              opdata := List.replicate 4 0 ++ leBytes 8 first, effects := [.stfSplit n first (first + count)] }
          else
            let t := templateAux s o i
            let key : NewKey := { t := t, suite := suite, priv := keyPriv s o o.desc.keyA, pub := keyPub s o o.desc.keyA, publicOnly := false }
            let stf := newStf k.keyId k.levels k.height k.wcode first (first + count) (bit t.dest destGroup) false
            if bit t.dest destGroup then
              -- The child is a group key (12 R269).
              let r := startGroupKey s o (stfRecord key o.inst) (some stf) ([0, 0, 0, 0] ++ leBytes 8 first)
              if r.fails.isEmpty then { r with effects := [.stfSplit n first (first + count)] } else { r with st := updKey n (fun _ => k) r.st }
            else match ordinaryNumber s.kv with
            | none => { st := updKey n (fun _ => k) s, fails := [.vaultFull] }
            | some m =>
              { st := takeSet m (setBlocks (stfN (setOf suite)) k.levels k.height)
                  (updStf (fun x => { x with keys := put m stf x.keys }) (updKv (putSlot m (stfRecord key o.inst)) s))
                opdata := leBytes 2 m ++ [0, 0] ++ leBytes 8 first, created := some m
                effects := [.stfSplit n first (first + count), .slotLive m, .stfLive m] } }

/-! #### STF_STATUS (R164) -/

/-- The 48-byte status record. -/
def stfStatus (s : State) (k : StfKey) : Bytes :=
  let deadline := match k.leases.head? with
    | some l => (match l.deadline with | some d => d - s.beat | none => 0)
    | none => 0
  let unconfirmed := k.leases.any (fun l => l.deadline.isNone)
  leBytes 8 k.next ++ leBytes 8 k.reservedEnd ++ leBytes 8 (signStart k) ++ leBytes 8 (if k.group then signLimit k else k.rangeEnd)
    ++ leBytes 8 (if k.group then deadline else 0)
    ++ leBytes 4 (ofBool k.group + 2 * ofBool unconfirmed + 4 * ofBool k.asking.isSome + 8 * ofBool k.lastRefused
        + 16 * ofBool k.lastUnreachable + 32 * ofBool k.setReady)
    ++ leBytes 4 (match k.leases with | _ :: l :: _ => (l.stop - l.start) / 1024 | _ => 0)

/-- STF_STATUS (R164); a slot that holds only a public key has no custody state to report: KEY_USAGE (log 145). -/
def stfStatusSpec : OpSpec :=
  { opcode := 0x0305, suites := isStf, param := fun _ p => p == 0, units := hfUnit
    uses := fun _ => { keyA := .required, out := true }
    late := fun s o _ =>
      keyFieldFails s o { suite := (· == o.desc.suite), dest := none, usage := none } o.desc.keyA ++ stfPublicOnly s o
    outLen := fun _ _ _ => 48
    slot := fun _ _ _ => slotStfStatus
    run := fun s o _ => { st := s, out := ((stf? s (stfSpecTarget s o)).map (stfStatus s)).getD [] } }

def execStfKeygen (op : Nat) (inp : OpInput) (s : State) : Host.Outcome State Fault Refusal := .next (dispatchAs stfKeygenSpec op inp s)
def execStfSign (op : Nat) (inp : OpInput) (s : State) : Host.Outcome State Fault Refusal := .next (dispatchAs stfSignSpec op inp s)
def execStfVerify (op : Nat) (inp : OpInput) (s : State) : Host.Outcome State Fault Refusal := .next (dispatchAs stfVerifySpec op inp s)
def execStfSplit (op : Nat) (inp : OpInput) (s : State) : Host.Outcome State Fault Refusal := .next (dispatchAs stfSplitSpec op inp s)
def execStfStatus (op : Nat) (inp : OpInput) (s : State) : Host.Outcome State Fault Refusal := .next (dispatchAs stfStatusSpec op inp s)

/-- LEASE_WAIT_EXPIRY: a sign that has waited LEASE_WAIT at stage 5 for a usable lease completes before dispatch (R160). -/
def leaseWaitExpiry (id : Nat) (s : State) : State :=
  match op? s id with
  | none => s
  | some o =>
    let n := stfSpecTarget s o
    match stf? s n with
    | none => s
    | some k =>
      if atStage5 s o && signing o && k.group && (usableLease s.beat k).isNone
          && o.since + beatsMs (max 1 (setting s 0x050800 23 16)) ≤ s.beat then
        endEarly o (if k.lapsed then .leaseExpired else .keyExhausted) [] s
      else s

def execLeaseWaitExpiry (op : Nat) (s : State) : Host.Outcome State Fault Refusal := .next (leaseWaitExpiry op s)

/-! #### Import of a sealed range blob (R156) -/

def importNeed : KeyNeed := { suite := (· == 0x0103), dest := some destKv, usage := some usageUnwrap }

/-- The parameters of an imported key.  Its private part names the heights of a level and not how many levels there are, nor whether an
OID is one of XMSS or of XMSS^MT: the model leaves that to an uninterpreted choice among those it allows (log 4). -/
def importedParams (suite : Nat) (plain : Bytes) : Nat × Nat × Nat :=
  if famOf suite = 5 then
    let n := stfN (setOf suite)
    let h := [5, 10, 15, 20, 25].getD ((beNat (slice plain (16 + n) 4) - 5) % 5) 0
    let w := (beNat (slice plain (20 + n) 4) - 1) % 4
    (algNat .lmsPublic [suite] [plain] % (min 8 (60 / h)) + 1, h, w)
  else
    let oid := beNat (slice plain 16 4)
    let fit := xmssSets.filter (fun p => xmssOid (setOf suite) p.2 p.1 == oid)
    let p := fit.getD (algNat .lmsPublic [suite] [plain] % max 1 fit.length) (10, 1)
    (p.2, p.1 / p.2, 0)

/-- The suite inside a private part: type codes of its set, or an OID of one of its parameter sets (R156). -/
def importedSuiteOk (suite : Nat) (plain : Bytes) : Bool :=
  let set := setOf suite
  let n := stfN set
  if famOf suite = 5 then
    rangeIn (lmsType set 5) (lmsType set 25) (beNat (slice plain (16 + n) 4)) && rangeIn (lmotsType set 0) (lmotsType set 3) (beNat (slice plain (20 + n) 4))
  else xmssSets.any (fun p => xmssOid set p.2 p.1 == beNat (slice plain 16 4))

/-- The public key of a stateful private part (R135, R140); the tree's root is the standard's. -/
def stfPublic (suite levels height wcode : Nat) (priv : Bytes) : Bytes :=
  let n := stfN (setOf suite)
  if famOf suite = 5 then
    beBytes 4 levels ++ slice priv (16 + n) 8 ++ slice priv 0 16
      ++ algBytes .lmsPublic n [suite, levels, height, wcode] [slice priv 0 (16 + n)]
  else slice priv 16 4 ++ slice priv (20 + 3 * n) n ++ slice priv (20 + 2 * n) n

/-- The key that wraps the private part of a sealed range blob (R155), as the holder of the ML-KEM-1024 slot finds it. -/
def sealedKek (s : State) (o : Op) (b : Bytes) : Bytes :=
  kmac (mlkemDecaps 3 (keyExpanded s o o.desc.keyA) (slice b 40 1568)) (b.take 40) 32 "KLQ stateful range"

/-- The blocks the working set of a sealed range blob's key takes: the device looks into the blob for its parameters (log 131); one it cannot
open takes none. -/
def sealedBlocks (s : State) (o : Op) (i : OpInput) : Nat :=
  let b := inBytes s o i
  let kek := sealedKek s o b
  if !unwrapOk 0x0E05 kek (b.drop 1608) then 0
  else
    let (l, h, _) := importedParams o.desc.suite (unwrapKey 0x0E05 kek (b.drop 1608))
    setBlocks (stfN (setOf o.desc.suite)) l h

def sealedImportFails (s : State) (o : Op) (i : OpInput) : List Status :=
  let suite := o.desc.suite
  keyFieldFails s o importNeed o.desc.keyA ++ when_ (((keyOf s o o.desc.keyA).map (·.publicOnly)).getD false) .keyUsage
    ++ tmplLen o.desc.auxLen ++ when_ (o.desc.inLen != blobLen suite) .badLength
    ++ stfCreateFails s (sealedBlocks s o i)
    ++ createFails s o { templateAux s o i with flags := (templateAux s o i).flags ||| 1 } suite true false (stfPrivLen suite)
        (pubLenOf s.eng.info suite []) []

def sealedImportRun (s : State) (o : Op) (i : OpInput) : Run :=
  let suite := o.desc.suite
  let b := inBytes s o i
  let hdr := b.take 40
  let kek := sealedKek s o b
  let w := b.drop 1608
  if !unwrapOk 0x0E05 kek w then { st := s, fails := [.wrapAuth] }
  else
    let plain := unwrapKey 0x0E05 kek w
    let (l, h, wc) := importedParams suite plain
    let start := field hdr 24 8
    let stop := field hdr 32 8
    if field hdr 0 2 != 1 || field hdr 2 2 != suite || field hdr 4 4 != 0 || plain.length != stfPrivLen suite
        || slice plain 0 16 != slice hdr 8 16 || !importedSuiteOk suite plain || 2 ^ (l * h) < stop || stop ≤ start then
      { st := s, fails := [.keyRejected] }
    else if !i.commitOk || !journalRoom s 2 then { st := s, fails := [.journalFailed] }
    else
      let t := templateAux s o i
      let key : NewKey := { t := t, suite := suite, priv := plain, pub := stfPublic suite l h wc plain, publicOnly := false }
      let r := stfRecord key o.inst
      let stf := newStf (slice plain 0 16) l h wc start stop (bit t.dest destGroup) false
      if bit t.dest destGroup then
        -- A group key (12 R269): the wrapping slot is retired with the commit.
        let g := startGroupKey s o r (some stf) [0, 0]
        if !g.fails.isEmpty then g
        else if o.desc.group then { g with staged := [.destroy (stfSpecTarget s o)] }
        else { g with effects := [.retire (stfSpecTarget s o)] }
      else match ordinaryNumber s.kv with
      | none => { st := s, fails := [.vaultFull] }
      | some m =>
        let s := takeSet m (setBlocks (stfN (setOf suite)) l h) (updStf (fun x => { x with keys := put m stf x.keys }) (updKv (putSlot m r) s))
        let es : List KvEffect := [.create m r, .persist m, .destroy (stfSpecTarget s o)]
        if o.desc.group then { st := s, opdata := leBytes 2 m, created := some m, staged := es }
        else { st := es.foldl (fun t e => applyKvState e t) s, opdata := leBytes 2 m, created := some m }

/-! #### The journal's compaction and scan (R150-R152; 15 R335) -/

/-- The CHECKPOINT of a live key: its range, and RESERVED_END or the granted end of a primary's group key. -/
def checkpoint (primary : Bool) (e : Nat × StfKey) : JRec :=
  { type := 7, slot := e.1, seq := 0, keyId := e.2.keyId, a := e.2.rangeStart, b := e.2.rangeEnd,
    c := if e.2.group && primary then e.2.granted else e.2.reservedEnd }

/-- What custody still holds of a group key that its CHECKPOINT does not say (log 132): at the primary its own reservation, the granted end and
the last lease number, and the leases held. -/
def groupRecords (primary : Bool) (self : Nat) (e : Nat × StfKey) : List JRec :=
  let k := e.2
  let rec_ (type a b c : Nat) : JRec := { type := type, slot := e.1, seq := 0, keyId := k.keyId, a := a, b := b, c := c }
  if !k.group then []
  else
    (if primary && k.rangeStart < k.reservedEnd then [rec_ 2 k.reservedEnd 0 0] else [])
      ++ (if k.nextLease = 0 then [] else [rec_ 5 k.granted self k.nextLease])
      ++ k.leases.map (fun l => rec_ 4 l.start l.stop l.number)

/-- The records a fresh half begins with: one CHECKPOINT for each live key, what custody still holds of group keys and roles, and a HALF_SWITCH. -/
def freshHalf (s : State) : List JRec :=
  let x := s.stf
  let live := x.keys.filter (fun e => ((slot? s.kv e.1).map (·.state)) != some .staged)
  let points := live.map (checkpoint (x.role == 2))
  let none_ : Bytes := List.replicate 16 0
  let role : List JRec := if x.role = 0 && x.epoch = 0 then []
    else [{ type := 9, slot := 0, seq := 0, keyId := none_, a := x.epoch, b := x.role, c := ofBool x.sole }]
  let all := points ++ live.flatMap (groupRecords (x.role == 2) ((selfMember s).getD 0)) ++ role
    ++ [{ type := 8, slot := 0, seq := 0, keyId := none_, a := points.length, b := 0, c := 0 }]
  all.zipIdx.map (fun e => { e.1 with seq := x.seq + 1 + e.2 })

/-- JOURNAL_COMPACTION, with VDD_CORE not below its warning threshold: with fewer than 4,200 free records the fresh half is written as far as its
HALF_SWITCH, which makes it active; once it is, the old half is erased.  A loss of power between the two leaves both halves (R152). -/
def journalCompaction (s : State) : State :=
  let x := s.stf
  if ((s.sup.supplies[0]?).map (·.warn)).getD false then s
  else if x.active = 0 && !x.half1.isEmpty then updStf (fun x => { x with half1 := [] }) s
  else if x.active != 0 && !x.half0.isEmpty then updStf (fun x => { x with half0 := [] }) s
  else if 4200 ≤ 16384 - (activeHalf x).length then s
  else
    let half := freshHalf s
    updStf (fun x =>
      if x.active = 0 then { x with half1 := half, active := 1, seq := x.seq + half.length }
      else { x with half0 := half, active := 0, seq := x.seq + half.length }) s

def execJournalCompaction (s : State) : Host.Outcome State Fault Refusal := .next (journalCompaction s)

/-- Records of a slot and KEY_ID after its last RETIRED one (R149). -/
def recordsOf (h : List JRec) (n : Nat) (keyId : Bytes) : List JRec :=
  let mine := h.filter (fun r => r.slot == n && r.keyId == keyId)
  if mine.any (·.type == 6) then [] else mine

def maxOf (l : List Nat) (d : Nat) : Nat := l.foldl max d
def minOf (l : List Nat) (d : Nat) : Nat := l.foldl min d

/-- A lease as a boot finds it: held, unconfirmed (R149, R161). -/
def bootLease (r : JRec) : LeaseHeld := { start := r.a, stop := r.b, number := r.c, deadline := none }

/-- A key's custody as the journal gives it (R150); none where no CREATED or CHECKPOINT record of the slot is left. -/
def scanKey (h : List JRec) (primary : Bool) (n : Nat) (k : StfKey) : Option StfKey :=
  let rs := recordsOf h n k.keyId
  let of (t : Nat) : List JRec := rs.filter (·.type == t)
  match (of 1 ++ of 7).head? with
  | none => none
  | some r =>
    let born := of 1 ++ of 7
    let group := k.group || (of 1).any (fun r => r.c % 2 == 1)
    let start := minOf (born.map (·.a)) r.a
    let stop := minOf (born.map (·.b) ++ (of 3).map (·.a)) r.b
    let reserved := maxOf ((of 2).map (·.a) ++ (if group && primary then [] else (of 7).map (·.c))) start
    let granted := maxOf ((of 5).map (·.a) ++ (if group && primary then (of 7).map (·.c) else [])) (max start k.granted)
    let leases := if group then ((of 4).map bootLease).filter (fun l => reserved < l.stop) else []
    let at_ := match leases.head? with | some l => max reserved l.start | none => reserved
    some { k with
      rangeStart := start, rangeEnd := stop, reservedEnd := at_, next := at_, reserving := none, cap := none, group := group, granted := granted
      nextLease := maxOf ((of 5).map (·.c)) k.nextLease, leases := leases, asking := none, setReady := false, builtTo := 0 }

/-- A key's custody where the journal alone speaks of it: its parameters are those of its private part. -/
def custodyOf (s : State) (n : Nat) : Option StfKey :=
  match slot? s.kv n with
  | some k =>
    if statefulPrivate k then
      let (l, h, w) := importedParams k.suite k.priv
      some (newStf (slice k.priv 0 16) l h w 0 (2 ^ (l * h)) (15360 ≤ n) false)
    else none
  | none => none

/-- The SEQ of a half's last HALF_SWITCH, and of its last record. -/
def switchSeq (h : List JRec) : Option Nat := ((h.filter (·.type == 8)).getLast?).map (·.seq)
def lastSeq (h : List JRec) : Nat := ((h.getLast?).map (·.seq)).getD 0

/-- The half that is active (R150): that of the higher valid HALF_SWITCH, else of the higher last SEQ. -/
def chooseHalf (h0 h1 : List JRec) : Nat :=
  match switchSeq h0, switchSeq h1 with
  | some a, some b => if a < b then 1 else 0
  | some _, none => 0
  | none, some _ => 1
  | none, none => if lastSeq h0 < lastSeq h1 then 1 else 0

/-- An unknown record exhausts the slot it names (15 R335): NEXT, and the granted end of a primary's group key, become RANGE_END. -/
def exhaust (primary : Bool) (k : StfKey) : StfKey :=
  { k with next := k.rangeEnd, reservedEnd := k.rangeEnd, granted := if k.group && primary then k.rangeEnd else k.granted }

/-- The role the ROLE record of the greatest epoch sets (R149, R150). -/
def scanRole (h : List JRec) (x : Stateful) : Stateful :=
  (h.filter (·.type == 9)).foldl (fun x r => if x.epoch ≤ r.a then { x with epoch := r.a, role := r.b, sole := r.c % 2 == 1 } else x) x

/-- The journal scan of every BOOT (R150): the active half is chosen and the other erased, and every key of its records gets its custody: NEXT
becomes RESERVED_END, the indices given up are counted (log 21), and the working sets are taken again (R143).  Of the records that cannot be
read, `bad` has the SEQ of those whose HDR decodes, `lost` of those whose HDR does not (15 R335). -/
def journalScan (bad lost : List Nat) (s : State) : State :=
  let readable (h : List JRec) : List JRec := h.filter (fun r => !bad.contains r.seq && !lost.contains r.seq)
  let active := chooseHalf (readable s.stf.half0) (readable s.stf.half1)
  let whole := if active = 0 then s.stf.half0 else s.stf.half1
  let h := readable whole
  let x := scanRole h { s.stf with active := active, half0 := if active = 0 then whole else [], half1 := if active = 0 then [] else whole }
  let primary := x.role == 2
  let unknown (n : Nat) : Bool := whole.any (fun r => lost.contains r.seq || bad.contains r.seq && r.slot == n)
  let named := ((x.keys.map (·.1)) ++ (h.filter (fun r => r.type == 1 || r.type == 7)).map (·.slot)).dedup
  let keys := named.filterMap (fun n =>
    ((lookup n x.keys).or (custodyOf s n)).bind (fun k =>
      (if unknown n then some (exhaust primary ((scanKey h primary n k).getD k)) else scanKey h primary n k).map (n, ·)))
  let gap (e : Nat × StfKey) : Nat := e.2.next - ((lookup e.1 x.keys).map (·.next)).getD e.2.next
  let sets := keys.filterMap (fun e => (slot? s.kv e.1).map (fun k => (e.1, keySet k.suite e.2)))
  updHf (fun c => { c with sets := sets }) (updStf (fun _ =>
    { x with
      keys := keys.foldl (fun l e => put e.1 e.2 l) [], skipped := (keys.map gap).sum % 2 ^ 64
      odd := sat 0xFFFF (h.filter (fun r => 0x0A ≤ r.type)).length }) s)

end Sys2Proof.Machine
end

