-- ==== Sys2Proof/Machine/Vault.lean ====
section
/-! DEFINITION. The key-vault opcodes of class 0x07 (12_key_vault R252-R268, R272). -/
namespace Sys2Proof.Machine

/-! #### Import (R252, R256, R261) -/

def importWrappedRun (s : State) (o : Op) (i : OpInput) : Run :=
  let w := inBytes s o i
  let ws := ((keyOf s o o.desc.keyA).map (·.suite)).getD 0
  let kek := keyPriv s o o.desc.keyA
  if !unwrapOk ws kek w then { st := s, fails := [.wrapAuth] }
  else
    let plain := unwrapKey ws kek w
    let suite := o.desc.suite
    match privFails s.eng.info suite plain with
    | [] => createNow s o i
        { t := templateAux s o i, suite := suite, priv := plain, pub := derivePub s.eng.info suite plain, publicOnly := false,
          hqcRev := if famOf suite = 8 then s.eng.info.hqcSpec else 0 }
    | fs => { st := s, fails := fs }

/-- Lengths a wrapped key of a suite occupies in the arena, as its checks count them before it is unwrapped. -/
def wrappedPlainLen (e : EngineInfo) (suite inLen : Nat) : Nat :=
  match famOf suite with
  | 1 => 64 | 2 => 32 | 4 => 4 * slhN (setOf suite) | 7 => cmPrivLen (setOf suite) | 8 => hqcPrivLen e (setOf suite)
  | 9 | 10 => ecPrivLen suite
  | _ => inLen - 8

/-- A wrapped HQC key whose length no private key of its set can have (08 R169).  A length that AES-KWP alone shows to be wrong, within the
padding, is BAD_LENGTH too, at the slot (log 127). -/
def hqcWrapBad (s : State) (o : Op) : Bool :=
  famOf o.desc.suite == 8
    && o.desc.inLen != wrapLen (((keyOf s o o.desc.keyA).map (·.suite)).getD 0) (hqcPrivLen s.eng.info (setOf o.desc.suite))

def importWrappedSpec : OpSpec :=
  { opcode := 0x0701, suites := wrappedSuites, param := fun _ p => p == 0, units := kvUnits
    uses := fun _ => { keyA := .required, inLen := true, inRef := true, aux := true }
    late := fun s o i =>
      let suite := o.desc.suite
      if famOf suite = 5 || famOf suite = 6 then sealedImportFails s o i
      else
        keyFieldFails s o unwrapNeed o.desc.keyA ++ tmplLen o.desc.auxLen
          ++ when_ (o.desc.inLen < 16 || (o.desc.inLen % 8 != 0) || hqcWrapBad s o) .badLength
          ++ createFails s o (templateAux s o i) suite true false (wrappedPlainLen s.eng.info suite o.desc.inLen)
              (if famOf suite = 7 then 0 else if famOf suite = 11 then o.desc.inLen - 8 else pubLenOf s.eng.info suite []) []
    slot := fun _ _ _ => slotKv
    random := fun _ _ => true
    run := fun s o i =>
      if famOf o.desc.suite = 5 || famOf o.desc.suite = 6 then sealedImportRun s o i else importWrappedRun s o i }

/-- KEY_IMPORT_PUBLIC: lengths before dispatch, operand values at the slot (04 R83).  The table's "zero private key" has nothing to
match in a public key (log 43). -/
def importPublicSpec : OpSpec :=
  { opcode := 0x0702, suites := publicSuites, param := fun _ p => p == 0, units := kvUnits
    uses := fun _ => { inLen := true, inRef := true, aux := true }
    late := fun s o i =>
      let suite := o.desc.suite
      let k := inBytes s o i
      tmplLen o.desc.auxLen
        ++ when_ (o.desc.inLen != pubLenOf s.eng.info suite k) .badLength
        ++ createFails s o (templateAux s o i) suite false false 0 o.desc.inLen []
    slot := fun _ _ _ => slotKv
    run := fun s o i =>
      let suite := o.desc.suite
      let k := inBytes s o i
      match pubFails suite k with
      | [] => createNow s o i
          { t := templateAux s o i, suite := suite, priv := [], pub := k, publicOnly := true,
            hqcRev := if famOf suite = 8 then s.eng.info.hqcSpec else 0 }
      | fs => { st := s, fails := fs } }

/-! #### Generate and derive (R256-R258) -/

def generateSpec : OpSpec :=
  { opcode := 0x0703, suites := rangeIn 0x0E01 0x0E05, param := fun _ p => p == 0, units := kvUnits
    uses := fun _ => { aux := true }
    late := fun s o i =>
      tmplLen o.desc.auxLen ++ createFails s o (templateAux s o i) o.desc.suite true false 32 0 []
    slot := fun _ _ _ => slotKv
    random := fun _ _ => true
    run := fun s o i =>
      let (k, s) := freeBytes 32 s
      createNow s o i { t := templateAux s o i, suite := o.desc.suite, priv := k, pub := [], publicOnly := false } }

/-- X of R258: the stored SUITE, DEST and USAGE in template byte order, then the label. -/
def deriveInput (t : Template) (label : Bytes) : Bytes :=
  leBytes 2 t.suite ++ leBytes 2 t.dest ++ leBytes 4 t.usage ++ label

def deriveNeed : KeyNeed := { suite := (· == 0x0E02), dest := some destKv, usage := some usageDerive }

def deriveSpec : OpSpec :=
  { opcode := 0x0704, suites := (· == 0x0E02), param := fun _ p => p == 0, units := kvUnits
    uses := fun _ => { keyA := .optional, inLen := true, inRef := true, aux := true }
    late := fun s o i =>
      let t := templateIn s o i
      let suite := if t.suite = 0 then 0x0E02 else t.suite
      when_ (o.desc.keyA = 0 && o.inst != 0) .notPermitted
        ++ when_ (o.desc.keyA = 0 && !rootDeriveAllowed (lcOf s)) .lifecycleState
        ++ keyFieldFails s o deriveNeed o.desc.keyA
        ++ tmplLen o.desc.inLen ++ when_ (o.desc.auxLen = 0 || 255 < o.desc.auxLen) .badLength
        -- A suite outside 0x0E01-0x0E05 has no slot kind here, so its DEST and USAGE are held against none (R249).
        ++ (if rangeIn 0x0E01 0x0E05 suite then createFails s o { t with suite := 0 } suite true false 32 0 (keyRefs s o o.desc.keyA)
            else .keySuite :: when_ (t.reserved || t.newOwner != 0) .malformed ++ placeFails s o t suite true 32 0 (keyRefs s o o.desc.keyA))
    slot := fun _ _ _ => slotKv
    random := fun _ _ => true
    run := fun s o i =>
      let t := templateIn s o i
      let suite := if t.suite = 0 then 0x0E02 else t.suite
      let x := deriveInput { t with suite := suite } (auxBytes s o i)
      let root := o.desc.keyA = 0
      let key := if root then kmac (rootInForce s) x 32 "KLQ root derive" else kmac (keyPriv s o o.desc.keyA) x 32 "KLQ host derive"
      createNow s o i
        { t := t, suite := suite, priv := key, pub := [], publicOnly := false, fromRoot := root
          lineage := (match resolveKey s o o.desc.keyA with | some n => childLineage (viewOf s o) n | none => []) } }

/-! #### Export (R260) -/

def exportPlain (s : State) (o : Op) : Bytes := keyPriv s o o.desc.keyA

def exportWrappedSpec : OpSpec :=
  { opcode := 0x0705, suites := wrappedSuites, param := fun _ p => p == 0, units := kvUnits
    uses := fun _ => { keyA := .required, keyB := .required, out := true }
    late := fun s o _ =>
      let k := keyOf s o o.desc.keyA
      let ws := ((keyOf s o o.desc.keyB).map (·.suite)).getD 0
      let p := (exportPlain s o).length
      keyFieldFails s o { suite := (· == o.desc.suite), dest := none, usage := none, manage := true } o.desc.keyA
        ++ keyFieldFails s o { suite := fun x => x == 0x0E04 || x == 0x0E05, dest := some destKv, usage := some usageWrap } o.desc.keyB
        ++ when_ (match k with
            | some k => !bit k.usage usageExport || famOf k.suite = 5 || famOf k.suite = 6
            | none => false) .notExportable
        ++ when_ (resolveKey s o o.desc.keyA == resolveKey s o o.desc.keyB) .keyUsage
        ++ when_ (ws == 0x0E04 && (p % 8 != 0 || p < 16)) .badLength
    outLen := fun s o _ => wrapLen (((keyOf s o o.desc.keyB).map (·.suite)).getD 0) (exportPlain s o).length
    slot := fun _ _ _ => slotKv
    random := fun _ _ => true
    run := fun s o _ =>
      { st := s
        out := wrapKey (((keyOf s o o.desc.keyB).map (·.suite)).getD 0) (keyPriv s o o.desc.keyB) (exportPlain s o) } }

/-- KEY_EXPORT_PUBLIC: the legacy suites are accepted as 02 R499 has it, though R33 does not name the opcode among theirs (log 141). -/
def exportPublicSpec : OpSpec :=
  { opcode := 0x0706, suites := publicSuites, param := fun _ p => p == 0, units := kvUnits
    uses := fun _ => { keyA := .required, out := true }
    late := fun s o _ =>
      keyFieldFails s o { suite := (· == o.desc.suite), dest := none, usage := none, manage := true } o.desc.keyA
        ++ hqcFails s o
    outLen := fun s o _ => (keyPub s o o.desc.keyA).length
    slot := fun _ _ _ => slotKv
    run := fun s o _ => { st := s, out := keyPub s o o.desc.keyA } }

/-! #### Managing a slot (R255, R262-R266) -/

def manageNeed : KeyNeed := { suite := anySuite, dest := none, usage := none, manage := true }

/-- A template widens a slot (R255). -/
def widens (k : KeySlot) (t : Template) : Bool :=
  outside t.dest k.dest || outside t.usage k.usage || (bit t.flags 1 && !k.shared)

def setAttrSpec : OpSpec :=
  { opcode := 0x0707, suites := noSuite, param := fun _ p => p == 0, units := kvUnits
    uses := fun _ => { keyA := .required, inLen := true, inRef := true }
    late := fun s o i =>
      let t := templateIn s o i
      let k := keyOf s o o.desc.keyA
      when_ t.reserved .malformed ++ tmplLen o.desc.inLen ++ keyFieldFails s o manageNeed o.desc.keyA ++ hqcFails s o
        ++ when_ (match k with | some k => t.suite != 0 && t.suite != k.suite | none => false) .keySuite
        ++ when_ (match k with | some k => widens k t | none => false) .keyUsage
        ++ when_ (bit t.newOwner 15 && o.inst != 0) .keyUsage
    slot := fun _ _ _ => slotKv
    run := fun s o i =>
      let t := templateIn s o i
      match keyOf s o o.desc.keyA with
      | none => { st := s }
      | some k =>
        let k' := { k with
          dest := t.dest, usage := t.usage, shared := k.shared && bit t.flags 1, hostTag := t.hostTag
          owner := if bit t.newOwner 15 then bits t.newOwner 9 0 else k.owner }
        if k.persist && !i.commitOk then { st := s, fails := [.journalFailed] }
        else effectNow s o (.setAttr (target s o) k') }

def invalidateSpec : OpSpec :=
  { opcode := 0x0708, suites := noSuite, param := fun _ p => p == 0, units := kvUnits
    uses := fun _ => { keyA := .required }
    late := fun s o _ => keyFieldFails s o manageNeed o.desc.keyA ++ hqcFails s o
    slot := fun _ _ _ => slotKv
    run := fun s o _ =>
      let n := target s o
      { effectNow s o (.invalidate n) with opdata := leBytes 4 (min 0xFFFFFFFF (epoch (viewOf s o) n + 1)) } }

/-- KEY_PERSIST (R266): the ancestors must be persisted, and the blob must fit; a stateful slot is persisted already (07 R136). -/
def persistSpec : OpSpec :=
  { opcode := 0x0709, suites := noSuite, param := fun _ p => p == 0, units := kvUnits
    uses := fun _ => { keyA := .required }
    late := fun s o _ =>
      let v := viewOf s o
      keyFieldFails s o manageNeed o.desc.keyA ++ hqcFails s o
        ++ when_ (!persistAllowed (lcOf s)) .lifecycleState
        ++ when_ (match keyOf s o o.desc.keyA with
            | some k => k.lineage.any (fun a => (lookup a.1 v.blobs).isNone)
            | none => false) .keyUsage
        ++ when_ (match keyOf s o o.desc.keyA with
            | some k => (lookup (target s o) v.blobs).isNone && !(vaultFullFails s v 0 (some (blobGranules k))).isEmpty
            | none => false) .vaultFull
    slot := fun _ _ _ => slotPersist
    random := fun _ _ => true
    run := fun s o i =>
      let n := target s o
      match keyOf s o o.desc.keyA with
      | none => { st := s }
      | some k =>
        let held := leBytes 2 (((lookup n s.kv.blobs).map (·.granules)).getD (blobGranules k))
        if statefulPrivate k then { st := s, opdata := held }
        else if !i.commitOk then { st := s, fails := [.journalFailed] }
        else { effectNow s o (.persist n) with opdata := held } }

def destroySpec : OpSpec :=
  { opcode := 0x070A, suites := noSuite, param := fun _ p => p == 0, units := kvUnits
    uses := fun _ => { keyA := .required }
    late := fun s o _ => keyFieldFails s o { manageNeed with anyState := true } o.desc.keyA ++ hqcFails s o
    slot := fun _ _ _ => slotKv
    run := fun s o _ =>
      effectNow s o (.destroy (target s o)) }

/-! #### RANDOM (R252, R272) -/

def randomSpec : OpSpec :=
  { opcode := 0x070B, suites := (· == 0x0E06), param := fun _ p => p == 0, units := kvUnits
    uses := fun _ => { out := true }
    late := fun _ o _ => when_ (o.desc.outCap = 0 || 65536 < o.desc.outCap) .badLength
    slot := fun _ o _ => slotRandom (lengthClass (o.desc.inLen + o.desc.auxLen + o.desc.outCap))
    random := fun _ _ => true
    run := fun s o _ =>
      let (b, s) := freeBytes o.desc.outCap s
      { st := s, out := b } }

def execKeyImportWrapped (op : Nat) (inp : OpInput) (s : State) : Host.Outcome State Fault Refusal := .next (dispatchAs importWrappedSpec op inp s)
def execKeyImportPublic (op : Nat) (inp : OpInput) (s : State) : Host.Outcome State Fault Refusal := .next (dispatchAs importPublicSpec op inp s)
def execKeyGenerate (op : Nat) (inp : OpInput) (s : State) : Host.Outcome State Fault Refusal := .next (dispatchAs generateSpec op inp s)
def execKeyDerive (op : Nat) (inp : OpInput) (s : State) : Host.Outcome State Fault Refusal := .next (dispatchAs deriveSpec op inp s)
def execKeyExportWrapped (op : Nat) (inp : OpInput) (s : State) : Host.Outcome State Fault Refusal := .next (dispatchAs exportWrappedSpec op inp s)
def execKeyExportPublic (op : Nat) (inp : OpInput) (s : State) : Host.Outcome State Fault Refusal := .next (dispatchAs exportPublicSpec op inp s)
def execKeySetAttr (op : Nat) (inp : OpInput) (s : State) : Host.Outcome State Fault Refusal := .next (dispatchAs setAttrSpec op inp s)
def execKeyInvalidate (op : Nat) (inp : OpInput) (s : State) : Host.Outcome State Fault Refusal := .next (dispatchAs invalidateSpec op inp s)
def execKeyPersist (op : Nat) (inp : OpInput) (s : State) : Host.Outcome State Fault Refusal := .next (dispatchAs persistSpec op inp s)
def execKeyDestroy (op : Nat) (inp : OpInput) (s : State) : Host.Outcome State Fault Refusal := .next (dispatchAs destroySpec op inp s)
def execRandom (op : Nat) (inp : OpInput) (s : State) : Host.Outcome State Fault Refusal := .next (dispatchAs randomSpec op inp s)

/-! #### Damage, reload and reseed (R268, R272) -/

/-- SLOT_RELOAD: a persisted DAMAGED slot returns to LIVE from its blob (R268); a stateful slot's NEXT becomes RESERVED_END. -/
def slotReload (n : Nat) (s : State) : State :=
  match slot? s.kv n, lookup n s.kv.blobs with
  | some k, some b =>
    if k.state == .damaged && b.sound then
      raise_ 161 n (statefulSkip n (updKv (putSlot n { rebuilt s.eng.info b.slot with state := .live, owner := k.owner }) s))
    else s
  | _, _ => s

def execSlotReload (slot : Nat) (s : State) : Host.Outcome State Fault Refusal := .next (slotReload slot s)

/-- DRBG_RESEED of instance `k` (R272): it is due, after 65,536 requests or RESEED_MS, or it is not seeded; and a source is admitted. -/
def drbgReseed (k : Nat) (s : State) : State :=
  match s.kv.drbgs[k]? with
  | none => s
  | some d =>
    if rngOk s.kv && (!d.seeded || 65536 ≤ d.requests || d.lastReseed + beatsMs (setting s 0x090040 9 0) ≤ s.beat) then
      updKv (fun v => { v with drbgs := setAt v.drbgs k { seeded := true, requests := 0, lastReseed := s.beat } }) s
    else s

def execDrbgReseed (instance_ : Nat) (s : State) : Host.Outcome State Fault Refusal := .next (drbgReseed instance_ s)

end Sys2Proof.Machine
end

