-- ==== Sys2Proof/Machine/HashForest.lean ====
section
/-! DEFINITION. The hash forest's stateless class 0x02: SLH-DSA, the hypertree cache and RFC 4998 evidence trees (06_hash_forest). -/
namespace Sys2Proof.Machine

/-! #### Messages (R112, 05 R99-R102): shared with the lattice signatures -/

/-- The DER object identifier of a pre-hash (NIST hash functions arc). -/
def hashOid (code : Nat) : Bytes :=
  [0x06, 0x09, 0x60, 0x86, 0x48, 0x01, 0x65, 0x03, 0x04, 0x02,
    BitVec.ofNat 8 ([0, 0, 4, 1, 2, 3, 6, 8, 9, 10, 11, 12].getD code 0)]

/-- A hash of R30's encoding. -/
def hash (code : Nat) (m : Bytes) : Bytes := algBytes .hash (hashLen code) [code] [m]

/-- M′ of FIPS 204 and FIPS 205 (R112). -/
def framed (prehash : Bool) (code : Nat) (ctx m : Bytes) : Bytes :=
  if prehash then [1, BitVec.ofNat 8 ctx.length] ++ ctx ++ hashOid code ++ hash code m
  else [0, BitVec.ofNat 8 ctx.length] ++ ctx ++ m

/-- PREHASH and the hash code agree (R112). -/
def prehashOk (p : Nat) (codes : Nat → Bool) : Bool :=
  if bit p 2 then codes (pHash p) else pHash p == 0

/-! #### The cache (R120-R125) -/

/-- The pin of a key's second layer, from its dispatch on (log 144). -/
def pinOf (s : State) (n : Nat) : Option (Nat × Pin) := s.hf.pins.find? (fun e => e.2.slot == n && !e.2.closing)

/-- The second layer of a slot is pinned at this dispatch (R81). -/
def pinned (s : State) (n : Nat) : Bool := ((pinOf s n).map (·.2.live)).getD false

/-- A whole tree of the cache is dropped for an uncorrectable block (R125): a pinned tree, or a top entry. -/
def dropTree (slot : Nat) (tree : Option Nat) (s : State) : State :=
  updHf (fun h =>
    { h with
      drops := sat 0xFFFF (h.drops + 1)
      tops := if tree.isNone then del slot h.tops else h.tops
      pins := match tree with
        | some t => h.pins.map (fun e => if e.2.slot = slot then (e.1, { e.2 with present := e.2.present.filter (· != t) }) else e)
        | none => h.pins }) s

/-! #### SLH-DSA -/

def slhPubLen (set : Nat) : Nat := 2 * slhN set
def hfUnits : Desc → List UnitKind := fun _ => [.hf]

/-- Hash codes SLH_SIGN accepts for pre-hashing, by security category (R113). -/
def slhSignCodes (set : Nat) (code : Nat) : Bool :=
  if set ≤ 4 then rangeIn 3 11 code
  else if set ≤ 8 then [4, 5, 8, 9, 11].contains code
  else [5, 9, 11].contains code

/-- PARAM of SLH_SIGN (R31): DETERMINISTIC and PREHASH. -/
def slhSignParam (suite p : Nat) : Bool :=
  bits p 7 3 == 0 && !bit p 1 && prehashOk p (slhSignCodes (setOf suite))
def slhVerifyParam (_suite p : Nat) : Bool :=
  bits p 7 3 == 0 && !bit p 1 && !bit p 0 && prehashOk p hashPre

def signNeed (dest suite : Nat) : KeyNeed := { suite := (· == suite), dest := some dest, usage := some usageSign }
def verifyNeed (dest suite : Nat) : KeyNeed := { suite := (· == suite), dest := some dest, usage := some usageVerify }

/-- A private key is required and the slot holds only a public one (R111). -/
def publicOnlyFails (s : State) (o : Op) : List Status :=
  when_ (((keyOf s o o.desc.keyA).map (·.publicOnly)).getD false) .keyUsage

/-- A verification's public key: the slot's, or the head of the main input, `n` bytes. -/
def verifyKey (s : State) (o : Op) (i : OpInput) (n : Nat) : Bytes :=
  if o.desc.keyA != 0 then keyPub s o o.desc.keyA else (inBytes s o i).take n

/-- The message of a verification: after the transient key, where there is one. -/
def verifyMsg (s : State) (o : Op) (i : OpInput) (n : Nat) : Bytes :=
  if o.desc.keyA != 0 then inBytes s o i else (inBytes s o i).drop n

def verdictOf (b : Bool) : Verdict := if b then .valid else .invalid

/-- PK.root as a key's three seeds give it. -/
def slhRoot (set : Nat) (seeds : Bytes) : Bytes := algBytes .slhPublic (slhN set) [set] [seeds]

/-- The operation's unit has failed the check of its own result: it is eclipsed when it is done (R109, R116; 09 R182, R184). -/
def suspect (o : Op) (s : State) : State :=
  updOp o.id (fun x => { x with selfFault := some (if famOf o.desc.suite ≤ 6 then .hf else .ln) }) s

def slhKeygenSpec : OpSpec :=
  { opcode := 0x0201, suites := isSlh, param := fun _ p => p == 0, units := hfUnits
    uses := fun _ => { aux := true, out := true }
    late := fun s o i =>
      let n := slhN (setOf o.desc.suite)
      tmplLen o.desc.auxLen ++ createFails s o (templateAux s o i) o.desc.suite true false (4 * n) (2 * n) []
    outLen := fun _ o _ => slhPubLen (setOf o.desc.suite)
    slot := fun _ o _ => slotSlhUnpinned (setOf o.desc.suite) (classOf o.desc)
    random := fun _ _ => true
    run := fun s o i =>
      let set := setOf o.desc.suite
      let (seeds, s) := freeBytes (3 * slhN set) s
      let root := slhRoot set seeds
      let priv := seeds ++ root
      let r := createStaged s o i
        { t := templateAux s o i, suite := o.desc.suite, priv := priv, pub := slice priv (2 * slhN set) (2 * slhN set), publicOnly := false }
      { r with
        st := (r.created.map (fun n => takeTop n set r.st)).getD r.st
        out := slice priv (2 * slhN set) (2 * slhN set) } }

/-- What one SLH-DSA signature is (R112, R114): an uninterpreted function of the key, M′ and opt_rand. -/
def slhSign (set : Nat) (priv m' rand : Bytes) : Bytes := algBytes .slhSignature (slhSigLen set) [set] [priv, m', rand]

/-- The tree of layer d - 2 that a signature needs. -/
def slhTreeNo (set : Nat) (priv m' rand : Bytes) : Nat := algNat .slhSignature [set] [priv, m', rand] % slhLayerTrees set

/-- A pinned sign whose tree is not yet filled computes and stores it (R123). -/
def storeTree (n tree : Nat) (s : State) : State :=
  match pinOf s n with
  | some (k, p) =>
    if p.live && !p.present.contains tree then
      updHf (fun h => { h with pins := put k { p with present := p.present ++ [tree] } h.pins }) s
    else s
  | none => s

/-- An operation that consumes an uncorrectable block of the cache drops the whole tree that holds it, and fetched poison (R125). -/
def consumeTree (o : Op) (n : Nat) (tree : Option Nat) (s : State) : State :=
  updOp o.id (fun x => { x with poisonSeen := true }) (dropTree n tree s)

/-- The trees a sign finds uncorrectable: the key's top entry, and the pinned tree it needs. -/
def consumeTrees (o : Op) (i : OpInput) (n tree : Nat) (s : State) : State :=
  let s := if i.badTop && hasTop s n then consumeTree o n none s else s
  match pinOf s n with
  | some (_, p) => if i.badTree && p.present.contains tree then consumeTree o n (some tree) s else s
  | none => s

def slhSignSpec : OpSpec :=
  { opcode := 0x0202, suites := isSlh, param := slhSignParam, snoops := true, units := hfUnits
    uses := fun _ => { keyA := .required, inLen := true, inRef := true, aux := true, out := true }
    late := fun s o _ =>
      keyFieldFails s o (signNeed destHf o.desc.suite) o.desc.keyA ++ publicOnlyFails s o
        ++ when_ (255 < o.desc.auxLen) .badLength
    outLen := fun _ o _ => slhSigLen (setOf o.desc.suite)
    slot := fun s o _ =>
      let set := setOf o.desc.suite
      if pinned s (target s o) then slotSlhPinned set (classOf o.desc) else slotSlhUnpinned set (classOf o.desc)
    random := fun _ _ => true
    run := fun s o i =>
      let set := setOf o.desc.suite
      let n := target s o
      let priv := keyPriv s o o.desc.keyA
      let m' := framed (bit o.desc.param 2) (pHash o.desc.param) (auxBytes s o i) (inBytes s o i)
      let (r, s) := freeBytes (slhN set) s
      let rand := if bit o.desc.param 0 then slice priv (2 * slhN set) (slhN set) else r
      let tree := slhTreeNo set priv m' rand
      let s := consumeTrees o i n tree s
      -- Building the top-layer tree shows a key imported with inconsistent parts (R117).
      if !hasTop s n && slhRoot set (priv.take (3 * slhN set)) != slice priv (3 * slhN set) (slhN set) then
        { st := damageSlot n s, fails := [.keyRejected] }
      else
        let t := storeTree n tree (takeTop n set s)
        -- A signature that does not verify is withheld, and the sequencer is eclipsed (R116).
        if i.selfCheck != 0 then { st := suspect o t, fails := [.engineFault] }
        else { st := t, out := slhSign set priv m' rand } }

def slhVerifySpec : OpSpec :=
  { opcode := 0x0203, suites := isSlh, param := slhVerifyParam, snoops := true, units := hfUnits
    uses := fun _ => { keyA := .optional, inLen := true, inRef := true, aux := true }
    late := fun s o _ =>
      let set := setOf o.desc.suite
      keyFieldFails s o (verifyNeed destHf o.desc.suite) o.desc.keyA
        ++ when_ (o.desc.auxLen < slhSigLen set || slhSigLen set + 255 < o.desc.auxLen
            || (o.desc.keyA = 0 && o.desc.inLen < slhPubLen set)) .badLength
    msgFrom := fun _ o _ => if o.desc.keyA = 0 then slhPubLen (setOf o.desc.suite) else 0
    slot := fun _ o _ => slotSlhVerify (setOf o.desc.suite) (classOf o.desc)
    run := fun s o i =>
      let set := setOf o.desc.suite
      let a := auxBytes s o i
      let m' := framed (bit o.desc.param 2) (pHash o.desc.param) (a.drop (slhSigLen set)) (verifyMsg s o i (slhPubLen set))
      { st := s
        verdict := verdictOf (algBool .slhVerify [set] [verifyKey s o i (slhPubLen set), m', a.take (slhSigLen set)]) } }

/-- Blocks an SLH_PIN would take: the layer, and a top entry where the key has none (R122). -/
def pinBlocks (s : State) (n set : Nat) : Nat :=
  slhLayerTrees set * slhTreeBlocks set + (if hasTop s n then 0 else slhTreeBlocks set)

def pinMgmtOnly (s : State) (o : Op) : List Status := when_ (bit (regWord s 0x050200).toNat 14 && o.inst != 0) .notPermitted

/-- SLH_PIN and SLH_UNPIN act on the instance's own slot (R122). -/
def pinKeyFails (s : State) (o : Op) : List Status :=
  keyFieldFails s o (signNeed destHf o.desc.suite) o.desc.keyA ++ publicOnlyFails s o
    ++ when_ (match keyOf s o o.desc.keyA with | some k => k.owner != o.inst | none => false) .keyOwner

/-- SLH_PIN (R122): OPDATA counts the layer's blocks, without the top entry taken with it; a layer that an unpin has closed counts among the
64 while running signs hold it; a second pin before the first is released finds the layer pinned (log 144). -/
def slhPinSpec : OpSpec :=
  { opcode := 0x0204, suites := isSlh, param := fun _ p => p == 0, units := hfUnits
    uses := fun _ => { keyA := .required }
    late := fun s o _ =>
      let n := target s o
      let set := setOf o.desc.suite
      let p := pinBlocks s n set
      pinMgmtOnly s o ++ pinKeyFails s o
        ++ when_ ((pinOf s n).isNone &&
            (64 ≤ s.hf.pins.length || freeBlocks s < p
              || freeBlocks s - p < 16 * min 4096 (setting s 0x050200 12 0) - topBlocks s)) .bufferSpace
    slot := fun _ o _ => slotSlhUnpinned (setOf o.desc.suite) (classOf o.desc)
    random := fun _ _ => true
    run := fun s o _ =>
      let n := target s o
      let set := setOf o.desc.suite
      match pinOf s n with
      | some (k, p) => { st := s, opdata := leBytes 2 k ++ [0, 0] ++ leBytes 4 p.blocks }
      | none =>
        match firstFree 0 64 s.hf.pins with
        | none => { st := s, fails := [.bufferSpace] }
        | some k =>
          let blocks := slhLayerTrees set * slhTreeBlocks set
          let p : Pin := { slot := n, blocks := blocks, trees := slhLayerTrees set, present := [], live := false, closing := false, users := [] }
          { st := updHf (fun h => { h with pins := put k p h.pins }) (takeTop n set s)
            opdata := leBytes 2 k ++ [0, 0] ++ leBytes 4 blocks, effects := [.pin k] } }

/-- SLH_UNPIN (R124); of a key that is not pinned it ends with OK and does nothing (log 144). -/
def slhUnpinSpec : OpSpec :=
  { opcode := 0x0205, suites := isSlh, param := fun _ p => p == 0, units := hfUnits
    uses := fun _ => { keyA := .required }
    late := fun s o _ => pinMgmtOnly s o ++ pinKeyFails s o
    slot := fun _ _ _ => slotSlhUnpin
    run := fun s o _ =>
      match pinOf s (target s o) with
      | some (k, _) => { st := s, opdata := leBytes 2 k, effects := [.unpin k] }
      | none => { st := s } }

/-- FILL_JOB: the lowest missing tree of a pinned layer is filled (R123), while FILL_ENABLE is 1. -/
def fillJob (k : Nat) (s : State) : State :=
  match lookup k s.hf.pins with
  | none => s
  | some p =>
    if !p.live || p.closing || !bit (regWord s 0x050200).toNat 13 then s
    else match (List.range p.trees).find? (fun t => !p.present.contains t) with
      | none => s
      | some t => updHf (fun h => { h with pins := put k { p with present := p.present ++ [t] } h.pins }) s

def execFillJob (pin : Nat) (s : State) : Host.Outcome State Fault Refusal := .next (fillJob pin s)

/-! #### Evidence trees (R127-R132) -/

/-- d: the digest length of a family 0x10 suite, and its hash code. -/
def treeD (set : Nat) : Nat := if set = 1 ∨ set = 3 then 32 else 64
def treeHashCode (set : Nat) : Nat := [3, 5, 7, 9].getD (set - 1) 0

/-- H(min ‖ max) of two nodes as unsigned big-endian strings (R128). -/
def joinNodes (code : Nat) (a b : Bytes) : Bytes := if beNat a ≤ beNat b then hash code (a ++ b) else hash code (b ++ a)

/-- The next level: pairs joined, an odd last node carried unchanged. -/
def nextLevel (code : Nat) : List Bytes → List Bytes
  | a :: b :: rest => joinNodes code a b :: nextLevel code rest
  | l => l

/-- T = ⌈log2 N⌉. -/
def treeLevels (n : Nat) : Nat := if n ≤ 1 then 0 else (n - 1).log2 + 1

/-- Levels 1 to `t` above the given one. -/
def levelsAbove (code : Nat) : Nat → List Bytes → List (List Bytes)
  | 0, _ => []
  | t + 1, l => let u := nextLevel code l; u :: levelsAbove code t u

/-- The leaves of an input of `n` digests of `d` bytes. -/
def leavesOf (d n : Nat) (b : Bytes) : List Bytes := (List.range n).map (fun j => slice b (j * d) d)

/-- Node counts of levels 1 to `t`. -/
def levelCounts : Nat → Nat → List Nat
  | 0, _ => []
  | t + 1, n => let m := ceilDiv n 2; m :: levelCounts t m

def treeN (d : Desc) : Nat := d.inLen / treeD (setOf d.suite)

/-- N and IN_LEN as R127 requires. -/
def treeLenFails (d : Desc) : List Status :=
  let n := treeN d
  when_ (d.inLen % treeD (setOf d.suite) != 0 || n < 2 || 1048576 < n) .badLength

/-- The sizes of the levels that spill: above 1 MiB (R131). -/
def spilled (d : Desc) : List Nat :=
  ((levelCounts (treeLevels (treeN d)) (treeN d)).map (· * treeD (setOf d.suite))).filter (1048576 < ·)

def isTree (x : Nat) : Bool := rangeIn 0x1001 0x1004 x
def treeParam (_suite p : Nat) : Bool := bits p 15 1 == 0

/-- The level image (R129). -/
def levelImage (levels : List (List Bytes)) : Bytes := (levels.map List.flatten).flatten

/-- The banks a tree operation leases (R131). -/
def treeBanks (d : Desc) : Nat :=
  max 1 (ceilDiv (min (2 * ceilDiv (treeN d) 2 * treeD (setOf d.suite)) 2097152) 262144)

def treeBuildSpec : OpSpec :=
  { opcode := 0x0221, suites := isTree, param := treeParam, units := hfUnits, banks := fun d => some (treeBanks d)
    uses := fun _ => { inLen := true, inRef := true, out := true }
    late := fun _ o _ => treeLenFails o.desc ++ when_ (!bit o.desc.param 0 && !(spilled o.desc).isEmpty) .scratchSmall
    outLen := fun _ o _ => treeD (setOf o.desc.suite) * (levelCounts (treeLevels (treeN o.desc)) (treeN o.desc)).sum
    slot := fun _ o _ => slotTreeBuild (setOf o.desc.suite) (classOf o.desc)
    run := fun s o i =>
      let set := setOf o.desc.suite
      let n := treeN o.desc
      let t := treeLevels n
      { st := s
        out := levelImage (levelsAbove (treeHashCode set) t (leavesOf (treeD set) n (inBytes s o i)))
        opdata := leBytes 4 n ++ [BitVec.ofNat 8 t] } }

/-- The sibling of node `j` of a level, where it has one (R130). -/
def siblingOf (level : List Bytes) (j : Nat) : Option Bytes :=
  level[if j % 2 = 0 then j + 1 else j - 1]?

/-- One leaf's record (R130): LEAF_INDEX, MAP, the siblings at levels 0 to T - 1. -/
def reducedRecord (d t : Nat) (levels : List (List Bytes)) (leaf : Nat) : Bytes :=
  let sibs := levels.zipIdx.map (fun (l, j) => siblingOf l (leaf / 2 ^ j))
  let map := ((sibs.zipIdx.filter (fun e => e.1.isSome)).map (fun e => 2 ^ e.2)).sum + t * 2 ^ 24
  leBytes 4 leaf ++ leBytes 4 map ++ (sibs.map (fun x => x.getD (List.replicate d 0))).flatten

def reducedOut (code d n : Nat) (leaves : List Bytes) : Bytes :=
  let t := treeLevels n
  let above := levelsAbove code t leaves
  let levels := (leaves :: above).take t
  leBytes 4 n ++ [BitVec.ofNat 8 t, BitVec.ofNat 8 d] ++ leBytes 2 (8 + t * d) ++ List.replicate 8 0
    ++ ((above.getLast?).getD []).flatten ++ ((List.range n).map (reducedRecord d t levels)).flatten

def treeReducedSpec : OpSpec :=
  { opcode := 0x0222, suites := isTree, param := treeParam, units := hfUnits, banks := fun d => some (treeBanks d)
    uses := fun d => { inLen := true, inRef := true, out := true, aux := bit d.param 0, auxData := false }
    late := fun _ o _ =>
      treeLenFails o.desc ++ when_ ((!bit o.desc.param 0 && !(spilled o.desc).isEmpty) || o.desc.auxLen < (spilled o.desc).sum && bit o.desc.param 0) .scratchSmall
    outLen := fun _ o _ =>
      let d := treeD (setOf o.desc.suite)
      0x10 + d + treeN o.desc * (8 + treeLevels (treeN o.desc) * d)
    slot := fun _ o _ => slotTreeReduced (setOf o.desc.suite) (classOf o.desc)
    run := fun s o i =>
      let set := setOf o.desc.suite
      let n := treeN o.desc
      let body := reducedOut (treeHashCode set) (treeD set) n (leavesOf (treeD set) n (inBytes s o i))
      -- The scratch area is left undefined where a level spilled (R131).
      let buf := if refKind o.desc.auxRef = .buffer then some (bufHandle o.desc.auxRef) else none
      let area := match refKind o.desc.auxRef with
        | .flat => [(o.desc.auxRef, o.desc.auxLen)]
        | .scatter => o.auxPieces
        | .buffer => [(bufOffset o.desc.auxRef, o.desc.auxLen)]
        | _ => []
      if (spilled o.desc).isEmpty then { st := s, out := body }
      else
        let (junk, s) := freeBytes o.desc.auxLen s
        { st := (spread area junk).foldl (fun t p => writePiece (spaceOf s o.inst) { buf := buf, addr := p.1, data := p.2 } t) s
          out := body } }

def execSlhKeygen (op : Nat) (inp : OpInput) (s : State) : Host.Outcome State Fault Refusal := .next (dispatchAs slhKeygenSpec op inp s)
def execSlhSign (op : Nat) (inp : OpInput) (s : State) : Host.Outcome State Fault Refusal := .next (dispatchAs slhSignSpec op inp s)
def execSlhVerify (op : Nat) (inp : OpInput) (s : State) : Host.Outcome State Fault Refusal := .next (dispatchAs slhVerifySpec op inp s)
def execSlhPin (op : Nat) (inp : OpInput) (s : State) : Host.Outcome State Fault Refusal := .next (dispatchAs slhPinSpec op inp s)
def execSlhUnpin (op : Nat) (inp : OpInput) (s : State) : Host.Outcome State Fault Refusal := .next (dispatchAs slhUnpinSpec op inp s)
def execTreeBuild (op : Nat) (inp : OpInput) (s : State) : Host.Outcome State Fault Refusal := .next (dispatchAs treeBuildSpec op inp s)
def execTreeReduced (op : Nat) (inp : OpInput) (s : State) : Host.Outcome State Fault Refusal := .next (dispatchAs treeReducedSpec op inp s)

end Sys2Proof.Machine
end

