-- ==== Sys2Proof/Machine/Memory.lean ====
section
/-! DEFINITION. On-chip memory integrity: the scrubber, weak words, spare rows, the loss of a unit and fault injection
(15_memory R331-R348). -/
namespace Sys2Proof.Machine

def updMem (f : Fabric → Fabric) (s : State) : State := { s with mem := f s.mem }

/-! #### Checkers (R332) -/

def checkerOf (addr : Nat) : Nat := bits addr 31 23
def wordOf (addr : Nat) : Nat := bits addr 22 0
def isMram (ck : Nat) : Bool := rangeIn 264 279 ck

/-- The row of a word: 256 words of SRAM, 128 of MRAM. -/
def rowOf (addr : Nat) : Nat := wordOf addr / (if isMram (checkerOf addr) then 128 else 256)

/-- Spare rows of a unit, used and in all. -/
def spareRows (ck : Nat) : Nat := if isMram ck then 4 else if ck ≤ 263 then 2 else 0
def sparesUsed (s : State) (ck : Nat) : Nat := (s.mem.remaps.filter (·.1 == ck)).length

/-- The severity of losing a unit (R343, R346). -/
def lossSeverity (ck : Nat) : Nat := if ck ≤ 191 then 0 else if rangeIn 240 247 ck then 2 else 3

/-- A unit leaves use (R343): a free operand bank at once, a held one when it is returned; the control store's class and SAFE follow from the
message. -/
def withdrawUnit (ck : Nat) (s : State) : State :=
  let s := updMem (fun m => { m with lostUnits := if m.lostUnits.contains ck then m.lostUnits else m.lostUnits ++ [ck] }) s
  if ck < 128 then
    let s := updMem (fun m => { m with lost := if m.lost.contains ck then m.lost else m.lost ++ [ck] }) s
    if s.mem.leases.getD ck .withdrawn == .free then setLeases [ck] .withdrawn s else s
  else s

/-! #### Weak words and remaps (R341, R342) -/

/-- A hard fault in a word's row: remapped to a spare row, or the unit is lost. -/
def hardFault (addr : Nat) (s : State) : State :=
  let ck := checkerOf addr
  if sparesUsed s ck < spareRows ck then
    raise_ 96 ck (sendFault 0x110 3 1 addr (updMem (fun m => { m with remaps := m.remaps ++ [(ck, rowOf addr)] }) s))
  else raise_ 97 ck (sendFault 0x110 6 (lossSeverity ck) addr (withdrawUnit ck s))

/-- One access that an injection affects is made (R348). -/
def useInjection (ck : Nat) (s : State) : State :=
  updMem (fun m =>
    let less := m.injections.map (fun (x : Injection) => if x.checker = ck then { x with count := x.count - 1 } else x)
    { m with injections := less.filter (fun x => 0 < x.count) }) s

/-- The injection that meets a read, or a write, of a word. -/
def injectionFor (s : State) (addr : Nat) (onRead : Bool) : Option Injection :=
  s.mem.injections.find? (fun i => i.checker == checkerOf addr && i.onRead == onRead && (i.anyWord || i.word == wordOf addr))

def injectionAt (s : State) (addr : Nat) : Option Injection := injectionFor s addr true

/-- Every injected access sends an INJECTED message. -/
def spendInjection (i : Injection) (addr : Nat) (s : State) : State := sendFault 0x110 9 0 addr (useInjection i.checker s)

/-- The scrubber writes a word: an injection armed on writes meets it, and the bits stored are the next reads' (log 150). -/
def scrubWrite (addr : Nat) (s : State) : State :=
  match injectionFor s addr false with
  | some i => spendInjection i addr s
  | none => s

/-- What a correction does to the weak-word table; the list keeps the entry corrected longest ago first. -/
def countWeak (addr : Nat) (s : State) : State :=
  match s.mem.weak.find? (·.addr == addr) with
  | none =>
    let e : WeakWord := { addr := addr, rewritten := false, count := 1 }
    if s.mem.weak.length < 256 then updMem (fun m => { m with weak := m.weak ++ [e] }) s
    else raise_ 99 (checkerOf addr) (sendFault 0x110 8 0 addr (updMem (fun m => { m with weak := m.weak.drop 1 ++ [e] }) s))
  | some e =>
    let rest := s.mem.weak.filter (·.addr != addr)
    if e.rewritten then
      if 2 ≤ e.count + 1 then hardFault addr (updMem (fun m => { m with weak := rest }) s)
      else updMem (fun m => { m with weak := rest ++ [{ e with count := e.count + 1 }] }) s
    else if 4 ≤ e.count + 1 then
      scrubWrite addr (sendFault 0x110 2 0 addr (updMem (fun m => { m with weak := rest ++ [{ e with rewritten := true, count := 0 }] }) s))
    else updMem (fun m => { m with weak := rest ++ [{ e with count := e.count + 1 }] }) s

/-- A correction counts, and enters the weak-word table where it is real or its injection says so (R341, R348). -/
def noteCorrection (addr : Nat) (counts : Bool) (s : State) : State :=
  let s := updMem (fun m => { m with corrections := sat 0xFFFF (m.corrections + 1) }) s
  if counts then countWeak addr s else s

/-- A corrected word: one CORRECTED message for a checker in a millisecond (R346). -/
def countCorrected (addr : Nat) (counts : Bool) (s : State) : State :=
  let ck := checkerOf addr
  let due := match lookup ck s.mem.lastCorrected with
    | some t => decide (t + beatsMs 1 ≤ s.beat)
    | none => true
  let s := if due then sendFault 0x110 1 1 addr (updMem (fun m => { m with lastCorrected := put ck s.beat m.lastCorrected }) s) else s
  noteCorrection addr counts s

/-- Entry `k` of ring `n`'s prefetch cache has a poisoned word: it will not be consumed (R334). -/
def poisonEntry (n k : Nat) (s : State) : State :=
  updRing n (fun r => { r with cache := modAt r.cache k (fun c => { c with bad := true }) }) s

/-- The scrubber finds a word it cannot correct (R340): it is poison from then on; a key arena word, a cache word and a control-store word
act at once.  `slot` and `tree` say what an arena or cache word holds; for a word of the prefetch cache they are the ring and which of its
entries. -/
def uncorrectable (addr : Nat) (slot : Option Nat) (tree : Option Nat) (s : State) : State :=
  let ck := checkerOf addr
  -- A word on the bridge's data channel is no stored word: the bridge itself reports it (01 R12).
  if ck = 280 then sendFault 0x170 2 3 0 s else
  let s := scrubWrite addr (raise_ 98 ck (sendFault 0x110 4 0 addr (updMem (fun m => { m with lastUe := addr }) s)))
  if rangeIn 192 223 ck then (match slot with | some n => damageSlot n s | none => s)
  else if rangeIn 128 191 ck then (match slot with | some n => dropTree n tree s | none => s)
  else if rangeIn 240 247 ck then sendFault 0x110 5 2 addr s
  else if rangeIn 224 239 ck then (match slot, tree with | some n, some k => poisonEntry n k s | _, _ => s)
  else s

/-! #### The scrubber (R339) and armed injections (R347, R348) -/

/-- What a checker sees of a word: 0 clean, 1 corrected, 2 uncorrectable, 3 poison. -/
inductive Seen where
  | clean | corrected | uncorrectable | poison
  deriving DecidableEq, Repr

/-- The outcome a number names. -/
def seenOf (n : Nat) : Seen := match n with | 0 => .clean | 1 => .corrected | 2 => .uncorrectable | _ => .poison

/-- What inverting check bits shows (R331): of a clean word, one bit and two adjacent bits are corrected in SRAM, two bits in MRAM, and every
bit is poison; of a poisoned one, one bit is poison still, and every bit inverts the poison back.  With three bad bits and more the code may
answer anything, as it may where the word has errors of its own: `d` is free. -/
def maskSeen (mram : Bool) (mask : Nat) (own : Seen) (d : Nat) : Seen :=
  let full := mask == (if mram then 0xFFFF else 0xFF)
  match own, (List.range 16).filter (bit mask) with
  | own, [] => own
  | .clean, [_] => .corrected
  | .clean, [a, b] => if mram || b = a + 1 then .corrected else .uncorrectable
  | .clean, _ => if full then .poison else seenOf (d % 4)
  | .poison, [_] => .poison
  | .poison, _ => if full then .clean else seenOf (d % 4)
  | _, _ => seenOf (d % 4)

/-- SCRUB_READ of a word: `own` is what its stored bits decode to, `slot` and `tree` what an arena or cache word belongs to; `passEnd`
where it is the last of an SRAM pass that ends on time. -/
def scrubRead (addr : Nat) (own : Seen) (slot tree : Option Nat) (passEnd : Bool) (s : State) : State :=
  let (seen, counts, s) := match injectionAt s addr with
    | some i =>
      let (d, s) := draw s
      (maskSeen (isMram (checkerOf addr)) i.mask own (freeNat d), i.weak || own == Seen.corrected, spendInjection i addr s)
    | none => (own, true, s)
  let s := match seen with
    | .corrected => countCorrected addr counts s
    | .uncorrectable => uncorrectable addr slot tree s
    | .clean | .poison => s
  if passEnd then updMem (fun m => { m with passes := (m.passes + 1) % 65536, behind := false }) s else s

/-- What the memory fabric's own message about an operation's access says of its tables (R340, R341, R346, R348; log 150): a consumer's
correction counts, a consumed word is the last uncorrectable one found, and an injection has met one access more. -/
def memMessage (m : FaultMsg) (s : State) : State :=
  if m.source != 0x110 || 5 ≤ m.severity then s
  else match m.kind with
    | 1 => noteCorrection m.address true (updMem (fun x => { x with lastCorrected := put (checkerOf m.address) s.beat x.lastCorrected }) s)
    | 5 => updMem (fun x => { x with lastUe := m.address }) s
    | 9 => useInjection (checkerOf m.address) s
    | _ => s

/-- SCRUB_BEHIND: a pass has not ended within twice its period. -/
def scrubBehind (s : State) : State := if s.mem.behind then s else raise_ 100 0 (updMem (fun m => { m with behind := true }) s)

/-! #### FAULT_INJECT (R347, R348) -/

/-- The IN record of a management operation: its input is inline. -/
def inlineRecord (s : State) (o : Op) : Bytes := (operand s o o.desc.inRef o.desc.inLen []).1

def injectSpec : OpSpec :=
  { opcode := 0x0F0E, suites := noSuite, param := fun _ p => p == 0, uses := ringUses, units := fun _ => [], slot := fun _ _ _ => 0
    late := fun s o _ =>
      let b := inlineRecord s o
      let mode := field b 4 1
      let count := field b 5 1
      let ck := bits (field b 0 2) 8 0
      let allowed := s.glb.mode == .maintenance || (s.glb.mode == .service && bit (regWord s 0x0A0020).toNat 0)
      when_ (!allowed) .notPermitted ++ when_ (o.desc.inLen != 12) .badLength
        ++ when_ (bits (field b 0 2) 15 9 != 0 || 280 < ck || 2 < mode || (mode = 0) != (count = 0) || (!isMram ck && bits (field b 2 2) 15 8 != 0)
            || bits (field b 6 1) 7 2 != 0 || field b 7 1 != 0 || bits (field b 8 4) 31 23 != 0
            || (bit (field b 6 1) 1 && field b 8 4 != 0)) .malformed
    run := fun s o _ =>
      let b := inlineRecord s o
      let ck := bits (field b 0 2) 8 0
      let rest := s.mem.injections.filter (·.checker != ck)
      let new : Injection :=
        { checker := ck, mask := field b 2 2, onRead := field b 4 1 == 2, count := field b 5 1, weak := bit (field b 6 1) 0
          anyWord := bit (field b 6 1) 1, word := field b 8 4 }
      { st := updMem (fun m => { m with injections := if field b 4 1 = 0 then rest else rest ++ [new] }) s } }

/-- FAULT_INJECT with MODE 1 or 2, and with MODE 0. -/
def injectArmSpec : OpSpec := { injectSpec with ready := fun s o => field (inlineRecord s o) 4 1 != 0 }
def injectDisarmSpec : OpSpec := { injectSpec with ready := fun s o => field (inlineRecord s o) 4 1 == 0 }

def execScrubBehind (s : State) : Host.Outcome State Fault Refusal := .next (scrubBehind s)
def execFaultInjectArm (op : Nat) (inp : OpInput) (s : State) : Host.Outcome State Fault Refusal := .next (dispatchAs injectArmSpec op inp s)
def execFaultInjectDisarm (op : Nat) (inp : OpInput) (s : State) : Host.Outcome State Fault Refusal :=
  .next (dispatchAs injectDisarmSpec op inp s)

end Sys2Proof.Machine
end

