-- ==== Sys2Proof/Machine/Charter.lean ====
section
/-! DEFINITION. The group charter, roles and takeover, and the operations CHARTER_LOAD and GROUP_CONTROL (19_wyrum_groups R448-R453;
07_stateful_keys R162, R163). -/
namespace Sys2Proof.Machine

/-! #### The charter's bytes (R448) -/

def charterCount (b : Bytes) : Nat := field b 2 2
def charterLen (b : Bytes) : Nat := 7283 + 56 * charterCount b

def entryAt (b : Bytes) (i : Nat) : MemberEntry :=
  { number := field b (0xA60 + 56 * i) 2, uid := slice b (0xA60 + 56 * i + 8) 16, idHash := slice b (0xA60 + 56 * i + 24) 32 }

def parseCharter (b : Bytes) : Charter :=
  { seq := field b 4 4, groupId := slice b 8 16, primary := field b 0x18 2
    standby := if field b 0x1A 2 = 0xFFFF then none else some (field b 0x1A 2)
    takeoverMs := field b 0x1C 4, minSvn := field b 0x20 2, entries := (List.range (charterCount b)).map (entryAt b), raw := b }

def ascending : List Nat → Bool
  | a :: b :: l => a < b && ascending (b :: l)
  | _ => true

/-- What the format asks of the fields, and of the entries taken together. -/
def charterForm (b : Bytes) : Bool :=
  let c := parseCharter b
  let reserved (i : Nat) : Bool := isZero (slice b (0xA60 + 56 * i + 2) 6)
  field b 0 2 == 1 && 1 ≤ charterCount b && charterCount b ≤ 1024 && 1 ≤ c.seq && !isZero c.groupId
    && 100 ≤ c.takeoverMs && c.takeoverMs ≤ 600000 && isZero (slice b 0x22 30) && (List.range (charterCount b)).all reserved
    && ascending (c.entries.map (·.number)) && c.entries.all (·.number < 1024)
    && (c.entries.map (·.uid)).Nodup && (c.entries.map (·.idHash)).Nodup
    && c.entries.any (·.number == c.primary)
    && (match c.standby with
      | none => true
      | some x => x != c.primary && c.entries.any (·.number == x))

/-- The owner signed it (R449). -/
def charterSigned (s : State) (b : Bytes) : Bool :=
  let pk := slice b 0x40 2592
  let signed := 0xA60 + 56 * charterCount b
  ownerHash s.cus.otp == some (sha3_256 pk) && mldsa87Ok "KLQ charter" pk (b.take signed) (b.drop signed)

/-- It follows the charter in force (R449). -/
def charterFollows (cur c : Charter) : Bool :=
  c.groupId == cur.groupId && cur.seq < c.seq
    && cur.entries.all (fun e => c.entries.all (fun x => x.uid != e.uid || x.number == e.number))
    && (c.primary == cur.primary || some c.primary == cur.standby)

/-- The checks of R449; from a peer the rule on the device's own entry is left out (R451). -/
def charterOk (ownRule : Bool) (s : State) (b : Bytes) : Bool :=
  let c := parseCharter b
  b.length == charterLen b && charterForm b && charterSigned s b
    && (match s.grp.charter with
      | some cur => charterFollows cur c
      | none => !ownRule || c.entries.any (fun e => e.uid == s.cus.otp.uid))

/-! #### Roles (07 R162, R163) -/

/-- A ROLE record: 0 not in group, 1 satellite, 2 primary, 3 standby primary. -/
def setRole (role epoch : Nat) (sole : Bool) (s : State) : State :=
  let s := journal 9 0 (List.replicate 16 0) epoch role (ofBool sole) s
  updGrp (fun g => { g with epoch := epoch }) (updStf (fun x => { x with role := role, epoch := epoch, sole := sole }) s)

/-- Keys of the group whose indices the primary holds. -/
def groupKeys (s : State) : List (Nat × StfKey) := s.stf.keys.filter (·.2.group)

/-- The primary leaves SOLE once the charter's standby has mirrored every group key's granted end (R163). -/
def leaveSole (s : State) : State :=
  if isPrimary s && s.stf.sole && s.grp.standby.isSome && (groupKeys s).all (fun e => s.grp.mirrored.contains e.1) then
    setRole 2 s.grp.epoch false s
  else s

/-- A new standby gets one MIRROR for each group key, with its granted end (R450). -/
def mirrorAll (s : State) : State :=
  match s.grp.standby with
  | none => s
  | some b =>
    leaveSole ((groupKeys s).foldl (fun t e =>
      sendRouted b 0x64 2 (leaseBody e.2.keyId e.1 0 0 0 e.2.granted 0 t.grp.epoch 0 0) t) (updGrp (fun g => { g with mirrored := [] }) s))

/-- Takeover (R162): a ROLE record with the role epoch plus 1, role primary and SOLE. -/
def takeOver (s : State) : State :=
  match selfMember s with
  | none => s
  | some m =>
    let e := s.grp.epoch + 1
    let s := setRole 2 e true s
    raise_ 226 m (updGrp (fun g => { g with primary := m, standby := none, deafTo := some e, mirrored := [] }) s)

/-- TAKEOVER: nothing authenticated from the primary for the charter's takeover delay. -/
def takeoverDue (s : State) : Bool :=
  isStandby s && (match s.grp.charter with
    | some c => decide (((member? s s.grp.primary).map (·.heard)).getD 0 + beatsMs c.takeoverMs ≤ s.beat)
    | none => false)

def takeover (s : State) : State := if takeoverDue s then takeOver s else s

def execTakeover (s : State) : Host.Outcome State Fault Refusal := .next (takeover s)

/-- A role epoch from the charter's primary or standby primary that is above the highest seen: a primary steps down to satellite (R163). -/
def learnEpoch (src epoch : Nat) (s : State) : State :=
  match s.grp.charter with
  | none => s
  | some c =>
    if epoch ≤ s.grp.epoch || !(src == c.primary || some src == c.standby) then s
    else
      let sb := if some src = c.standby then none else c.standby
      let s := updGrp (fun g => { g with primary := src, standby := sb, epoch := epoch }) s
      if s.stf.role = 2 then setRole 1 epoch false s else updStf (fun x => { x with epoch := epoch }) s

/-! #### Leaving the group (R451) -/

/-- Removal: sessions closed, group-key replicas erased, leases abandoned, a ROLE record "not in group". -/
def leaveGroup (keepCharter : Bool) (s : State) : State :=
  let s := (List.range 4).foldl (fun t n => endSession n t) s
  let s := wipeSlots (fun n _ => 15360 ≤ n) s
  let s := updKv (fun v => { v with blobs := v.blobs.filter (·.1 < 15360) }) s
  let s := setRole 0 s.grp.epoch false s
  updGrp (fun g =>
    { g with
      charter := if keepCharter then g.charter else none, joined := false, joining := false, members := [], primary := 0x3FF, standby := none
      mirrored := [], incoming := [], numbers := [] }) s

/-! #### A charter comes into force (R449-R451) -/

/-- What is held about the members the charter names; a number that another device had before starts afresh. -/
def membersUnder (s : State) (c : Charter) : List (Nat × Member) :=
  (c.entries.filter (fun e => e.uid != s.cus.otp.uid)).map (fun e =>
    let same := (s.grp.charter.map (fun old => old.entries.contains e)).getD false
    let x := (if same then member? s e.number else none).getD { blankMember with routeless := some s.beat }
    (e.number, { x with nextAttest := if x.excluded then s.beat else x.nextAttest }))

/-- A restricted session whose peer the charter names is lifted; a peer it does not name has no session (R441). -/
def settlePeer (c : Charter) (n : Nat) (s : State) : State :=
  match s.ports[n]? with
  | none => s
  | some p =>
    if p.keys.isNone then s
    else match c.entries.find? (fun e => e.uid ++ e.idHash == p.peerUid) with
      | some e =>
        let s := updPort n (fun p => { p with state := .secure, peer := e.number }) s
        let before := routeTable s
        settleRoutes before (updMember e.number (fun x => { x with routes := x.routes.filter (·.1 != n) ++ [(n, 1, s.beat)] }) s)
      | none => if p.state == .restricted then s else endSession n s

/-- This device's role under a new charter (R450; 07 R162). -/
def settleRole (old : Option Charter) (c : Charter) (me : Nat) (s : State) : State :=
  let moved := (old.map (·.primary)) != some c.primary
  let s := updGrp (fun g =>
    let prim := if moved then c.primary else g.primary
    { g with primary := prim, standby := if c.standby = some prim then none else c.standby }) s
  let s :=
    if moved && me == c.primary && s.stf.role != 2 then
      updGrp (fun g => { g with standby := c.standby }) (takeOver s)
    else if s.stf.role == 2 then s
    else if some me = s.grp.standby then (if s.stf.role == 3 then s else setRole 3 s.grp.epoch false s)
    else if s.stf.role == 1 then s else setRole 1 s.grp.epoch false s
  if isPrimary s && ((old.bind (·.standby)) != c.standby || moved) then mirrorAll s else s

/-- A valid charter committed (R449). -/
def commitCharter (c : Charter) (s : State) : State :=
  let old := s.grp.charter
  let joined := s.grp.joined
  let ms := membersUnder s c
  let s := updGrp (fun g => { g with charter := some c, members := ms }) s
  match selfMember s with
  | none => leaveGroup true (raise_ 227 0x3FF s)
  | some me =>
    let s := raise_ 227 me s
    let s := (List.range 4).foldl (fun t n => settlePeer c n t) s
    let s := settleRole old c me s
    let s := if joined then (securePorts s).foldl (fun t n => sendCharter n t) s else s
    (List.range 4).foldl (fun t n => startHello n t) s

/-! #### CHARTER_LOAD and GROUP_CONTROL (R449, R453) -/

def groupLc (s : State) : List Status := when_ (!groupKeysAllowed (lcOf s)) .lifecycleState

def charterLoadSpec : OpSpec :=
  { opcode := 0x0F11, suites := noSuite, param := fun _ p => p == 0, units := fun _ => [], slot := fun _ _ _ => 0
    uses := fun _ => { inLen := true, inRef := true, inKinds := [.flat, .scatter] }
    late := fun s o i => groupLc s
      ++ when_ ((dataFails { inRef := true } s o i).isEmpty && o.desc.inLen != charterLen (inBytes s o i)) .badLength
    run := fun s o i =>
      let b := inBytes s o i
      if !(dataFails (ringUses o.desc) s o i).isEmpty || (s.grp.charter.map (·.raw)) = some b then { st := s }
      else if !charterOk true s b then { st := s, fails := [.charterInvalid] }
      else if !i.commitOk then { st := s, fails := [.journalFailed] }
      else { st := commitCharter (parseCharter b) s } }

def execCharterLoad (op : Nat) (inp : OpInput) (s : State) : Host.Outcome State Fault Refusal := .next (dispatchAs charterLoadSpec op inp s)

/-- The operation completes with OK for the group: JOIN is done. -/
def finishJoin (s : State) : State :=
  let s := updGrp (fun g => { g with joined := true, joining := false }) s
  s.im.waits.foldl (fun t w => match w.2 with | .joining _ => completeWait w.1 .ok [] t | _ => t) s

/-- Every live group key may have come: which key is the last the spec does not say, so it is a free value (log 28). -/
def tryJoin (s : State) : State :=
  let (d, t) := draw s
  if s.grp.joining && s.grp.incoming.isEmpty && freeNat d % 2 = 0 then finishJoin t else t

/-- GROUP_CONTROL's record: OP, SLOT, LEASE_NO. -/
def groupOp (s : State) (o : Op) : Nat := field (inlineRecord s o) 0 1

/-- An early end of a lease (07 R160): its indices are abandoned, and the primary is told. -/
def endLease (n number : Nat) (s : State) : State :=
  match stf? s n with
  | none => s
  | some k =>
    let s := endLeaseOf n number false s
    wantLease n
      (if isPrimary s then updKey n (fun k => { k with grants := k.grants.filter (fun g => !(g.number == number && some g.sat == selfMember s)) }) s
       else sendRouted s.grp.primary 0x68 2 (leaseBody k.keyId n ((selfMember s).getD 0x3FF) number 0 0 0 0 0 0) s)

def groupControlRun (s : State) (o : Op) : Run :=
  let b := inlineRecord s o
  let n := field b 2 2
  let number := field b 4 4
  match groupOp s o with
  | 1 =>
    let t := s.grp.members.foldl (fun t e => openRouted e.1 t) (updGrp (fun g => { g with joining := !g.joined }) s)
    if s.grp.joined then { st := s } else if isPrimary s then { st := finishJoin t } else { st := t, wait := some (.joining (s.beat + beatsS 10)) }
  | 2 => if isPrimary s || isStandby s then { st := s, fails := [.notPermitted] } else { st := leaveGroup false s }
  | 3 => if isStandby s then { st := takeOver s } else { st := s, fails := [.notPermitted] }
  | 4 =>
    if ((stf? s n).map (fun k => k.leases.any (·.number == number))).getD false then { st := endLease n number s }
    else { st := s, fails := [.keyEmpty] }
  | _ => { st := s, fails := [.malformed] }

def groupControlSpec : OpSpec :=
  { opcode := 0x0F12, suites := noSuite, param := fun _ p => p == 0, uses := ringUses, units := fun _ => [], slot := fun _ _ _ => 0
    late := fun s o _ =>
      let b := inlineRecord s o
      groupLc s ++ when_ (o.desc.inLen != 16) .badLength
        ++ when_ (groupOp s o = 0 || 4 < groupOp s o || field b 1 1 != 0 || field b 8 8 != 0) .malformed
        ++ when_ s.grp.charter.isNone .notInGroup
    run := fun s o _ => groupControlRun s o }

/-- The row of each OP; a reserved OP is refused the same way on all of them. -/
def groupRow (op : Nat) : OpSpec :=
  { groupControlSpec with ready := fun s o => groupOp s o == op || groupOp s o = 0 || 4 < groupOp s o }

def execGroupJoin (op : Nat) (inp : OpInput) (s : State) : Host.Outcome State Fault Refusal := .next (dispatchAs (groupRow 1) op inp s)
def execGroupLeave (op : Nat) (inp : OpInput) (s : State) : Host.Outcome State Fault Refusal := .next (dispatchAs (groupRow 2) op inp s)
def execTakePrimary (op : Nat) (inp : OpInput) (s : State) : Host.Outcome State Fault Refusal := .next (dispatchAs (groupRow 3) op inp s)
def execEndLease (op : Nat) (inp : OpInput) (s : State) : Host.Outcome State Fault Refusal := .next (dispatchAs (groupRow 4) op inp s)

/-- JOIN_TIMEOUT: JOIN completes with PRIMARY_UNREACHABLE; the device keeps trying (R453). -/
def joinTimeout (s : State) : State :=
  s.im.waits.foldl (fun t w =>
    match w.2 with
    | .joining d => if d ≤ s.beat then completeWait w.1 .primaryUnreachable [] t else t
    | _ => t) s

def execJoinTimeout (s : State) : Host.Outcome State Fault Refusal := .next (joinTimeout s)

/-! #### Charters from peers (R451, R452) -/

/-- The bytes of an assembly, in FRAG order. -/
def assembled (parts : List (Nat × Bytes)) (count : Nat) : Bytes := ((List.range count).map (fun i => (lookup i parts).getD [])).flatten

/-- An assembly discarded. -/
def dropAssembly (n : Nat) (s : State) : State := dropCount n 1 (updPort n (fun p => { p with assembly := none }) s)

def charterIn (n : Nat) (f : CharterFrag) (s : State) : State :=
  match s.ports[n]? with
  | none => s
  | some p =>
    if !(p.state == .secure || p.state == .restricted) then s
    else
      let a := p.assembly.getD { seq := f.seq, count := f.count, total := f.total, started := s.beat, parts := [] }
      if a.seq != f.seq || a.count != f.count || a.total != f.total || f.count = 0 || 9 < f.count || f.count ≤ f.frag then dropAssembly n s
      else
        let a := { a with parts := put f.frag (f.data.take 8000) a.parts }
        if (List.range a.count).all (fun i => (lookup i a.parts).isSome) then
          let b := assembled a.parts a.count
          if b.length ≠ a.total || a.total ≠ charterLen b then dropAssembly n s
          else
            let s := updPort n (fun p => { p with assembly := none }) s
            if (s.grp.charter.map (·.raw)) != some b && charterOk false s b then commitCharter (parseCharter b) s else s
        else updPort n (fun p => { p with assembly := some a }) s

def execCharter (port : Nat) (frag : CharterFrag) (s : State) : Host.Outcome State Fault Refusal := .next (charterIn port frag s)

def charterAssemblyTimeout (n : Nat) (s : State) : State :=
  match (s.ports[n]?).bind (·.assembly) with
  | some a => if a.started + beatsS 1 ≤ s.beat then dropAssembly n s else s
  | none => s

def execCharterAssemblyTimeout (port : Nat) (s : State) : Host.Outcome State Fault Refusal := .next (charterAssemblyTimeout port s)

end Sys2Proof.Machine
end

