-- ==== Sys2Proof/Machine/Lattice.lean ====
section
/-! DEFINITION. The lattice cluster's class 0x01: ML-KEM, ML-DSA and FN-DSA verification (05_lattice). -/
namespace Sys2Proof.Machine

def isMlkem (x : Nat) : Bool := rangeIn 0x0101 0x0103 x
def isMldsa (x : Nat) : Bool := rangeIn 0x0201 0x0203 x
def isFndsa (x : Nat) : Bool := rangeIn 0x0301 0x0302 x
def latUnits : Desc → List UnitKind := fun _ => [.lat]

/-! #### Key establishment, shared with the code cluster (R91-R93, 08 R169) -/

/-- The result of an encapsulation or decapsulation: `ct` first, then the secret, or with a template the secret in a new slot. -/
def secretOut (s : State) (o : Op) (i : OpInput) (ct ss : Bytes) (keyField : Nat) : Run :=
  if o.desc.auxLen = 0 then { st := s, out := ct ++ ss }
  else { createStaged s o i (secretKey s o (templateAux s o i) ss keyField) with out := ct }

/-- The template of a secret slot, where there is one (R91, 12 R251). -/
def secretFails (s : State) (o : Op) (i : OpInput) (ssLen keyField : Nat) : List Status :=
  if o.desc.auxLen = 0 then []
  else tmplLen o.desc.auxLen ++ createFails s o (templateAux s o i) 0x0E02 true true ssLen 0 (keyRefs s o keyField)

/-- Field use of an encapsulation: the key in a slot, or in the main input. -/
def encapsUses (d : Desc) : Uses :=
  { keyA := .optional, inLen := d.keyA = 0, inRef := d.keyA = 0, aux := true, out := true }

/-- Field use of a decapsulation: with a template no output (R92). -/
def decapsUses (d : Desc) : Uses := { keyA := .required, inLen := true, inRef := true, aux := true, out := d.auxLen = 0 }

def encapsNeed (dest suite : Nat) : KeyNeed := { suite := (· == suite), dest := some dest, usage := some usageEncaps }
def decapsNeed (dest suite : Nat) : KeyNeed := { suite := (· == suite), dest := some dest, usage := some usageDecaps }

/-- The public key an encapsulation uses. -/
def encapsKey (s : State) (o : Op) (i : OpInput) : Bytes := if o.desc.keyA != 0 then keyPub s o o.desc.keyA else inBytes s o i

/-! #### ML-KEM (R96-R98) -/

def kemKeygenSpec : OpSpec :=
  { opcode := 0x0101, suites := isMlkem, param := fun _ p => p == 0, units := latUnits
    uses := fun _ => { aux := true, out := true }
    late := fun s o i =>
      tmplLen o.desc.auxLen
        ++ createFails s o (templateAux s o i) o.desc.suite true false 64 (mlkemPubLen (setOf o.desc.suite)) []
    outLen := fun _ o _ => mlkemPubLen (setOf o.desc.suite)
    slot := fun _ o _ => slotMlkem (setOf o.desc.suite) 0
    random := fun _ _ => true
    run := fun s o i =>
      let (seed, s) := freeBytes 64 s
      let pub := derivePub s.eng.info o.desc.suite seed
      -- The modulus check of R96: no key the device generates fails it (`mlkemPublic_modulusOk`).
      match pubFails o.desc.suite pub with
      | [] =>
        { createStaged s o i { t := templateAux s o i, suite := o.desc.suite, priv := seed, pub := pub, publicOnly := false } with out := pub }
      | fs => { st := s, fails := fs } }

def kemEncapsSpec : OpSpec :=
  { opcode := 0x0102, suites := isMlkem, param := fun _ p => p == 0, units := latUnits, uses := encapsUses
    late := fun s o i =>
      keyFieldFails s o (encapsNeed destLat o.desc.suite) o.desc.keyA
        ++ when_ (o.desc.keyA = 0 && o.desc.inLen != mlkemPubLen (setOf o.desc.suite)) .badLength
        ++ secretFails s o i 32 o.desc.keyA
    outLen := fun _ o _ => mlkemCtLen (setOf o.desc.suite) + (if o.desc.auxLen = 0 then 32 else 0)
    slot := fun _ o _ => slotMlkem (setOf o.desc.suite) 1
    random := fun _ _ => true
    run := fun s o i =>
      let set := setOf o.desc.suite
      let ek := encapsKey s o i
      let (m, s) := freeBytes 32 s
      if o.desc.keyA = 0 && !mlkemModulusOk set ek then { st := s, fails := [.invalidInput] }
      else secretOut s o i (mlkemCipher set ek m) (mlkemSecret ek m) o.desc.keyA }

/-- KEM_DECAPS: no status depends on which of the two secrets is selected (R97, R98); a hash check that fails means corrupted arena contents
(R96). -/
def kemDecapsSpec : OpSpec :=
  { opcode := 0x0103, suites := isMlkem, param := fun _ p => p == 0, units := latUnits, uses := decapsUses
    late := fun s o i =>
      keyFieldFails s o (decapsNeed destLat o.desc.suite) o.desc.keyA ++ publicOnlyFails s o
        ++ when_ (o.desc.inLen != mlkemCtLen (setOf o.desc.suite)) .badLength
        ++ secretFails s o i 32 o.desc.keyA
    outLen := fun _ o _ => if o.desc.auxLen = 0 then 32 else 0
    slot := fun _ o _ => slotMlkem (setOf o.desc.suite) 2
    random := fun _ _ => true
    run := fun s o i =>
      let set := setOf o.desc.suite
      let dk := keyExpanded s o o.desc.keyA
      if !mlkemHashOk set dk then { st := damageSlot (target s o) s, fails := [.engineFault] }
      else secretOut s o i [] (mlkemDecaps set dk (inBytes s o i)) o.desc.keyA }

/-! #### ML-DSA (R99-R104) -/

/-- Hash codes MLDSA_SIGN accepts (R102). -/
def mldsaSignCodes (set code : Nat) : Bool :=
  if set = 1 then rangeIn 3 11 code else if set = 2 then [4, 5, 8, 9, 11].contains code else [5, 9, 11].contains code

def extMu (p : Nat) : Bool := bit p 1

/-- PARAM of the ML-DSA opcodes (02 R31; R95, R101). -/
def mldsaParam (codes : Nat → Bool) (sign : Bool) (p : Nat) : Bool :=
  bits p 7 3 == 0 && (sign || !bit p 0) && !(extMu p && bit p 2) && prehashOk p codes && (!extMu p || pMask p == 0)

def mldsaKeygenSpec : OpSpec :=
  { opcode := 0x0111, suites := isMldsa, param := fun _ p => p == 0, units := latUnits
    uses := fun _ => { aux := true, out := true }
    late := fun s o i =>
      tmplLen o.desc.auxLen
        ++ createFails s o (templateAux s o i) o.desc.suite true false 32 (mldsaPubLen (setOf o.desc.suite)) []
    outLen := fun _ o _ => mldsaPubLen (setOf o.desc.suite)
    slot := fun _ o _ => slotMldsaKeygen (setOf o.desc.suite)
    random := fun _ _ => true
    run := fun s o i =>
      let (seed, s) := freeBytes 32 s
      let pub := derivePub s.eng.info o.desc.suite seed
      { createStaged s o i { t := templateAux s o i, suite := o.desc.suite, priv := seed, pub := pub, publicOnly := false } with out := pub } }

/-- μ (R100): given, or formed over tr and M′. -/
def mldsaMu (p : Nat) (pub ctx m : Bytes) : Bytes :=
  if extMu p then m else algBytes .mldsaMu 64 [] [pub, framed (bit p 2) (pHash p) ctx m]

/-- A signature of μ (R99, R103): rnd is fresh, or 32 zero bytes. -/
def mldsaSign (set : Nat) (priv mu rnd : Bytes) : Bytes := algBytes .mldsaSignature (mldsaSigLen set) [set] [priv, mu, rnd]

def mldsaSignSpec : OpSpec :=
  { opcode := 0x0112, suites := isMldsa, param := fun x p => mldsaParam (mldsaSignCodes (setOf x)) true p, snoops := true, units := latUnits
    uses := fun d => { keyA := .required, inLen := true, inRef := true, aux := !extMu d.param, out := true }
    late := fun s o _ =>
      keyFieldFails s o (signNeed destLat o.desc.suite) o.desc.keyA ++ publicOnlyFails s o
        ++ when_ (255 < o.desc.auxLen || (extMu o.desc.param && o.desc.inLen != 64)) .badLength
    outLen := fun _ o _ => mldsaSigLen (setOf o.desc.suite)
    slot := fun _ o _ => slotMldsaSign (setOf o.desc.suite) (classOf o.desc)
    random := fun _ _ => true
    run := fun s o i =>
      let (r, s) := freeBytes 32 s
      let rnd := if bit o.desc.param 0 then List.replicate 32 0 else r
      { st := s
        out := mldsaSign (setOf o.desc.suite) (keyPriv s o o.desc.keyA)
          (mldsaMu o.desc.param (keyPub s o o.desc.keyA) (auxBytes s o i) (inBytes s o i)) rnd } }

def mldsaVerifySpec : OpSpec :=
  { opcode := 0x0113, suites := isMldsa, param := fun _ p => mldsaParam hashPre false p, snoops := true, units := latUnits
    uses := fun _ => { keyA := .optional, inLen := true, inRef := true, aux := true }
    late := fun s o _ =>
      let set := setOf o.desc.suite
      let ext := extMu o.desc.param
      let keyLen := if o.desc.keyA = 0 then mldsaPubLen set else 0
      keyFieldFails s o (verifyNeed destLat o.desc.suite) o.desc.keyA
        ++ when_ (o.desc.auxLen < mldsaSigLen set || mldsaSigLen set + (if ext then 0 else 255) < o.desc.auxLen
            || o.desc.inLen < keyLen || (ext && o.desc.inLen != keyLen + 64)) .badLength
    msgFrom := fun _ o _ => if o.desc.keyA = 0 then mldsaPubLen (setOf o.desc.suite) else 0
    slot := fun _ o _ => slotMldsaVerify (setOf o.desc.suite) (classOf o.desc)
    run := fun s o i =>
      let set := setOf o.desc.suite
      let a := auxBytes s o i
      let pub := verifyKey s o i (mldsaPubLen set)
      let mu := mldsaMu o.desc.param pub (a.drop (mldsaSigLen set)) (verifyMsg s o i (mldsaPubLen set))
      { st := s, verdict := verdictOf (algBool .mldsaVerify [set] [pub, mu, a.take (mldsaSigLen set)]) } }

/-! #### FN-DSA (R105, R106) -/

def fndsaVerifySpec : OpSpec :=
  { opcode := 0x0121, suites := isFndsa, offered := fun s => s.eng.info.fndsaSpec != 0, param := fun _ p => bits p 11 0 == 0, snoops := true, units := latUnits
    uses := fun _ => { keyA := .optional, inLen := true, inRef := true, aux := true }
    more := fun d =>
      when_ (bits d.param 15 12 != 0 && d.inLen ≤ (if d.keyA = 0 then fndsaPubLen (setOf d.suite) else 0)) .badParam
    late := fun s o i =>
      let set := setOf o.desc.suite
      let n := field (auxBytes s o i) 0 2
      let read := !(operand s o o.desc.auxRef o.desc.auxLen i.aux).2
      let ctxMax := if s.eng.info.fndsaCtx then 255 else 0
      keyFieldFails s o (verifyNeed destLat o.desc.suite) o.desc.keyA
        ++ when_ (o.desc.auxLen < 2 || (read && (n < 42 || fndsaMaxSig set < n || o.desc.auxLen < 2 + n || 2 + n + ctxMax < o.desc.auxLen))
            || (o.desc.keyA = 0 && o.desc.inLen < fndsaPubLen set)) .badLength
    msgFrom := fun _ o _ => if o.desc.keyA = 0 then fndsaPubLen (setOf o.desc.suite) else 0
    slot := fun _ o _ => slotFndsaVerify (setOf o.desc.suite) (classOf o.desc)
    run := fun s o i =>
      let set := setOf o.desc.suite
      let a := auxBytes s o i
      let n := field a 0 2
      let pub := verifyKey s o i (fndsaPubLen set)
      if !algBool .keyCheck [o.desc.suite] [pub] then { st := s, fails := [.invalidInput] }
      else
        { st := s
          verdict := verdictOf (algBool .fndsaVerify [set, s.eng.info.fndsaSpec]
            [pub, verifyMsg s o i (fndsaPubLen set), slice a 2 n, a.drop (2 + n)]) } }

def execKemKeygen (op : Nat) (inp : OpInput) (s : State) : Host.Outcome State Fault Refusal := .next (dispatchAs kemKeygenSpec op inp s)
def execKemEncaps (op : Nat) (inp : OpInput) (s : State) : Host.Outcome State Fault Refusal := .next (dispatchAs kemEncapsSpec op inp s)
def execKemDecaps (op : Nat) (inp : OpInput) (s : State) : Host.Outcome State Fault Refusal := .next (dispatchAs kemDecapsSpec op inp s)
def execMldsaKeygen (op : Nat) (inp : OpInput) (s : State) : Host.Outcome State Fault Refusal := .next (dispatchAs mldsaKeygenSpec op inp s)
def execMldsaSign (op : Nat) (inp : OpInput) (s : State) : Host.Outcome State Fault Refusal := .next (dispatchAs mldsaSignSpec op inp s)
def execMldsaVerify (op : Nat) (inp : OpInput) (s : State) : Host.Outcome State Fault Refusal := .next (dispatchAs mldsaVerifySpec op inp s)
def execFndsaVerify (op : Nat) (inp : OpInput) (s : State) : Host.Outcome State Fault Refusal := .next (dispatchAs fndsaVerifySpec op inp s)

end Sys2Proof.Machine
end

