-- ==== Sys2Proof/Machine/Code.lean ====
section
/-! DEFINITION. The code cluster's class 0x04: Classic McEliece and HQC (08_code_cluster). -/
namespace Sys2Proof.Machine

def isCm (x : Nat) : Bool := rangeIn 0x0701 0x070A x
def isHqc (x : Nat) : Bool := rangeIn 0x0801 0x0803 x
def codeUnits : Desc → List UnitKind := fun _ => [.code]

def cmN (set : Nat) : Nat := cmRow [3488, 4608, 6688, 6960, 8192] set

/-- The bits and bytes of one public-key row: n - mt bits, padded to whole bytes. -/
def cmRowBits (set : Nat) : Nat := cmN set - cmM set * cmT set
def cmRowBytes (set : Nat) : Nat := ceilDiv (cmRowBits set) 8

/-- Every padding bit of every row is zero (R174). -/
def cmPaddingOk (set : Nat) (k : Bytes) : Bool :=
  cmRowBits set % 8 == 0
    || (List.range (cmM set * cmT set)).all (fun r => (k.getD (r * cmRowBytes set + cmRowBytes set - 1) 0).toNat < 2 ^ (cmRowBits set % 8))

def cmKeygenSpec : OpSpec :=
  { opcode := 0x0401, suites := isCm, param := fun _ p => p == 0, units := fun _ => [.elim], banks := fun _ => some 8
    uses := fun _ => { aux := true, out := true }
    late := fun s o i =>
      tmplLen o.desc.auxLen
        ++ createFails s o (templateAux s o i) o.desc.suite true false (cmPrivLen (setOf o.desc.suite)) 0 []
    outLen := fun _ o _ => cmPubLen (setOf o.desc.suite)
    slot := fun _ o _ => slotCmKeygen (setOf o.desc.suite)
    random := fun _ _ => true
    run := fun s o i =>
      let set := setOf o.desc.suite
      let (seed, s) := freeBytes 32 s
      let priv := algBytes .keyCheck (cmPrivLen set) [o.desc.suite] [seed]
      { createStaged s o i { t := templateAux s o i, suite := o.desc.suite, priv := priv, pub := [], publicOnly := false } with
        out := algBytes .cmPublic (cmPubLen set) [set] [priv] } }

def cmEncapsSpec : OpSpec :=
  { opcode := 0x0402, suites := isCm, param := fun _ p => p == 0, units := codeUnits, banks := fun _ => some 1
    uses := fun _ => { inLen := true, inRef := true, aux := true, out := true }
    late := fun s o i => when_ (o.desc.inLen != cmPubLen (setOf o.desc.suite)) .badLength ++ secretFails s o i 32 0
    outLen := fun _ o _ => cmCtLen (setOf o.desc.suite) + (if o.desc.auxLen = 0 then 32 else 0)
    slot := fun _ o _ => slotCmEncaps (setOf o.desc.suite) (classOf o.desc) (refKind o.desc.inRef == .buffer)
    random := fun _ _ => true
    run := fun s o i =>
      let set := setOf o.desc.suite
      let pk := inBytes s o i
      let (e, s) := freeBytes 32 s
      if !cmPaddingOk set pk then { st := s, fails := [.invalidInput] }
      else secretOut s o i (algBytes .cmCiphertext (cmCtLen set) [set] [pk, e]) (algBytes .cmShared 32 [set] [pk, e]) 0 }

/-- The padding bits of a ciphertext's last byte are zero (R177): m·t bits, in set 6960119 fewer than its bytes hold. -/
def cmCtPaddingOk (set : Nat) (c : Bytes) : Bool :=
  let k := cmM set * cmT set % 8
  k == 0 || (c.getD (cmCtLen set - 1) 0).toNat < 2 ^ k

/-- Decapsulation (R177): both secrets are computed, and a masked select takes the rejection value where the padding bits are not zero or the
comparisons fail. -/
def cmDecaps (set : Nat) (priv c : Bytes) : Bytes :=
  select 32 (cmCtPaddingOk set c && algBool .cmShared [set] [priv, c]) (algBytes .cmShared 32 [set, 1] [priv, c])
    (algBytes .cmRejected 32 [set] [priv, c])

def cmDecapsSpec : OpSpec :=
  { opcode := 0x0403, suites := isCm, param := fun _ p => p == 0, units := codeUnits, banks := fun _ => some 1, uses := decapsUses
    late := fun s o i =>
      keyFieldFails s o (decapsNeed destCode o.desc.suite) o.desc.keyA
        ++ when_ (o.desc.inLen != cmCtLen (setOf o.desc.suite)) .badLength ++ secretFails s o i 32 o.desc.keyA
    outLen := fun _ o _ => if o.desc.auxLen = 0 then 32 else 0
    slot := fun _ o _ => slotCmDecaps (setOf o.desc.suite)
    random := fun _ _ => true
    run := fun s o i =>
      secretOut s o i [] (cmDecaps (setOf o.desc.suite) (keyPriv s o o.desc.keyA) (inBytes s o i)) o.desc.keyA }

/-! #### HQC (R178-R180) -/

/-- HQC is enabled. -/
def hqcOffered (s : State) : Bool := s.eng.info.hqcSpec != 0

def hqcKeygenSpec : OpSpec :=
  { opcode := 0x0411, suites := isHqc, offered := hqcOffered, param := fun _ p => p == 0, units := codeUnits, banks := fun _ => some 1
    uses := fun _ => { aux := true, out := true }
    late := fun s o i =>
      let set := setOf o.desc.suite
      hqcFails s o ++ tmplLen o.desc.auxLen
        ++ createFails s o (templateAux s o i) o.desc.suite true false (hqcPrivLen s.eng.info set) (hqcPubLen s.eng.info set) []
    outLen := fun s o _ => hqcPubLen s.eng.info (setOf o.desc.suite)
    slot := fun _ o _ => slotHqc (setOf o.desc.suite)
    random := fun _ _ => true
    run := fun s o i =>
      let e := s.eng.info
      let (priv, s) := freeBytes (hqcPrivLen e (setOf o.desc.suite)) s
      let pub := derivePub e o.desc.suite priv
      { createStaged s o i { t := templateAux s o i, suite := o.desc.suite, priv := priv, pub := pub, publicOnly := false, hqcRev := e.hqcSpec } with
        out := pub } }

def hqcEncapsSpec : OpSpec :=
  { opcode := 0x0412, suites := isHqc, offered := hqcOffered, param := fun _ p => p == 0, units := codeUnits, banks := fun _ => some 1, uses := encapsUses
    late := fun s o i =>
      let set := setOf o.desc.suite
      hqcFails s o ++ keyFieldFails s o (encapsNeed destCode o.desc.suite) o.desc.keyA
        ++ when_ (o.desc.keyA = 0 && o.desc.inLen != hqcPubLen s.eng.info set) .badLength
        ++ secretFails s o i (hqcSsLen s.eng.info set) o.desc.keyA
    outLen := fun s o _ =>
      hqcCtLen s.eng.info (setOf o.desc.suite) + (if o.desc.auxLen = 0 then hqcSsLen s.eng.info (setOf o.desc.suite) else 0)
    slot := fun _ o _ => slotHqc (setOf o.desc.suite)
    random := fun _ _ => true
    run := fun s o i =>
      let e := s.eng.info
      let set := setOf o.desc.suite
      let pk := encapsKey s o i
      let (m, s) := freeBytes 32 s
      secretOut s o i (algBytes .hqcCiphertext (hqcCtLen e set) [set, e.hqcSpec] [pk, m])
        (algBytes .hqcShared (hqcSsLen e set) [set, e.hqcSpec] [pk, m]) o.desc.keyA }

def hqcDecapsSpec : OpSpec :=
  { opcode := 0x0413, suites := isHqc, offered := hqcOffered, param := fun _ p => p == 0, units := codeUnits, banks := fun _ => some 1, uses := decapsUses
    late := fun s o i =>
      let set := setOf o.desc.suite
      hqcFails s o ++ keyFieldFails s o (decapsNeed destCode o.desc.suite) o.desc.keyA ++ publicOnlyFails s o
        ++ when_ (o.desc.inLen != hqcCtLen s.eng.info set) .badLength
        ++ secretFails s o i (hqcSsLen s.eng.info set) o.desc.keyA
    outLen := fun s o _ => if o.desc.auxLen = 0 then hqcSsLen s.eng.info (setOf o.desc.suite) else 0
    slot := fun _ o _ => slotHqc (setOf o.desc.suite)
    random := fun _ _ => true
    run := fun s o i =>
      let e := s.eng.info
      let set := setOf o.desc.suite
      secretOut s o i [] (algBytes .hqcShared (hqcSsLen e set) [set, e.hqcSpec, 1] [keyPriv s o o.desc.keyA, inBytes s o i]) o.desc.keyA }

def execCmKeygen (op : Nat) (inp : OpInput) (s : State) : Host.Outcome State Fault Refusal := .next (dispatchAs cmKeygenSpec op inp s)
def execCmEncaps (op : Nat) (inp : OpInput) (s : State) : Host.Outcome State Fault Refusal := .next (dispatchAs cmEncapsSpec op inp s)
def execCmDecaps (op : Nat) (inp : OpInput) (s : State) : Host.Outcome State Fault Refusal := .next (dispatchAs cmDecapsSpec op inp s)
def execHqcKeygen (op : Nat) (inp : OpInput) (s : State) : Host.Outcome State Fault Refusal := .next (dispatchAs hqcKeygenSpec op inp s)
def execHqcEncaps (op : Nat) (inp : OpInput) (s : State) : Host.Outcome State Fault Refusal := .next (dispatchAs hqcEncapsSpec op inp s)
def execHqcDecaps (op : Nat) (inp : OpInput) (s : State) : Host.Outcome State Fault Refusal := .next (dispatchAs hqcDecapsSpec op inp s)

end Sys2Proof.Machine
end

