-- ==== Sys2Proof/Machine/Fixity.lean ====
section
/-! DEFINITION. The fixity engine's class 0x06: streams, digests, the compare-only unit, MACs, AES-256-GCM and the yielding of lanes
(10_fixity R203-R227). -/
namespace Sys2Proof.Machine

def updFx (f : Fixity → Fixity) (s : State) : State := { s with fx := f s.fx }

def laneUnits : Desc → List UnitKind := fun _ => [.lane]
def gcmUnits : Desc → List UnitKind := fun _ => [.gcm]

/-! #### Streams (R207-R214) -/

def isDigest (x : Nat) : Bool := rangeIn 0x0D01 0x0D03 x

/-- PARAM of a stream or a digest: a mask under 0x0D01, 0 under the extendable outputs (R208). -/
def fxParam (suite p : Nat) : Bool := if suite = 0x0D01 then pMask p != 0 && bits p 11 0 == 0 else p == 0

/-- The handle a stream operation names. -/
def streamHandle (o : Op) : Nat := keySlot o.desc.keyA

def stream? (s : State) (h : Nat) : Option Stream := lookup h s.fx.streams

/-- KEY_A carries PRESENT 1, LOCAL 0 and the handle (R207). -/
def handleMore (d : Desc) : List Status := when_ (keyLocal d.keyA) .malformed

/-- The stream checks before dispatch (R208, R209, R213). -/
def streamFails (s : State) (o : Op) : List Status :=
  match stream? s (streamHandle o) with
  | none => [.streamState]
  | some x =>
    if x.owner != o.inst || x.closing then [.streamState]
    else when_ (x.suite != o.desc.suite) .badSuite ++ when_ (x.param != o.desc.param) .badParam ++ when_ x.failed .streamState

/-- The lowest free handle (DESIGN CHOICE, log 7). -/
def freeHandle (s : State) : Option Nat := firstFree 0 s.fx.limit s.fx.streams

def updStream (h : Nat) (f : Stream → Stream) (s : State) : State := updFx (fun x => { x with streams := adjust h f x.streams }) s
def dropStream (h : Nat) (s : State) : State := updFx (fun x => { x with streams := del h x.streams }) s

/-- No length is declared. -/
def noLength : Nat := 0xFFFFFFFFFFFFFFFF

def streamOpenSpec : OpSpec :=
  { opcode := 0x0601, suites := isDigest, param := fxParam, units := laneUnits
    uses := fun _ => { aux := true }
    late := fun s o i =>
      let d := field (auxBytes s o i) 0 8
      let read := !(operand s o o.desc.auxRef o.desc.auxLen i.aux).2
      when_ (o.desc.auxLen != 8 || (read && 2 ^ 61 ≤ d && d != noLength)) .badLength ++ when_ (freeHandle s).isNone .bufferSpace
    slot := fun _ _ _ => slotStreamOpen
    run := fun s o i =>
      match freeHandle s with
      | none => { st := s, fails := [.bufferSpace] }
      | some h =>
        let d := field (auxBytes s o i) 0 8
        let x : Stream :=
          { owner := o.inst, gen := o.gen, suite := o.desc.suite, param := o.desc.param
            declared := if d = noLength then none else some d, fed := 0,
            base := none, data := [], overrun := false, failed := false, closing := false }
        { st := updFx (fun f => { f with streams := put h x f.streams }) s, opdata := leBytes 2 h, effects := [.streamOpen h] } }

/-- How many of `n` bytes the stream still takes (R210). -/
def streamRoom (x : Stream) (n : Nat) : Nat :=
  if x.overrun then 0 else match x.declared with
    | some d => min n (d - x.fed)
    | none => n

/-- The stream once it has absorbed what it takes of some bytes. -/
def absorb (m : Bytes) (x : Stream) : Stream :=
  let k := streamRoom x m.length
  { x with fed := x.fed + k, data := x.data ++ m.take k, overrun := x.overrun || k < m.length }

def streamFeedSpec : OpSpec :=
  { opcode := 0x0602, suites := isDigest, param := fxParam, units := laneUnits
    uses := fun _ => { keyA := .required, inLen := true, inRef := true }
    more := handleMore
    late := fun s o _ => streamFails s o ++ when_ (o.desc.inLen = 0 || o.desc.inLen % 64 != 0) .badLength
    slot := fun _ o _ => slotFx (classOf o.desc)
    run := fun s o i =>
      match stream? s (streamHandle o) with
      | none => { st := s, fails := [.streamState] }
      | some x =>
        let y := absorb (inBytes s o i) x
        { st := updStream (streamHandle o) (fun _ => y) s, fails := when_ y.overrun .overrun, opdata := leBytes 8 y.fed
          onFail := failStream o } }

/-- The digests of a stream's bytes (R215): of all it absorbed, or from the state a blob restored. -/
def streamDigest (x : Stream) (cap : Nat) : Bytes :=
  match x.base with
  | none => if x.suite = 0x0D01 then maskOut x.param x.data else algBytes .shake cap [setOf x.suite] [x.data]
  | some b =>
    let from_ := leBytes 8 (x.fed - x.data.length)
    if x.suite = 0x0D01 then ((maskDigests x.param).map (fun h => algBytes .hash h.2 [h.1, 1] [b, from_, x.data])).flatten
    else algBytes .shake cap [setOf x.suite, 1] [b, from_, x.data]

/-- The output length of a digest (R215). -/
def digestLen (d : Desc) : Nat := if d.suite = 0x0D01 then maskLen d.param else d.outCap

/-- OUT_CAP of an extendable output is 1-65,536 (R215). -/
def xofCapFails (d : Desc) : List Status := when_ (d.suite != 0x0D01 && !rangeIn 1 65536 d.outCap) .badLength

/-- STREAM_TAIL compares where it names expected values (R216). -/
def tailCompares (d : Desc) : Bool := d.expRef != 0

def equalVerdict (b : Bool) : Verdict := if b then .equal else .notEqual

def streamTailSpec : OpSpec :=
  { opcode := 0x0603, suites := isDigest, param := fxParam, units := laneUnits
    uses := fun d =>
      { keyA := .required, inLen := true, inRef := true, out := !tailCompares d, expLen := if tailCompares d then maskLen d.param else 0 }
    more := fun d => handleMore d ++ when_ (tailCompares d && d.suite != 0x0D01) .badSuite
    late := fun s o _ => streamFails s o ++ (if tailCompares o.desc then [] else xofCapFails o.desc)
    outLen := fun _ o _ => if tailCompares o.desc then 0 else digestLen o.desc
    slot := fun _ o _ => slotFx (classOf o.desc)
    early := fun st o s =>
      match stream? s (streamHandle o) with
      | some x => if st = .streamState && x.failed && !x.closing && x.owner = o.inst then dropStream (streamHandle o) s else s
      | none => s
    run := fun s o i =>
      match stream? s (streamHandle o) with
      | none => { st := s, fails := [.streamState] }
      | some x =>
        let y := absorb (inBytes s o i) x
        let short := match y.declared with | some d => y.fed < d | none => false
        let st := updStream (streamHandle o) (fun _ => { y with closing := true }) s
        let opdata := leBytes 8 y.fed
        let cmp := tailCompares o.desc
        match when_ y.overrun .overrun ++ when_ (!y.overrun && short) .truncated with
        | [] =>
          let d := streamDigest y o.desc.outCap
          { st := st, opdata := opdata, out := if cmp then [] else d, onFail := failStream o
            verdict := if cmp then equalVerdict (d == expBytes s o i (maskLen o.desc.param)) else .none }
        | fs => { st := st, fails := fs, opdata := opdata, verdict := if cmp then .notEqual else .none, onFail := failStream o } }

/-! #### State blobs (R223, R224) -/

/-- The key of the blobs' tags: under the root in force. -/
def blobTag (s : State) (b : Bytes) : Bytes := kmac (internalKey (rootInForce s) "stream blob") b 16 "KLQ stream blob"

/-- The blob's hash states: (offset from 0x020, length, hash code, the mask bit that selects it). -/
def blobStates : List (Nat × Nat × Nat × Nat) := [(0, 32, 3, 12), (0x20, 64, 5, 13), (0x60, 200, 7, 14), (0x128, 200, 9, 15)]

def stateSelected (x : Stream) (maskBit : Nat) : Bool := if x.suite = 0x0D01 then bit x.param maskBit else maskBit == 14

/-- SHA-512 bytes not yet compressed, when FED mod 128 is 64: the last 64 bytes fed, or those of the blob while nothing has been fed since. -/
def sha512Rest (x : Stream) : Bytes :=
  if stateSelected x 13 && x.fed % 128 == 64 then
    (if x.data.length < 64 then slice (x.base.getD []) 0x1F0 64 else x.data.drop (x.data.length - 64))
  else List.replicate 64 0

/-- Bytes 0x020-0x24F of a stream's blob: those of the blob it was restored from while nothing has been fed since; otherwise the states
the bytes fed lead to from there, which depend on where in the stream they stand. -/
def streamStates (x : Stream) : Bytes :=
  match x.base, x.data with
  | some b, [] => b
  | _, _ =>
    let from_ := leBytes 8 (x.fed - x.data.length)
    (blobStates.map (fun e =>
      if stateSelected x e.2.2.2 then algBytes .streamState e.2.1 [x.suite, e.2.2.1] (x.base.toList ++ [from_, x.data])
      else List.replicate e.2.1 0)).flatten ++ sha512Rest x

/-- Bytes 0x000-0x24F. -/
def blobBody (x : Stream) : Bytes :=
  leBytes 2 1 ++ leBytes 2 x.suite ++ leBytes 2 x.param ++ leBytes 2 0 ++ leBytes 8 (x.declared.getD noLength) ++ leBytes 8 x.fed
    ++ leBytes 4 (ofBool x.overrun) ++ leBytes 4 0 ++ streamStates x

def streamSaveSpec : OpSpec :=
  { opcode := 0x0606, suites := isDigest, param := fxParam, units := laneUnits
    uses := fun _ => { keyA := .required, out := true }
    more := handleMore
    late := fun s o _ => streamFails s o
    outLen := fun _ _ _ => 608
    slot := fun _ _ _ => slotStreamSave
    run := fun s o _ =>
      match stream? s (streamHandle o) with
      | none => { st := s, fails := [.streamState] }
      | some x =>
        let b := blobBody x
        { st := s, out := b ++ blobTag s b, onFail := failStream o } }

/-- What R224 calls INVALID_INPUT: a reserved field or FED, an unselected field, or a stream the descriptor's SUITE and PARAM do not
name (log 10). -/
def blobBad (d : Desc) (b : Bytes) : Bool :=
  let suite := field b 2 2
  let param := field b 4 2
  let fed := field b 0x10 8
  let unselected := blobStates.any (fun e =>
    !(if suite = 0x0D01 then bit param e.2.2.2 else e.2.2.2 == 14) && !isZero (slice b (0x20 + e.1) e.2.1))
  field b 0 2 != 1 || field b 6 2 != 0 || bits (field b 0x18 4) 31 1 != 0 || field b 0x1C 4 != 0 || fed % 64 != 0
    || suite != d.suite || param != d.param || unselected
    || (!(suite = 0x0D01 && bit param 13 && fed % 128 == 64) && !isZero (slice b 0x210 64))

def streamRestoreSpec : OpSpec :=
  { opcode := 0x0607, suites := isDigest, param := fxParam, units := laneUnits
    uses := fun _ => { inLen := true, inRef := true }
    late := fun s o _ => when_ (o.desc.inLen != 608) .badLength ++ when_ (freeHandle s).isNone .bufferSpace
    slot := fun _ _ _ => slotStreamSave
    run := fun s o i =>
      let b := inBytes s o i
      let body := b.take 0x250
      if slice b 0x250 16 != blobTag s body then { st := s, fails := [.wrapAuth] }
      else if blobBad o.desc b then { st := s, fails := [.invalidInput] }
      else match freeHandle s with
        | none => { st := s, fails := [.bufferSpace] }
        | some h =>
          let d := field b 8 8
          let x : Stream :=
            { owner := o.inst, gen := o.gen, suite := o.desc.suite, param := o.desc.param
              declared := if d = noLength then none else some d
              fed := field b 0x10 8, base := some (slice b 0x20 0x230), data := [], overrun := bit (field b 0x18 4) 0
              failed := false, closing := false }
          { st := updFx (fun f => { f with streams := put h x f.streams }) s, opdata := leBytes 2 h, effects := [.streamOpen h] } }

/-! #### One-shot digests (R215-R217) -/

/-- The digest of one buffer. -/
def digestOf (d : Desc) (m : Bytes) : Bytes :=
  if d.suite = 0x0D01 then maskOut d.param m else algBytes .shake d.outCap [setOf d.suite] [m]

def digestSpec : OpSpec :=
  { opcode := 0x0604, suites := isDigest, param := fxParam, units := laneUnits
    uses := fun _ => { inLen := true, inRef := true, out := true }
    late := fun _ o _ => xofCapFails o.desc
    outLen := fun _ o _ => digestLen o.desc
    slot := fun _ o _ => slotFx (classOf o.desc)
    run := fun s o i => { st := s, out := digestOf o.desc (inBytes s o i) } }

def digestCompareSpec : OpSpec :=
  { opcode := 0x0605, suites := (· == 0x0D01), param := fxParam, units := laneUnits
    uses := fun d => { inLen := true, inRef := true, expLen := maskLen d.param }
    late := fun _ _ _ => []
    slot := fun _ o _ => slotFx (classOf o.desc)
    run := fun s o i =>
      { st := s, verdict := equalVerdict (digestOf o.desc (inBytes s o i) == expBytes s o i (maskLen o.desc.param)) } }

/-! #### MACs and AES-256-GCM (R225-R227) -/

def fxNeed (suite usage : Nat) : KeyNeed := { suite := (· == suite), dest := some destFx, usage := some usage }

def isMac (x : Nat) : Bool := x == 0x0E01 || x == 0x0E02

/-- HMAC takes a hash, KMAC256 none (R226). -/
def macParam (suite p : Nat) : Bool := if suite = 0x0E01 then hashAny (pHash p) && pOpt p == 0 && pMask p == 0 else p == 0

def macLen (d : Desc) : Nat := if d.suite = 0x0E01 then hashLen (pHash d.param) else 64

def macOf (s : State) (o : Op) (i : OpInput) : Bytes :=
  let k := keyPriv s o o.desc.keyA
  if o.desc.suite = 0x0E01 then algBytes .hmac (macLen o.desc) [pHash o.desc.param] [k, inBytes s o i]
  else algBytes .kmac 64 [] [k, inBytes s o i, auxBytes s o i]

def macLate (s : State) (o : Op) : List Status :=
  keyFieldFails s o (fxNeed o.desc.suite usageMac) o.desc.keyA ++ when_ (255 < o.desc.auxLen) .badLength

def macSpec : OpSpec :=
  { opcode := 0x0621, suites := isMac, param := macParam, units := laneUnits
    uses := fun d => { keyA := .required, inLen := true, inRef := true, aux := d.suite == 0x0E02, out := true }
    late := fun s o _ => macLate s o
    outLen := fun _ o _ => macLen o.desc
    slot := fun _ o _ => slotFx (classOf o.desc)
    random := fun _ _ => true
    run := fun s o i => { st := s, out := macOf s o i } }

def macCompareSpec : OpSpec :=
  { opcode := 0x0622, suites := isMac, param := macParam, units := laneUnits
    uses := fun d => { keyA := .required, inLen := true, inRef := true, aux := d.suite == 0x0E02, expLen := macLen d }
    late := fun s o _ => macLate s o
    slot := fun _ o _ => slotFx (classOf o.desc)
    random := fun _ _ => true
    run := fun s o i => { st := s, verdict := equalVerdict (macOf s o i == expBytes s o i (macLen o.desc)) } }

def gcmUses : Desc → Uses := fun _ => { keyA := .required, inLen := true, inRef := true, aux := true, out := true }
def gcmAuxFails (d : Desc) : List Status := when_ (!rangeIn 12 65536 d.auxLen) .badLength

def gcmEncryptSpec : OpSpec :=
  { opcode := 0x0611, suites := (· == 0x0E03), param := fun _ p => p == 0, units := gcmUnits, uses := gcmUses
    late := fun s o _ =>
      keyFieldFails s o (fxNeed 0x0E03 usageEncrypt) o.desc.keyA ++ gcmAuxFails o.desc ++ when_ (65520 < o.desc.inLen) .badLength
    outLen := fun _ o _ => o.desc.inLen + 16
    slot := fun _ o _ => slotGcm (classOf o.desc)
    random := fun _ _ => true
    run := fun s o i =>
      let k := keyPriv s o o.desc.keyA
      let a := auxBytes s o i
      let m := inBytes s o i
      { st := s
        out := algBytes .gcmCipher m.length [] [k, a.take 12, a.drop 12, m] ++ algBytes .gcmTag 16 [] [k, a.take 12, a.drop 12, m] } }

/-- GCM_DECRYPT uses an output only where its plaintext is not empty (R46, R225). -/
def gcmDecryptSpec : OpSpec :=
  { opcode := 0x0612, suites := (· == 0x0E03), param := fun _ p => p == 0, units := gcmUnits, uses := gcmUses
    late := fun s o _ =>
      keyFieldFails s o (fxNeed 0x0E03 usageDecrypt) o.desc.keyA ++ gcmAuxFails o.desc ++ when_ (!rangeIn 16 65536 o.desc.inLen) .badLength
    outLen := fun _ o _ => o.desc.inLen - 16
    slot := fun _ o _ => slotGcm (classOf o.desc)
    random := fun _ _ => true
    run := fun s o i =>
      let k := keyPriv s o o.desc.keyA
      let a := auxBytes s o i
      let m := inBytes s o i
      let c := m.take (m.length - 16)
      let p := algBytes .gcmPlain c.length [] [k, a.take 12, a.drop 12, c]
      -- The tag is that of the plaintext's encryption: it is compared over its full length.
      if m.drop (m.length - 16) == algBytes .gcmTag 16 [] [k, a.take 12, a.drop 12, p] then { st := s, out := p, verdict := .equal }
      else { st := s, verdict := .notEqual } }

/-! #### Yielding a lane (R221, R222) -/

/-- The opcodes whose operation can save its state: in its stream's own entry, or in a yield entry. -/
def ownEntry (opcode : Nat) : Bool := opcode == 0x0602 || opcode == 0x0603
def yieldEntry (opcode : Nat) : Bool := [0x0604, 0x0605, 0x0621, 0x0622].contains opcode

/-- Yield entries in use. -/
def yieldUsed (s : State) : Nat := (s.fx.yielded.filter (fun id => ((op? s id).map (fun o => yieldEntry o.desc.opcode)).getD false)).length

/-- The running operation that has held a general lane longest. -/
def longestHolder (s : State) : Option Op :=
  let general := 64 - min 16 (setting s 0x080040 4 0)
  (s.ops.filter (fun o => o.stage == .running && o.units.any (fun u => u.kind == .lane && u.num < general))).foldl
    (fun (best : Option Op) o => match best with
      | none => some o
      | some b => if o.since < b.since then some o else some b) none

/-- The saved state of an operation that keeps it in a yield entry (R222): where the lane stopped is open, so its bytes are free; those
of a MAC stand wrapped under the key drawn at BOOT (their lengths: log 133). -/
def saveState (o : Op) (s : State) : State :=
  if !yieldEntry o.desc.opcode then s
  else
    let keyed := isMac o.desc.suite
    let (st, s) := freeBytes (if !keyed then 560 else if o.desc.suite = 0x0E01 then 400 else 200) s
    updFx (fun f => { f with saved := put o.id (if keyed then wrapKey 0x0E04 s.kv.yieldKey st else st) f.saved }) s

/-- LANE_YIELD: operation `id` waits at stage 4 for a lane and none is free; the general lane held longest is given to it, where its
operation has held it for MIN_HOLD and can save its state.  A yield never changes a slot. -/
def laneYield (needs : State → Op → List UnitKind) (banks : Desc → Option Nat) (id given : Nat) (s : State) : State :=
  match op? s id, longestHolder s with
  | some o, some h =>
    let waits := o.stage == .energised && (needs s o).contains .lane && (unitFor s o.inst (snooped o.desc) [] .lane).isNone
    let hold := beatsUs (clip 10 1000 (setting s 0x080030 9 0))
    let room := ownEntry h.desc.opcode || (yieldEntry h.desc.opcode && yieldUsed s < s.fx.yieldEntries)
    if waits && h.since + hold ≤ s.beat && room then
      let t := leaseNow needs banks id given (updOp h.id (fun o => { o with units := [], waiting := true }) s)
      -- The freed lane is the waiting operation's; without it the yield is not asked for.
      if ((op? t id).map (fun o => o.stage == .leased)).getD false then
        saveState h (updFx (fun f => { f with yielded := f.yielded ++ [h.id], yields := sat 0xFFFFFFFF (f.yields + 1) }) t)
      else s
    else s
  | _, _ => s

/-- Streams of an instance closed (R214). -/
def closeStreams (hit : Stream → Bool) (s : State) : State := updFx (fun f => { f with streams := f.streams.filter (fun e => !hit e.2) }) s

def execStreamOpen (op : Nat) (inp : OpInput) (s : State) : Host.Outcome State Fault Refusal := .next (dispatchAs streamOpenSpec op inp s)
def execStreamFeed (op : Nat) (inp : OpInput) (s : State) : Host.Outcome State Fault Refusal := .next (dispatchAs streamFeedSpec op inp s)
def execStreamTail (op : Nat) (inp : OpInput) (s : State) : Host.Outcome State Fault Refusal := .next (dispatchAs streamTailSpec op inp s)
def execDigest (op : Nat) (inp : OpInput) (s : State) : Host.Outcome State Fault Refusal := .next (dispatchAs digestSpec op inp s)
def execDigestCompare (op : Nat) (inp : OpInput) (s : State) : Host.Outcome State Fault Refusal := .next (dispatchAs digestCompareSpec op inp s)
def execStreamSave (op : Nat) (inp : OpInput) (s : State) : Host.Outcome State Fault Refusal := .next (dispatchAs streamSaveSpec op inp s)
def execStreamRestore (op : Nat) (inp : OpInput) (s : State) : Host.Outcome State Fault Refusal := .next (dispatchAs streamRestoreSpec op inp s)
def execGcmEncrypt (op : Nat) (inp : OpInput) (s : State) : Host.Outcome State Fault Refusal := .next (dispatchAs gcmEncryptSpec op inp s)
def execGcmDecrypt (op : Nat) (inp : OpInput) (s : State) : Host.Outcome State Fault Refusal := .next (dispatchAs gcmDecryptSpec op inp s)
def execMac (op : Nat) (inp : OpInput) (s : State) : Host.Outcome State Fault Refusal := .next (dispatchAs macSpec op inp s)
def execMacCompare (op : Nat) (inp : OpInput) (s : State) : Host.Outcome State Fault Refusal := .next (dispatchAs macCompareSpec op inp s)

end Sys2Proof.Machine
end

