-- ==== Sys2Proof/Machine/LongNumber.lean ====
section
/-! DEFINITION. The long-number engine's class 0x05: elliptic curves, RSA and legacy DSA (09_long_number). -/
namespace Sys2Proof.Machine

def isPcurve (x : Nat) : Bool := rangeIn 0x0901 0x0903 x
def isEd (x : Nat) : Bool := rangeIn 0x0A01 0x0A03 x
def isXcurve (x : Nat) : Bool := rangeIn 0x0A04 0x0A05 x
def lnUnits : Desc → List UnitKind := fun _ => [.ln]
def oneBank : Desc → Option Nat := fun _ => some 1

/-- A private operation checks its own result (R184).  Where the check fails the unit repeats with fresh masks: the same result means that the
key is at fault, its slot DAMAGED and the operation rejected; another result means that the unit is. -/
def checkedKey (s : State) (o : Op) (i : OpInput) (r : Run) : Run :=
  match i.selfCheck with
  | 0 => r
  | 1 => { st := damageSlot (target s o) s, fails := [.keyRejected] }
  | _ => { st := suspect o s, fails := [.engineFault] }

/-! #### Key generation and ECDSA (R191-R193) -/

/-- A private key from random bytes: on a P-curve a scalar in [1, n - 1] (FIPS 186-5), else the bytes themselves. -/
def ecPriv (suite : Nat) (r : Bytes) : Bytes :=
  if isPcurve suite then beBytes r.length (beNat r % (curveOrder (setOf suite) - 1) + 1) else r

def ecKeygenSpec : OpSpec :=
  { opcode := 0x0501, suites := fun x => isPcurve x || rangeIn 0x0A01 0x0A05 x, param := fun _ p => p == 0, units := lnUnits, banks := oneBank
    uses := fun _ => { aux := true, out := true }
    late := fun s o i =>
      tmplLen o.desc.auxLen
        ++ createFails s o (templateAux s o i) o.desc.suite true false (ecPrivLen o.desc.suite) (ecPubLen o.desc.suite) []
    outLen := fun _ o _ => ecPubLen o.desc.suite
    slot := fun _ o _ => slotEcKeygen o.desc.suite (classOf o.desc)
    random := fun _ _ => true
    run := fun s o i =>
      let (r, s) := freeBytes (ecPrivLen o.desc.suite) s
      let d := ecPriv o.desc.suite r
      let pub := derivePub s.eng.info o.desc.suite d
      -- The point computed is checked too (R184); the key to reject is the new one.
      match i.selfCheck with
      | 0 => { createStaged s o i { t := templateAux s o i, suite := o.desc.suite, priv := d, pub := pub, publicOnly := false } with out := pub }
      | 1 => { st := s, fails := [.keyRejected] }
      | _ => { st := suspect o s, fails := [.engineFault] } }

/-- A transient public key is checked as at an import; a slot's key was checked when it entered (R190). -/
def transientFails (o : Op) (pub : Bytes) : List Status := if o.desc.keyA = 0 then pubFails o.desc.suite pub else []

/-- Digest input (hash code 0) has one of the digest lengths (R192). -/
def digestLenOk (verify : Bool) (n : Nat) : Bool := [28, 32, 48, 64].contains n || (verify && n == 20)

/-- PARAM of the ECDSA opcodes: a snoop has no message under a digest input (R191, R192). -/
def ecdsaParam (verify : Bool) (p : Nat) : Bool :=
  bits p 7 1 == 0 && (!verify || !bit p 0) && (pHash p == 0 || hashAny (pHash p) || (verify && pHash p == 1))
    && (pHash p != 0 || pMask p == 0)

/-- The HMAC hash of a deterministic nonce: the hash code's, or the curve's own under code 0 (R193). -/
def nonceHash (set p : Nat) : Nat := if pHash p = 0 then [3, 4, 5].getD (set - 1) 0 else pHash p

/-- k by RFC 6979, a function of the HMAC hash, the key and the digest. -/
def nonce6979 (set p : Nat) (d digest : Bytes) : Bytes := algBytes .hmac 64 [nonceHash set p, set] [d, digest]

/-- The digest that is signed: of the message, or the main input itself. -/
def ecdsaDigest (p : Nat) (m : Bytes) : Bytes := if pHash p = 0 then m else hash (pHash p) m

def ecdsaSign (set : Nat) (d digest k : Bytes) : Bytes := algBytes .ecdsaSignature (ecSigLen (0x900 + set)) [set] [d, digest, k]

def ecdsaSignSpec : OpSpec :=
  { opcode := 0x0502, suites := isPcurve, param := fun _ p => ecdsaParam false p, snoops := true, units := lnUnits, banks := oneBank
    uses := fun _ => { keyA := .required, inLen := true, inRef := true, out := true }
    late := fun s o _ =>
      keyFieldFails s o (signNeed destLn o.desc.suite) o.desc.keyA ++ publicOnlyFails s o
        ++ when_ (pHash o.desc.param = 0 && !digestLenOk false o.desc.inLen) .badLength
    outLen := fun _ o _ => ecSigLen o.desc.suite
    slot := fun _ o _ => slotEcdsaSign (setOf o.desc.suite) (classOf o.desc)
    random := fun _ _ => true
    run := fun s o i =>
      let (r, s) := freeBytes 64 s
      let set := setOf o.desc.suite
      let d := keyPriv s o o.desc.keyA
      let digest := ecdsaDigest o.desc.param (inBytes s o i)
      let k := if bit o.desc.param 0 then nonce6979 set o.desc.param d digest else r
      checkedKey s o i { st := s, out := ecdsaSign set d digest k } }

/-- An r or s of zero, or not below the order, is INVALID (R193). -/
def ecdsaRangeOk (set : Nat) (sig : Bytes) : Bool :=
  let l := ecSigLen (0x900 + set) / 2
  let r := beNat (sig.take l)
  let t := beNat (sig.drop l)
  0 < r && r < curveOrder set && 0 < t && t < curveOrder set

def ecdsaVerifySpec : OpSpec :=
  { opcode := 0x0503, suites := isPcurve, param := fun _ p => ecdsaParam true p, snoops := true, units := lnUnits, banks := oneBank
    uses := fun _ => { keyA := .optional, inLen := true, inRef := true, aux := true }
    late := fun s o _ =>
      let suite := o.desc.suite
      let keyLen := if o.desc.keyA = 0 then ecPubLen suite else 0
      keyFieldFails s o (verifyNeed destLn suite) o.desc.keyA
        ++ when_ (o.desc.auxLen != ecSigLen suite || o.desc.inLen < keyLen
            || (pHash o.desc.param = 0 && !digestLenOk true (o.desc.inLen - keyLen))) .badLength
    msgFrom := fun _ o _ => if o.desc.keyA = 0 then ecPubLen o.desc.suite else 0
    slot := fun _ o _ => slotEcdsaVerify (setOf o.desc.suite) (classOf o.desc)
    run := fun s o i =>
      let suite := o.desc.suite
      let pub := verifyKey s o i (ecPubLen suite)
      match transientFails o pub with
      | [] =>
        let sig := auxBytes s o i
        { st := s
          verdict := verdictOf (ecdsaRangeOk (setOf suite) sig
            && algBool .ecdsaVerify [setOf suite] [pub, ecdsaDigest o.desc.param (verifyMsg s o i (ecPubLen suite)), sig]) }
      | fs => { st := s, fails := fs } }

/-! #### EdDSA (R194, R195) -/

/-- The suites that take a context. -/
def edContext (suite : Nat) : Bool := suite == 0x0A02 || suite == 0x0A03

def eddsaSign (suite : Nat) (seed ctx m again : Bytes) : Bytes := algBytes .eddsaSignature (ecSigLen suite) [setOf suite] [seed, ctx, m, again]

def eddsaSignSpec : OpSpec :=
  { opcode := 0x0504, suites := isEd, param := fun _ p => bits p 11 0 == 0, snoops := true, units := lnUnits, banks := oneBank
    uses := fun _ => { keyA := .required, inLen := true, inRef := true, aux := true, out := true }
    late := fun s o _ =>
      keyFieldFails s o (signNeed destLn o.desc.suite) o.desc.keyA ++ publicOnlyFails s o
        ++ when_ ((if edContext o.desc.suite then 255 else 0) < o.desc.auxLen) .badLength
    outLen := fun _ o _ => ecSigLen o.desc.suite
    slot := fun _ o _ => slotEddsaSign (setOf o.desc.suite) (classOf o.desc)
    random := fun _ _ => true
    run := fun s o i =>
      let m := inBytes s o i
      -- Pure signing reads the message twice; a message in host memory may have changed (R194).
      let again := if o.desc.suite != 0x0A02 && fromHost o.desc.inRef then fit o.desc.inLen i.again else m
      checkedKey s o i { st := s, out := eddsaSign o.desc.suite (keyPriv s o o.desc.keyA) (auxBytes s o i) m again } }

def eddsaVerifySpec : OpSpec :=
  { opcode := 0x0505, suites := isEd, param := fun _ p => bits p 11 0 == 0, snoops := true, units := lnUnits, banks := oneBank
    uses := fun _ => { keyA := .optional, inLen := true, inRef := true, aux := true }
    late := fun s o _ =>
      let suite := o.desc.suite
      keyFieldFails s o (verifyNeed destLn suite) o.desc.keyA
        ++ when_ (o.desc.auxLen < ecSigLen suite || ecSigLen suite + (if edContext suite then 255 else 0) < o.desc.auxLen
            || (o.desc.keyA = 0 && o.desc.inLen < ecPubLen suite)) .badLength
    msgFrom := fun _ o _ => if o.desc.keyA = 0 then ecPubLen o.desc.suite else 0
    slot := fun _ o _ => slotEddsaVerify (setOf o.desc.suite) (classOf o.desc)
    run := fun s o i =>
      let suite := o.desc.suite
      let pub := verifyKey s o i (ecPubLen suite)
      let a := auxBytes s o i
      match transientFails o pub with
      | [] =>
        let sig := a.take (ecSigLen suite)
        { st := s
          verdict := verdictOf (edSigOk suite sig && algBool .eddsaVerify [setOf suite]
            [pub, verifyMsg s o i (ecPubLen suite), sig, a.drop (ecSigLen suite)]) }
      | fs => { st := s, fails := fs } }

/-! #### ECDH (R196) -/

def agreeNeed (suite : Nat) : KeyNeed := { suite := (· == suite), dest := some destLn, usage := some usageAgree }

/-- The shared secret: the x-coordinate on a P-curve; the output of RFC 7748 for a u whose bit 255 X25519 has cleared. -/
def ecdhZ (suite : Nat) (d peer : Bytes) : Bytes :=
  algBytes .ecdhShared (ecSharedLen suite) [suite] [d, if isXcurve suite then leBytes peer.length (xCoord suite peer) else peer]

/-- A result at infinity, or an all-zero output of X25519 or X448 (R196). -/
def ecdhBad (suite : Nat) (d peer z : Bytes) : Bool :=
  if isXcurve suite then isZero z else !algBool .ecdhOk [suite] [d, peer]

def ecdhSpec : OpSpec :=
  { opcode := 0x0506, suites := fun x => isPcurve x || isXcurve x, param := fun _ p => p == 0, units := lnUnits, banks := oneBank
    uses := decapsUses
    late := fun s o i =>
      keyFieldFails s o (agreeNeed o.desc.suite) o.desc.keyA ++ publicOnlyFails s o
        ++ when_ (o.desc.inLen != ecPubLen o.desc.suite) .badLength
        ++ secretFails s o i (ecSharedLen o.desc.suite) o.desc.keyA
    outLen := fun _ o _ => if o.desc.auxLen = 0 then ecSharedLen o.desc.suite else 0
    slot := fun _ o _ => slotEcdh o.desc.suite
    random := fun _ _ => true
    run := fun s o i =>
      let suite := o.desc.suite
      let peer := inBytes s o i
      let d := keyPriv s o o.desc.keyA
      let z := ecdhZ suite d peer
      match pubFails suite peer ++ when_ (ecdhBad suite d peer z) .invalidInput with
      | [] => checkedKey s o i (secretOut s o i [] z o.desc.keyA)
      | fs => { st := s, fails := fs } }

/-! #### RSA (R197-R201) -/

def isRsa (x : Nat) : Bool := rangeIn 0x0B01 0x0B03 x
def isPss (x : Nat) : Bool := x == 0x0B01 || x == 0x0C02

/-- The public blob an RSA or DSA operation uses. -/
def bigKey (s : State) (o : Op) (i : OpInput) : Bytes := if o.desc.keyA != 0 then keyPub s o o.desc.keyA else inBytes s o i

/-- Bytes of the transient key at the head of the main input. -/
def bigKeyLen (o : Op) (pub : Bytes) : Nat :=
  if o.desc.keyA != 0 then 0
  else if o.desc.suite = 0x0C03 then dsaPubLen (dsaL pub) (dsaN pub) else rsaPubLen (rsaBits pub)

/-- A main input too short for its transient key (R191). -/
def bigKeyShort (o : Op) (pub : Bytes) : Bool := o.desc.keyA = 0 && (o.desc.inLen < 8 || o.desc.inLen < bigKeyLen o pub)

/-- What R200 asks of the primes of a new key: `bits n / 2` bits each, odd, far enough apart, and an N of all its bits that E is prime to. -/
def rsaPrimesOk (n p q : Nat) : Bool :=
  let h := n / 2
  p.log2 + 1 == h && q.log2 + 1 == h && p % 2 == 1 && q % 2 == 1 && 2 ^ (h - 100) < (p - q) + (q - p) && (p * q).log2 + 1 == n
    && Nat.gcd 65537 (p - 1) == 1 && Nat.gcd 65537 (q - 1) == 1

/-- The primes the probable-prime method finds from the DRBG's bits: uninterpreted, but within R200's bounds (log 125). -/
def rsaPrimes (n : Nat) (seed : Bytes) : Nat × Nat :=
  let h := n / 2
  let b := algBytes .rsaPrivate (2 * ceilDiv n 16) [n] [seed]
  let p := beNat (b.take (ceilDiv n 16))
  let q := beNat (b.drop (ceilDiv n 16))
  if rsaPrimesOk n p q then (p, q) else (2 ^ h - 1, 3 * 2 ^ (h - 2) + 1)

def rsaKeygenSpec : OpSpec :=
  { opcode := 0x0511, suites := isRsa, param := fun _ p => p ≤ 2, units := lnUnits, banks := oneBank
    uses := fun _ => { aux := true, out := true }
    late := fun s o i =>
      let n := [2048, 3072, 4096].getD (bits o.desc.param 1 0) 0
      tmplLen o.desc.auxLen ++ createFails s o (templateAux s o i) o.desc.suite true false (rsaPrivLen n) (rsaPubLen n) []
    outLen := fun _ o _ => rsaPubLen ([2048, 3072, 4096].getD (bits o.desc.param 1 0) 0)
    slot := fun _ o _ => slotRsaKeygen (bits o.desc.param 1 0)
    random := fun _ _ => true
    run := fun s o i =>
      let n := [2048, 3072, 4096].getD (bits o.desc.param 1 0) 0
      let (seed, s) := freeBytes 64 s
      let (p, q) := rsaPrimes n seed
      let priv := leBytes 2 n ++ [0, 0] ++ leBytes 4 65537 ++ beBytes (ceilDiv n 16) p ++ beBytes (ceilDiv n 16) q
      let pub := derivePub s.eng.info o.desc.suite priv
      { createStaged s o i { t := templateAux s o i, suite := o.desc.suite, priv := priv, pub := pub, publicOnly := false } with out := pub } }

/-- PARAM of signing and verifying: a hash code, and the salt length under PSS (02 R31, R198). -/
def rsaParam (verify : Bool) (suite p : Nat) : Bool :=
  (hashAny (pHash p) || (verify && pHash p == 1)) && (isPss suite || pOpt p == 0)

/-- A salt too long for the modulus (R198). -/
def saltTooLong (bitsN p : Nat) : Bool := ceilDiv (bitsN - 1) 8 < hashLen (pHash p) + pOpt p + 2

def rsaSignSpec : OpSpec :=
  { opcode := 0x0512, suites := fun x => x == 0x0B01 || x == 0x0B02, param := rsaParam false, snoops := true, units := lnUnits, banks := oneBank
    uses := fun _ => { keyA := .required, inLen := true, inRef := true, out := true }
    late := fun s o _ =>
      keyFieldFails s o (signNeed destLn o.desc.suite) o.desc.keyA ++ publicOnlyFails s o
        ++ when_ (match keyOf s o o.desc.keyA with
            | some k => isPss o.desc.suite && saltTooLong (rsaBits k.pub) o.desc.param
            | none => false) .badParam
    outLen := fun s o _ => rsaK (rsaBits (keyPub s o o.desc.keyA))
    slot := fun s o _ => slotRsaPrivate (rsaBits (keyPub s o o.desc.keyA)) (classOf o.desc)
    random := fun _ _ => true
    run := fun s o i =>
      let k := rsaK (rsaBits (keyPub s o o.desc.keyA))
      let (salt, s) := freeBytes (pOpt o.desc.param) s
      checkedKey s o i
        { st := s
          out := algBytes .rsaSignature k [o.desc.suite, pHash o.desc.param] [keyPriv s o o.desc.keyA, inBytes s o i, salt] } }

def rsaVerifySpec : OpSpec :=
  { opcode := 0x0513, suites := fun x => x == 0x0B01 || x == 0x0B02 || x == 0x0C01 || x == 0x0C02, param := rsaParam true, snoops := true
    units := lnUnits, banks := oneBank
    uses := fun _ => { keyA := .optional, inLen := true, inRef := true, aux := true }
    late := fun s o i =>
      let pub := bigKey s o i
      keyFieldFails s o (verifyNeed destLn o.desc.suite) o.desc.keyA
        ++ when_ (bigKeyShort o pub || o.desc.auxLen != rsaK (rsaBits pub)) .badLength
    msgFrom := fun s o i => bigKeyLen o (bigKey s o i)
    slot := fun s o i => slotRsaPublic (rsaBits (bigKey s o i)) (classOf o.desc)
    run := fun s o i =>
      let whole := bigKey s o i
      let pub := if o.desc.keyA != 0 then whole else whole.take (bigKeyLen o whole)
      let sig := auxBytes s o i
      match transientFails o pub ++ when_ (rsaN pub ≤ beNat sig) .invalidInput with
      | [] =>
        { st := s
          verdict := verdictOf (algBool .rsaVerify [if isPss o.desc.suite then 1 else 2, pHash o.desc.param, pOpt o.desc.param]
            [pub, verifyMsg s o i (bigKeyLen o whole), sig]) }
      | fs => { st := s, fails := fs } }

/-- PARAM of RSAES-OAEP (R199). -/
def oaepParam (_suite p : Nat) : Bool := hashAny (pHash p) && pOpt p == 0 && pMask p == 0

/-- The longest message OAEP carries. -/
def oaepMax (bitsN p : Nat) : Nat := rsaK bitsN - 2 * hashLen (pHash p) - 2

def rsaEncryptSpec : OpSpec :=
  { opcode := 0x0514, suites := (· == 0x0B03), param := oaepParam, units := lnUnits, banks := oneBank
    uses := fun _ => { keyA := .optional, inLen := true, inRef := true, aux := true, out := true }
    late := fun s o i =>
      let pub := bigKey s o i
      keyFieldFails s o { suite := (· == o.desc.suite), dest := some destLn, usage := some usageEncrypt } o.desc.keyA
        ++ when_ (bigKeyShort o pub || 4096 < o.desc.auxLen
            || rsaK (rsaBits pub) < 2 * hashLen (pHash o.desc.param) + 2
            || oaepMax (rsaBits pub) o.desc.param < o.desc.inLen - bigKeyLen o pub) .badLength
    outLen := fun s o i => rsaK (rsaBits (bigKey s o i))
    slot := fun s o i => slotRsaPublic (rsaBits (bigKey s o i)) (classOf o.desc)
    random := fun _ _ => true
    run := fun s o i =>
      let whole := bigKey s o i
      let pub := if o.desc.keyA != 0 then whole else whole.take (bigKeyLen o whole)
      let (seed, s) := freeBytes (hashLen (pHash o.desc.param)) s
      match transientFails o pub with
      | [] =>
        { st := s
          out := algBytes .rsaCiphertext (rsaK (rsaBits pub)) [pHash o.desc.param]
            [pub, verifyMsg s o i (bigKeyLen o whole), auxBytes s o i, seed] }
      | fs => { st := s, fails := fs } }

/-- RSA_DECRYPT: every decoding failure is the one status (04 R85); OUT_CAP must hold the longest message the key can carry. -/
def rsaDecryptSpec : OpSpec :=
  { opcode := 0x0515, suites := (· == 0x0B03), param := oaepParam, units := lnUnits, banks := oneBank
    uses := fun _ => { keyA := .required, inLen := true, inRef := true, aux := true, out := true }
    late := fun s o _ =>
      keyFieldFails s o { suite := (· == o.desc.suite), dest := some destLn, usage := some usageDecrypt } o.desc.keyA ++ publicOnlyFails s o
        ++ when_ (o.desc.inLen != rsaK (rsaBits (keyPub s o o.desc.keyA)) || 4096 < o.desc.auxLen) .badLength
    outLen := fun s o _ => oaepMax (rsaBits (keyPub s o o.desc.keyA)) o.desc.param
    slot := fun s o _ => slotRsaPrivate (rsaBits (keyPub s o o.desc.keyA)) (classOf o.desc)
    random := fun _ _ => true
    run := fun s o i =>
      let pub := keyPub s o o.desc.keyA
      let c := inBytes s o i
      let priv := keyPriv s o o.desc.keyA
      let xs := [priv, c, auxBytes s o i]
      let h := pHash o.desc.param
      if rsaN pub ≤ beNat c || !algBool .rsaDecodeOk [h] xs then checkedKey s o i { st := s, fails := [.invalidInput] }
      else checkedKey s o i { st := s, out := algBytes .rsaPlain (min (algNat .rsaPlain [h] xs) (oaepMax (rsaBits pub) o.desc.param)) [h] xs } }

/-! #### Legacy DSA (R202) -/

def dsaVerifySpec : OpSpec :=
  { opcode := 0x0516, suites := (· == 0x0C03), param := fun _ p => (hashAny (pHash p) || pHash p == 1) && pOpt p == 0, snoops := true
    units := lnUnits, banks := oneBank
    uses := fun _ => { keyA := .optional, inLen := true, inRef := true, aux := true }
    late := fun s o i =>
      let pub := bigKey s o i
      keyFieldFails s o (verifyNeed destLn o.desc.suite) o.desc.keyA
        ++ when_ (bigKeyShort o pub || o.desc.auxLen != 2 * dsaN pub / 8) .badLength
    msgFrom := fun s o i => bigKeyLen o (bigKey s o i)
    slot := fun s o i => slotDsaVerify (dsaL (bigKey s o i)) (classOf o.desc)
    run := fun s o i =>
      let whole := bigKey s o i
      let pub := if o.desc.keyA != 0 then whole else whole.take (bigKeyLen o whole)
      let sig := auxBytes s o i
      let nb := dsaN pub / 8
      let q := beNat (slice pub (8 + dsaL pub / 8) nb)
      let r := beNat (sig.take nb)
      let t := beNat (sig.drop nb)
      match transientFails o pub with
      | [] =>
        { st := s
          verdict := verdictOf (0 < r && r < q && 0 < t && t < q
            && algBool .dsaVerify [pHash o.desc.param] [pub, verifyMsg s o i (bigKeyLen o whole), sig]) }
      | fs => { st := s, fails := fs } }

def execEcKeygen (op : Nat) (inp : OpInput) (s : State) : Host.Outcome State Fault Refusal := .next (dispatchAs ecKeygenSpec op inp s)
def execEcdsaSign (op : Nat) (inp : OpInput) (s : State) : Host.Outcome State Fault Refusal := .next (dispatchAs ecdsaSignSpec op inp s)
def execEcdsaVerify (op : Nat) (inp : OpInput) (s : State) : Host.Outcome State Fault Refusal := .next (dispatchAs ecdsaVerifySpec op inp s)
def execEddsaSign (op : Nat) (inp : OpInput) (s : State) : Host.Outcome State Fault Refusal := .next (dispatchAs eddsaSignSpec op inp s)
def execEddsaVerify (op : Nat) (inp : OpInput) (s : State) : Host.Outcome State Fault Refusal := .next (dispatchAs eddsaVerifySpec op inp s)
def execEcdh (op : Nat) (inp : OpInput) (s : State) : Host.Outcome State Fault Refusal := .next (dispatchAs ecdhSpec op inp s)
def execRsaKeygen (op : Nat) (inp : OpInput) (s : State) : Host.Outcome State Fault Refusal := .next (dispatchAs rsaKeygenSpec op inp s)
def execRsaSign (op : Nat) (inp : OpInput) (s : State) : Host.Outcome State Fault Refusal := .next (dispatchAs rsaSignSpec op inp s)
def execRsaVerify (op : Nat) (inp : OpInput) (s : State) : Host.Outcome State Fault Refusal := .next (dispatchAs rsaVerifySpec op inp s)
def execRsaEncrypt (op : Nat) (inp : OpInput) (s : State) : Host.Outcome State Fault Refusal := .next (dispatchAs rsaEncryptSpec op inp s)
def execRsaDecrypt (op : Nat) (inp : OpInput) (s : State) : Host.Outcome State Fault Refusal := .next (dispatchAs rsaDecryptSpec op inp s)
def execDsaVerify (op : Nat) (inp : OpInput) (s : State) : Host.Outcome State Fault Refusal := .next (dispatchAs dsaVerifySpec op inp s)

end Sys2Proof.Machine
end

