-- ==== Sys2Proof/Machine/Compound.lean ====
section
/-! DEFINITION. Class 0x08: re-attestation and composite signatures (11_reattest R228-R242).  Each part is the run of a member opcode on
the operands this chapter gives it. -/
namespace Sys2Proof.Machine

/-! #### Parts -/

/-- The engine class of a signature suite (R228). -/
def sigUnit (suite : Nat) : UnitKind := if famOf suite ≤ 3 then .lat else if famOf suite ≤ 6 then .hf else .ln
def sigDest (suite : Nat) : Nat := match sigUnit suite with | .lat => destLat | .hf => destHf | _ => destLn

/-- The member suites of a composite pair (02 R27). -/
def pairOf (suite : Nat) : Nat × Nat :=
  match setOf suite with
  | 1 => (0x0203, 0x0409)
  | 2 => (0x0202, 0x0902)
  | _ => (0x0203, 0x0A03)

/-- LEN_A and LEN_B of the container (R240). -/
def pairLens (suite : Nat) : Nat × Nat :=
  match setOf suite with
  | 1 => (4627, 29792)
  | 2 => (3309, 96)
  | _ => (4627, 114)

def containerLen (suite : Nat) : Nat := 16 + (pairLens suite).1 + (pairLens suite).2

def isComposite (x : Nat) : Bool := rangeIn 0x0F01 0x0F03 x

/-- The operation a part is, with operands of its own in place of the descriptor's. -/
def partOp (o : Op) (suite param key inLen auxLen : Nat) : Op :=
  { o with desc :=
    { o.desc with
      suite := suite, param := param, keyA := key, keyB := 0
      inLen := inLen, inRef := if inLen = 0 then 0 else 64, auxLen := auxLen, auxRef := if auxLen = 0 then 0 else 64 } }

def partIn (i : OpInput) (m aux : Bytes) : OpInput := { i with inp := m, again := m, aux := aux }

/-- The same descriptor under a member's suite and key: its lengths give the slot (04 R74). -/
def memberOp (o : Op) (suite param key : Nat) : Op := { o with desc := { o.desc with suite := suite, param := param, keyA := key, keyB := 0 } }

/-- The signing opcode of a suite, and the PARAM a statement or composite string is signed with: pure, ECDSA with the hash of its curve
(R232, R238). -/
def signSpec (suite : Nat) : OpSpec :=
  match famOf suite with
  | 2 => mldsaSignSpec | 4 => slhSignSpec | 5 | 6 => stfSignSpec | 9 => ecdsaSignSpec | _ => eddsaSignSpec

def signParam (suite det : Nat) : Nat :=
  match famOf suite with
  | 2 | 4 => det
  | 9 => 256 * (2 + setOf suite) + det
  | _ => 0

def verifySpec (suite : Nat) : OpSpec :=
  match famOf suite with
  | 2 => mldsaVerifySpec | 3 => fndsaVerifySpec | 4 => slhVerifySpec | 5 | 6 => stfVerifySpec | 9 => ecdsaVerifySpec
  | 10 => eddsaVerifySpec | 11 => rsaVerifySpec | 12 => if suite = 0x0C03 then dsaVerifySpec else rsaVerifySpec
  | _ => mldsaVerifySpec

/-- One signature of `m` under the key a field names. -/
def signPart (s : State) (o : Op) (i : OpInput) (suite det key : Nat) (m : Bytes) : Run :=
  (signSpec suite).run s (partOp o suite (signParam suite det) key m.length 0) (partIn i m [])

/-- P of R238. -/
def compositeString (suite : Nat) (ctx m : Bytes) : Bytes :=
  ascii "KLQ-COMPOSITE-01" ++ leBytes 2 suite ++ leBytes 1 ctx.length ++ ctx ++ hash 5 m

/-- The container of R240. -/
def container (suite : Nat) (a b : Bytes) : Bytes :=
  leBytes 2 1 ++ leBytes 2 suite ++ leBytes 4 a.length ++ leBytes 4 b.length ++ leBytes 4 0 ++ a ++ b

/-- Both members sign; the container exists only where both succeed, and the first member's failure is reported first (R242). -/
def compositeSign (s : State) (o : Op) (i : OpInput) (suite det : Nat) (ctx m : Bytes) : Run :=
  let p := compositeString suite ctx m
  let a := signPart s o i (pairOf suite).1 det o.desc.keyA p
  let b := signPart a.st o i (pairOf suite).2 det o.desc.keyB p
  match a.fails, b.fails with
  | [], [] => { st := b.st, out := container suite a.out b.out }
  | [], fs => { st := b.st, fails := fs }
  | fs, _ => { st := b.st, fails := fs }

/-! #### Composite signatures (R238-R242) -/

def pairUnits (suite : Nat) : List UnitKind := [sigUnit (pairOf suite).1, sigUnit (pairOf suite).2]

/-- PARAM: DETERMINISTIC and the digest mask; no hash code (R238). -/
def compositeParam (sign : Bool) (p : Nat) : Bool := pHash p == 0 && bits p 7 1 == 0 && (sign || !bit p 0)

def compositeSignSpec : OpSpec :=
  { opcode := 0x0802, suites := isComposite, param := fun _ p => compositeParam true p, snoops := true
    units := fun d => pairUnits d.suite
    uses := fun _ => { keyA := .required, keyB := .required, inLen := true, inRef := true, aux := true, out := true }
    late := fun s o _ =>
      let (a, b) := pairOf o.desc.suite
      keyFieldFails s o (signNeed (sigDest a) a) o.desc.keyA ++ keyFieldFails s o (signNeed (sigDest b) b) o.desc.keyB
        ++ publicOnlyFails s (memberOp o a 0 o.desc.keyA) ++ publicOnlyFails s (memberOp o b 0 o.desc.keyB)
        ++ when_ (255 < o.desc.auxLen) .badLength
    outLen := fun _ o _ => containerLen o.desc.suite
    slot := fun s o i =>
      let (a, b) := pairOf o.desc.suite
      (signSpec a).slot s (memberOp o a 0 o.desc.keyA) i + (signSpec b).slot s (memberOp o b 0 o.desc.keyB) i
    random := fun _ _ => true
    run := fun s o i => compositeSign s o i o.desc.suite (bits o.desc.param 0 0) (auxBytes s o i) (inBytes s o i) }

/-- Bytes of a member's transient key at the head of the main input. -/
def memberKeyLen (e : EngineInfo) (suite key : Nat) : Nat := if key = 0 then pubLenOf e suite [] else 0

/-- One member's verification of P: its fails and verdict. -/
def verifyPart (s : State) (o : Op) (i : OpInput) (suite key : Nat) (pub p sig : Bytes) : Run :=
  let m := (if key = 0 then pub else []) ++ p
  (verifySpec suite).run s (partOp o suite (if famOf suite = 9 then 256 * (2 + setOf suite) else 0) key m.length sig.length) (partIn i m sig)

/-- The header of R240 as R241 checks it. -/
def containerOk (suite : Nat) (c : Bytes) : Bool :=
  field c 0 2 == 1 && field c 2 2 == suite && field c 4 4 == (pairLens suite).1 && field c 8 4 == (pairLens suite).2 && field c 12 4 == 0

def compositeVerifySpec : OpSpec :=
  { opcode := 0x0803, suites := isComposite, param := fun _ p => compositeParam false p, snoops := true
    units := fun d => pairUnits d.suite
    uses := fun _ => { keyA := .optional, keyB := .optional, inLen := true, inRef := true, aux := true }
    late := fun s o _ =>
      let (a, b) := pairOf o.desc.suite
      keyFieldFails s o (verifyNeed (sigDest a) a) o.desc.keyA ++ keyFieldFails s o (verifyNeed (sigDest b) b) o.desc.keyB
        ++ when_ (!rangeIn (containerLen o.desc.suite) (containerLen o.desc.suite + 255) o.desc.auxLen
            || o.desc.inLen < memberKeyLen s.eng.info a o.desc.keyA + memberKeyLen s.eng.info b o.desc.keyB) .badLength
    msgFrom := fun s o _ =>
      let (a, b) := pairOf o.desc.suite
      memberKeyLen s.eng.info a o.desc.keyA + memberKeyLen s.eng.info b o.desc.keyB
    slot := fun s o i =>
      let (a, b) := pairOf o.desc.suite
      (verifySpec a).slot s (memberOp o a 0 o.desc.keyA) i + (verifySpec b).slot s (memberOp o b 0 o.desc.keyB) i
    run := fun s o i =>
      let suite := o.desc.suite
      let (a, b) := pairOf suite
      let whole := inBytes s o i
      let ka := memberKeyLen s.eng.info a o.desc.keyA
      let kb := memberKeyLen s.eng.info b o.desc.keyB
      let c := auxBytes s o i
      let (la, lb) := pairLens suite
      let p := compositeString suite (c.drop (containerLen suite)) (whole.drop (ka + kb))
      -- Both members are always verified.
      let x := verifyPart s o i a o.desc.keyA (whole.take ka) p (slice c 16 la)
      let y := verifyPart s o i b o.desc.keyB (slice whole ka kb) p (slice c (16 + la) lb)
      { st := s, fails := x.fails ++ y.fails
        verdict := verdictOf (containerOk suite c && x.verdict == .valid && y.verdict == .valid) } }

/-! #### Re-attestation (R229-R237) -/

/-- The suites of old signatures (R229). -/
def oldSuites (x : Nat) : Bool :=
  isMldsa x || isFndsa x || isSlh x || isStf x || isPcurve x || isEd x || rangeIn 0x0B01 0x0B02 x || rangeIn 0x0C01 0x0C03 x || isComposite x

/-- The old verify opcode, and the PARAM it would carry (R229). -/
def oldSpec (suite : Nat) : OpSpec := if isComposite suite then compositeVerifySpec else verifySpec suite

def oldParam (suite p : Nat) : Nat :=
  let h := pHash p
  4096 * pMask p + 256 * h
    + (if famOf suite = 2 || famOf suite = 4 then (if h = 0 then 0 else 4) else if isPss suite then hashLen h else 0)

def oldOp (o : Op) : Op := memberOp o o.desc.suite (oldParam o.desc.suite o.desc.param) 0

def reattestParam (suite p : Nat) : Bool := bits p 7 1 == 0 && (oldSpec suite).param suite (oldParam suite p)

/-- The suites of new keys (R231). -/
def newSuites (x : Nat) : Bool := isMldsa x || isSlh x || isStf x || isPcurve x || x == 0x0A01 || x == 0x0A03

def newSuite (s : State) (o : Op) (key : Nat) : Nat := ((keyOf s o key).map (·.suite)).getD 0

/-- The length of a new key's signature. -/
def newSigLen (s : State) (o : Op) (key : Nat) : Nat :=
  let suite := newSuite s o key
  match famOf suite with
  | 2 => mldsaSigLen (setOf suite)
  | 4 => slhSigLen (setOf suite)
  | 5 | 6 => ((stf? s ((resolveKey s o key).getD 0)).map (stfSigLen suite)).getD 0
  | _ => ecSigLen suite

/-- The checks on one new key (R231). -/
def newKeyFails (s : State) (o : Op) (key : Nat) : List Status :=
  match keyOf s o key with
  | none => keyFieldFails s o { suite := newSuites, dest := none, usage := none } key
  | some k =>
    keyFieldFails s o { suite := newSuites, dest := if newSuites k.suite then some (sigDest k.suite) else none, usage := some usageSign } key
      ++ when_ (k.publicOnly || ((famOf k.suite == 5 || famOf k.suite == 6) && 65096 < newSigLen s o key)) .keySuite

/-- The composite suite two new keys form. -/
def newPair (s : State) (o : Op) : Option Nat :=
  [0x0F01, 0x0F02, 0x0F03].find? (fun x => pairOf x == (newSuite s o o.desc.keyA, newSuite s o o.desc.keyB))

/-- NEW_SUITE of the statement. -/
def newSuiteWord (s : State) (o : Op) : Nat := if o.desc.keyB = 0 then newSuite s o o.desc.keyA else (newPair s o).getD 0

def newOutLen (s : State) (o : Op) : Nat :=
  if o.desc.keyB = 0 then newSigLen s o o.desc.keyA else 16 + newSigLen s o o.desc.keyA + newSigLen s o o.desc.keyB

/-- The statement of R234. -/
def statement (s : State) (o : Op) (i : OpInput) : Bytes :=
  let whole := inBytes s o i
  let k := (oldSpec o.desc.suite).msgFrom s (oldOp o) i
  leBytes 2 1 ++ leBytes 2 o.desc.suite ++ leBytes 1 (pHash o.desc.param) ++ leBytes 1 (if o.desc.keyB = 0 then 1 else 2)
    ++ leBytes 2 (newSuiteWord s o) ++ leBytes 4 s.cus.bootEpoch ++ leBytes 4 0 ++ leBytes 8 s.beat ++ sha3_256 (identityKey s)
    ++ hash 5 (whole.take k) ++ hash 5 (whole.drop k) ++ hash 5 (auxBytes s o i)

def statefulKey (s : State) (o : Op) : Bool := famOf (newSuite s o o.desc.keyA) == 5 || famOf (newSuite s o o.desc.keyA) == 6

def reattestSpec : OpSpec :=
  { opcode := 0x0801, suites := oldSuites, param := reattestParam, snoops := true
    units := fun d => .lane :: (if isComposite d.suite then pairUnits d.suite else [sigUnit d.suite])
    keyUnits := fun s o => (([o.desc.keyA, o.desc.keyB].filter (fun k => (keyOf s o k).isSome)).map (fun k => sigUnit (newSuite s o k)))
    uses := fun _ => { keyA := .required, keyB := .optional, inLen := true, inRef := true, inKinds := hostOnly, aux := true, out := true }
    more := fun d => when_ (refKind d.auxRef == .buffer || refKind d.auxRef == .inline) .badReference
    late := fun s o i =>
      when_ (!reattestAllowed (lcOf s)) .lifecycleState
        ++ newKeyFails s o o.desc.keyA ++ newKeyFails s o o.desc.keyB
        ++ when_ (o.desc.keyB != 0 && (newPair s o).isNone) .keySuite
        ++ when_ (match stf? s (stfSpecTarget s o) with | some k => !k.group && signLimit k ≤ k.next | none => false) .keyExhausted
        ++ (oldSpec o.desc.suite).late s (oldOp o) i
    ready := stfReady
    outLen := fun s o _ => 248 + newOutLen s o
    msgFrom := fun s o i => (oldSpec o.desc.suite).msgFrom s (oldOp o) i
    slot := fun s o i =>
      let one (key : Nat) : Nat :=
        if key = 0 then 0 else (signSpec (newSuite s o key)).slot s (partOp o (newSuite s o key) 0 key 248 0) i
      (oldSpec o.desc.suite).slot s (oldOp o) i + one o.desc.keyA + one o.desc.keyB + 1250
    random := fun _ _ => true
    run := fun s o i =>
      let old := (oldSpec o.desc.suite).run s (oldOp o) i
      let ok := old.fails.isEmpty && old.verdict == .valid
      let stmt := statement s o i
      let det := bits o.desc.param 0 0
      -- A stateful key's index is assigned at dispatch and consumed whatever the verdict (R233).
      if !ok && !statefulKey s o then { st := old.st, fails := old.fails, verdict := old.verdict, noDigests := true }
      else
        let new := if o.desc.keyB = 0 then signPart old.st o i (newSuite s o o.desc.keyA) det o.desc.keyA stmt
          else compositeSign old.st o i ((newPair s o).getD 0) det [] stmt
        let opdata := if statefulKey s o then new.opdata.take 8 else []
        if ok then { st := new.st, fails := new.fails, verdict := .valid, out := stmt ++ new.out, opdata := opdata }
        else { st := new.st, fails := old.fails, verdict := old.verdict, opdata := opdata, noDigests := true } }

def execReattest (op : Nat) (inp : OpInput) (s : State) : Host.Outcome State Fault Refusal := .next (dispatchAs reattestSpec op inp s)
def execCompositeSign (op : Nat) (inp : OpInput) (s : State) : Host.Outcome State Fault Refusal :=
  .next (dispatchAs compositeSignSpec op inp s)
def execCompositeVerify (op : Nat) (inp : OpInput) (s : State) : Host.Outcome State Fault Refusal :=
  .next (dispatchAs compositeVerifySpec op inp s)

end Sys2Proof.Machine
end

