-- ==== Sys2Proof/Machine/Instances.lean ====
section
/-! DEFINITION. Instances and the host link: INST_CREATE, INST_RESET, INST_REMOVE, INST_SET_SHARE, ATS invalidation and D3hot
(14_instances R303-R314, R319, R330). -/
namespace Sys2Proof.Machine

/-! #### INST_CREATE and INST_SET_SHARE (R306, R307, R319) -/

/-- SHARE, RESERVE or LIMIT out of range (R306, R307 reason 5). -/
def sharesBad (n share reserve limit : Nat) : Bool :=
  1000 < share || 4096 < reserve || !(1 ≤ limit && limit ≤ 4096) || limit < reserve || (n = 0 && reserve < 64)

/-- The lowest FREE instance number from 1. -/
def freeInst (s : State) : Option Nat := ((List.range 1023).map (· + 1)).find? (fun n => (instOf s n).state == .free)

def instCreateReasons (s : State) (pasid share reserve limit : Nat) : List Nat :=
  (if s.im.insts.any (fun e => e.1 != 0 && bound e.2 && e.2.pasid == pasid) then [3] else [])
    ++ (if (freeInst s).isNone then [4] else [])
    ++ (if sharesBad 1 share reserve limit then [5] else [])
    ++ (if 4096 < reservedSum s + reserve then [6] else [])

def instCreateSpec : OpSpec :=
  { opcode := 0x0F01, suites := noSuite, param := fun _ p => p == 0, uses := ringUses, units := fun _ => [], slot := fun _ _ _ => 0
    late := fun s o i =>
      let b := inBytes s o i
      when_ (o.desc.inLen != 16) .badLength ++ when_ (bits (field b 0 4) 31 20 != 0 || field b 0x0A 6 != 0) .malformed
    run := fun s o i =>
      let b := inBytes s o i
      let pasid := bits (field b 0 4) 19 0
      let (share, reserve, limit) := (field b 4 2, field b 6 2, field b 8 2)
      match instCreateReasons s pasid share reserve limit, freeInst s with
      | r :: _, _ => { st := s, fails := [.instanceState], opdata := instReason r }
      | [], none => { st := s, fails := [.instanceState], opdata := instReason 4 }
      | [], some n =>
        let old := instOf s n
        let x : Inst :=
          { state := .bound, pasid := pasid, share := share, reserve := reserve, limit := limit
            gen := if old.everBound then old.gen else 1, discards := old.discards, everBound := true }
        { st := setInst n x s, opdata := leBytes 2 n } }

def instSetShareReasons (s : State) (n share reserve limit : Nat) : List Nat :=
  (if (instOf s n).state == .free then [1] else [])
    ++ (if sharesBad n share reserve limit then [5] else [])
    ++ (if 4096 < reservedSum s - (instOf s n).reserve + reserve then [6] else [])

def instSetShareSpec : OpSpec :=
  { opcode := 0x0F04, suites := noSuite, param := fun _ p => p == 0, uses := ringUses, units := fun _ => [], slot := fun _ _ _ => 0
    late := fun s o i =>
      when_ (o.desc.inLen != 8) .badLength ++ when_ (bits (field (inBytes s o i) 0 2) 15 10 != 0) .malformed
    run := fun s o i =>
      let b := inBytes s o i
      let n := bits (field b 0 2) 9 0
      let (share, reserve, limit) := (field b 2 2, field b 4 2, field b 6 2)
      match instSetShareReasons s n share reserve limit with
      | r :: _ => { st := s, fails := [.instanceState], opdata := instReason r }
      | [] => { st := updInst n (fun x => { x with share := share, reserve := reserve, limit := limit }) s } }

/-! #### INST_RESET (R308-R313, 13 R302) -/

/-- Fetch pauses for the rings of an instance. -/
def pauseFetch (inst : Nat) (s : State) : State :=
  { s with qm := { s.qm with rings := s.qm.rings.map (fun (e : Nat × Ring) =>
      if e.2.inst = inst then (e.1, { e.2 with scanning := false, redo := none, again := false }) else e) } }

/-- A ring of an instance that is reset (13 R302, 14 R309 steps 4, 6, 7). -/
def resetRing (r : Ring) : Ring :=
  let stop := if r.tailMode then r.tail else r.fetchPos
  { r with
    sqHead := stop, fetchPos := stop, redo := none, cache := [], batches := [], groups := [], idxDirty := true
    pend := 0, timerStart := none, eventPending := false }

/-- An instance's operations: those not dispatched, and those dispatched. -/
def instOps (s : State) (inst : Nat) (disp : Bool) : List Op := s.ops.filter (fun o => o.inst == inst && dispatched o == disp)

/-- What is still to be undone when a cancelled operation ends: a split's cap on its donor (07 R153), a group
key (12 R269); its slots, buffers, streams and pins have
gone with the instance's. -/
def keptEffect : Effect → Bool
  | .stfSplit _ _ _ => true
  | .slotLive n | .stfLive n => 15360 ≤ n
  | _ => false

/-- Steps 3-7 of R309: the generation, the drops, the cancellations and the wipes.  What a cancelled operation had kept for its release is
gone with the instance's slots, buffers and streams. -/
def wipeInst (inst : Nat) (s : State) : State :=
  let s := updInst inst (fun x => { x with gen := (x.gen + 1) % 256 }) s
  let waiting := instOps s inst false
  let s := waiting.foldl (fun t o => dropOp o.id (returnBanks o.banks t)) s
  let s := cancelAll ((instOps s inst true).map (·.id)) s
  let s := { s with
    ops := s.ops.map (fun o => if o.inst = inst then { o with parked := { o.parked with effects := o.parked.effects.filter keptEffect } } else o)
    qm := { s.qm with rings := s.qm.rings.map (fun (e : Nat × Ring) => if e.2.inst = inst then (e.1, resetRing e.2) else e) } }
  let s := wipeSlots (fun _ k => k.owner == inst && !(k.persist && k.state != .staged)) s
  let s := updKv (fun v => { v with slots := v.slots.map (fun e => if e.2.owner = inst then (e.1, { e.2 with owner := 0 }) else e) }) s
  closeStreams (·.owner == inst) (freeBuffersOf inst (dirtyOwned inst s))

/-- Entries dropped and operations cancelled, as OPDATA counts them. -/
def resetCounts (inst : Nat) (s : State) : Nat × Nat :=
  (((s.qm.rings.filter (·.2.inst == inst)).map (fun e => unadmitted e.2)).sum + (instOps s inst false).length, (instOps s inst true).length)

def resetOpdata (inst : Nat) (counts : Nat × Nat) (s : State) : Bytes :=
  leBytes 4 (instOf s inst).gen ++ leBytes 4 counts.1 ++ leBytes 4 counts.2

/-- A carrier of a generation (R310). -/
def hasCarrier (s : State) (inst gen : Nat) : Bool :=
  let mine (c : Completion) : Bool := c.inst == inst && c.gen == gen
  s.ops.any (fun o => o.inst == inst && o.gen == gen)
    || s.qm.rings.any (fun e => e.2.outq.any mine
        || e.2.batches.any (fun b => b.members.any (fun m => (m.done.map mine).getD false))
        || e.2.groups.any (fun g => g.members.any (fun m => (m.done.map mine).getD false)))

def instTargetReasons (s : State) (n : Nat) : List Nat :=
  (if n = 0 || (instOf s n).state == .free then [1] else [])
    ++ (if (instOf s n).state == .resetting || (instOf s n).state == .removing then [2] else [])

def instWordLate (s : State) (o : Op) (i : OpInput) : List Status :=
  when_ (o.desc.inLen != 4) .badLength ++ when_ (bits (field (inBytes s o i) 0 4) 31 10 != 0) .malformed

/-- INST_RESET: steps 1-8 in one step (log 12), or a wait at step 2. -/
def instResetSpec : OpSpec :=
  { opcode := 0x0F02, suites := noSuite, param := fun _ p => p == 0, uses := ringUses, units := fun _ => [], slot := fun _ _ _ => 0
    late := instWordLate
    run := fun s o i =>
      let n := bits (field (inBytes s o i) 0 4) 9 0
      match instTargetReasons s n with
      | r :: _ => { st := s, fails := [.instanceState], opdata := instReason r }
      | [] =>
        let s := pauseFetch n s
        if hasCarrier s n (((instOf s n).gen + 1) % 256) then
          { st := updInst n (fun x => { x with state := .resetting }) s, wait := some (.deferral n) }
        else
          let counts := resetCounts n s
          let t := wipeInst n s
          { st := t, opdata := resetOpdata n counts t } }

/-- RESET_DEFERRAL_END: no carrier of the next generation remains; the reset completes with DEFERRED (R310). -/
def resetDeferralEnd (n : Nat) (s : State) : State :=
  match s.im.waits.find? (fun w => w.2 == .deferral n) with
  | none => s
  | some (id, _) =>
    if hasCarrier s n (((instOf s n).gen + 1) % 256) then s
    else
      let counts := resetCounts n s
      let t := updInst n (fun x => { x with state := .bound }) (wipeInst n s)
      completeWait id .deferred (resetOpdata n counts t) t

/-! #### INST_REMOVE (R314) -/

def instRemoveSpec : OpSpec :=
  { opcode := 0x0F03, suites := noSuite, param := fun _ p => p == 0, uses := ringUses, units := fun _ => [], slot := fun _ _ _ => 0
    late := instWordLate
    run := fun s o i =>
      let n := bits (field (inBytes s o i) 0 4) 9 0
      match instTargetReasons s n with
      | r :: _ => { st := s, fails := [.instanceState], opdata := instReason r }
      | [] =>
        { st := wipeInst n (updInst n (fun x => { x with state := .removing }) (pauseFetch n s)), wait := some (.removal n) } }

/-- The rings of an instance. -/
def ringsOf (s : State) (inst : Nat) : List (Nat × Ring) := s.qm.rings.filter (·.2.inst == inst)

/-- The number is freed: its rings and its translations go. -/
def finishRemove (id n : Nat) (s : State) : State :=
  let count := (ringsOf s n).length
  let s := freeRings (fun _ r => r.inst == n) s
  let s := { s with
    hp := { s.hp with ats := s.hp.ats.filter (· != (instOf s n).pasid) } }
  completeWait id .ok (leBytes 2 count) (updInst n (fun x => { x with state := .free, pasid := 0, share := 0, reserve := 0, limit := 0 }) (dirtyOwned n s))

/-- REMOVE_DRAIN_END: with no operation of the instance left its rings are destroyed under 13 R300: held completions are written as the host
makes room, and what is left is discarded one backlog period later. -/
def removeDrainEnd (n : Nat) (s : State) : State :=
  match s.im.waits.find? (fun w => match w.2 with | .removal m => m == n | _ => false) with
  | some (id, .removal _) =>
    if s.ops.any (·.inst == n) then s
    else if (ringsOf s n).all (fun e => e.2.outq.isEmpty || heldOver s e.2) then finishRemove id n s
    else s
  | _ => s

def execInstCreate (op : Nat) (inp : OpInput) (s : State) : Host.Outcome State Fault Refusal := .next (dispatchAs instCreateSpec op inp s)
def execInstReset (op : Nat) (inp : OpInput) (s : State) : Host.Outcome State Fault Refusal := .next (dispatchAs instResetSpec op inp s)
def execInstRemove (op : Nat) (inp : OpInput) (s : State) : Host.Outcome State Fault Refusal := .next (dispatchAs instRemoveSpec op inp s)
def execInstSetShare (op : Nat) (inp : OpInput) (s : State) : Host.Outcome State Fault Refusal := .next (dispatchAs instSetShareSpec op inp s)
def execResetDeferralEnd (inst : Nat) (s : State) : Host.Outcome State Fault Refusal := .next (resetDeferralEnd inst s)
def execRemoveDrainEnd (inst : Nat) (s : State) : Host.Outcome State Fault Refusal := .next (removeDrainEnd inst s)

/-! #### The host link (R304, R330) -/

/-- ATS_INVALIDATION of a PASID: its cached translations are dropped and the request is completed. -/
def atsInvalidation (pasid : Nat) (s : State) : State :=
  send (.atsDone pasid) { s with hp := { s.hp with ats := s.hp.ats.filter (· != pasid) } }

/-- D3HOT_ENTRY, with PME_En as configuration space holds it then: memory requests stop, and the backlog timers stand still. -/
def d3hotEntry (pmeEn : Bool) (s : State) : State :=
  if s.hp.d3hot then s
  else
    { s with
      hp := { s.hp with d3hot := true, pmeEn := pmeEn, pmeSent := false }
      qm := { s.qm with rings := s.qm.rings.map (fun (e : Nat × Ring) =>
        (e.1, { e.2 with backlogLeft := e.2.backlogAt.map (· - s.beat), backlogAt := none })) } }

/-- D0_RETURN, with Bus Master Enable as it is then. -/
def d0Return (busMaster : Bool) (s : State) : State :=
  { s with
    hp := { s.hp with d3hot := false, busMaster := busMaster }
    qm := { s.qm with rings := s.qm.rings.map (fun (e : Nat × Ring) =>
      (e.1, { e.2 with backlogAt := e.2.backlogAt.or (e.2.backlogLeft.map (· + s.beat)), backlogLeft := none })) } }

def execAtsInvalidation (pasid : Nat) (s : State) : Host.Outcome State Fault Refusal := .next (atsInvalidation pasid s)
def execD3hotEntry (pmeEn : Bool) (s : State) : Host.Outcome State Fault Refusal := .next (d3hotEntry pmeEn s)
def execD0Return (busMaster : Bool) (s : State) : Host.Outcome State Fault Refusal := .next (d0Return busMaster s)

end Sys2Proof.Machine
end

