-- ==== Sys2Proof/Machine/Modes.lean ====
section
/-! DEFINITION. Operating modes: MODE_SET, the drain, and the links' use of engines in DORMANT (20_modes_resets R462-R467). -/
namespace Sys2Proof.Machine

/-- R462. -/
def Mode.code : Mode → Nat
  | .boot => 0 | .service => 1 | .quiesce => 2 | .dormant => 3 | .safe => 4 | .maintenance => 5

def modeOf (n : Nat) : Mode :=
  match n with
  | 1 => .service | 2 => .quiesce | 3 => .dormant | 4 => .safe | 5 => .maintenance | _ => .boot

/-- The engines are unpowered: in DORMANT, and in SAFE entered from it (R463). -/
def unpowered (s : State) : Bool := s.glb.mode == .dormant || (s.glb.mode == .safe && s.glb.fromDormant)

/-- A mode entered: what was armed in another is disarmed (15 R348), a debug session ends (17 R395), and engines powered again wipe before their next operation (R467,
09 R186). -/
def enterMode (m : Mode) (s : State) : State :=
  let waking := unpowered s && m != .dormant
  let s := if m = s.glb.mode then s else closeSession (updMem (fun x => { x with injections := [] }) s)
  -- The units' local stores and registers are lost with their power (R467).
  let s := if m = .dormant then { s with eng := { s.eng with lnWork := [] } } else s
  let s := if waking then { s with eng := { s.eng with lnDirty := List.range 32 }, grp := { s.grp with dormantUse := none } } else s
  bootEvents m { s with glb := { s.glb with mode := m, draining := false, drainAt := none, drainPast := false, fromDormant := false } }
where
  /-- Events due at the first SERVICE or MAINTENANCE entry (17 R397, 18 R428). -/
  bootEvents (m : Mode) (s : State) : State :=
    let s := match s.cus.lcEvent with
      | some d => if m == Mode.service || m == Mode.maintenance then raise_ 261 d (updCus (fun c => { c with lcEvent := none }) s) else s
      | none => s
    match s.cus.up.fallbackEvent with
    | some d =>
      if m == Mode.service then raise_ 259 d (updCus (fun c => { c with up := { c.up with fallbackEvent := none } }) s) else s
    | none => s

/-- The last fault record that sent the device to SAFE, as SAFE_LEFT reports it. -/
def safeDetail (s : State) : Nat :=
  ((((allRecs s.sup.fc).filter (fun r => 3 ≤ r.severity)).getLast?).map faultDetail).getD 0

/-- SAFE is left (R463). -/
def leaveSafe (m : Mode) (detail : Nat) (s : State) : State :=
  raise_ 7 detail (updFc (fun c => { c with safeByFault := false }) (enterMode m s))

/-- A DEVICE-level live condition is present. -/
def deviceLive (s : State) : Bool := !s.sup.fc.liveDevice.isEmpty

/-- Recovery is stopped for a source with a DEVICE record (R466, 16 R364). -/
def deviceStopped (s : State) : Bool :=
  s.sup.fc.stoppedNow.any (fun src => (allRecs s.sup.fc).any (fun r => r.source == src && 3 ≤ r.severity))

/-- The transitions MODE_SET can ask for (R463). -/
def modeAllowed (cur target : Mode) : Bool :=
  match cur, target with
  | .service, .quiesce | .service, .dormant | .service, .maintenance
  | .quiesce, .service | .quiesce, .dormant | .quiesce, .maintenance
  | .dormant, .service | .dormant, .maintenance
  | .maintenance, .service | .safe, .service | .safe, .maintenance => true
  | _, _ => false

/-- The refusal of R466: reason and status. -/
def modeRefusal (s : State) (t : Mode) : Option (Nat × Status) :=
  if !modeAllowed s.glb.mode t || s.glb.draining then some (1, .notPermitted)
  else if t = .service && !workAllowed (lcOf s) then some (2, .lifecycleState)
  else if t = .service && s.glb.mode == .safe && (deviceLive s || deviceStopped s) then some (3, .notPermitted)
  else none

/-- OPDATA of a MODE_SET that succeeds (R466). -/
def modeOpdata (m : Mode) (n : Nat) : Bytes := leBytes 4 m.code ++ leBytes 4 n

/-- Operations of classes 0x01-0x08 that are dispatched. -/
def runningOps (s : State) : List Op := s.ops.filter (fun o => dispatched o && opClass o.desc != 0x0F)

/-- The drain limit passes (R465 step 4): dispatch stops and every dispatched operation is cancelled. -/
def drainStop (s : State) : State :=
  cancelDispatched
    { s with glb := { s.glb with drainPast := true, drainAt := none, drainCancelled := (runningOps s).length } }

/-- The drain of R465 begins. -/
def startDrain (t : Mode) (ms : Nat) (s : State) : State :=
  let at_ := if ms = 0xFFFF then none else some (s.beat + beatsMs ms)
  let s := { s with
    glb := { s.glb with mode := .quiesce, draining := true, target := t, drainAt := at_, drainPast := false, drainCancelled := 0 }
    mem := { s.mem with injections := if s.glb.mode == .quiesce then s.mem.injections else [] } }
  if ms = 0 then drainStop s else s

def modeSetLate (s : State) (o : Op) : List Status :=
  let w := field (inlineRecord s o) 0 4
  when_ (o.desc.inLen != 4) .badLength
    ++ when_ (bits w 15 3 != 0 || [0, 4, 6, 7].contains (bits w 2 0) || (bits w 2 0 = 1 && bits w 31 16 != 0)) .malformed

/-- MODE_SET. -/
def modeSetSpec : OpSpec :=
  { opcode := 0x0F09, suites := noSuite, param := fun _ p => p == 0, uses := ringUses, units := fun _ => [], slot := fun _ _ _ => 0
    late := fun s o _ => modeSetLate s o
    run := fun s o _ =>
      let w := field (inlineRecord s o) 0 4
      let t := modeOf (bits w 2 0)
      if t = s.glb.mode then { st := s, opdata := modeOpdata t 0 }
      else match modeRefusal s t with
        | some (r, st) => { st := s, fails := [st], opdata := instReason r }
        | none =>
          if (s.glb.mode == .service || s.glb.mode == .quiesce) && (t == .dormant || t == .maintenance) then
            { st := startDrain t (bits w 31 16) s, wait := some (.modeSet t.code) }
          else if s.glb.mode == .safe then { st := leaveSafe t (safeDetail s) s, opdata := modeOpdata t 0 }
          else { st := enterMode t s, opdata := modeOpdata t 0 } }

/-- The row of each target; a TARGET no row names is refused the same way on all of them. -/
def modeSetRow (t : Nat) : OpSpec :=
  { modeSetSpec with ready := fun s o =>
      let x := bits (field (inlineRecord s o) 0 4) 2 0
      x == t || [0, 4, 6, 7].contains x }

def execModeSetService (op : Nat) (inp : OpInput) (s : State) : Host.Outcome State Fault Refusal := .next (dispatchAs (modeSetRow 1) op inp s)
def execModeSetQuiesce (op : Nat) (inp : OpInput) (s : State) : Host.Outcome State Fault Refusal := .next (dispatchAs (modeSetRow 2) op inp s)
def execModeSetDormant (op : Nat) (inp : OpInput) (s : State) : Host.Outcome State Fault Refusal := .next (dispatchAs (modeSetRow 3) op inp s)
def execModeSetMaintenance (op : Nat) (inp : OpInput) (s : State) : Host.Outcome State Fault Refusal :=
  .next (dispatchAs (modeSetRow 5) op inp s)

/-- DRAIN_END: every admitted operation of classes 0x01-0x08 has been released, or past the limit every dispatched one; the target is
entered and MODE_SET completes (R465, R466). -/
def drainEnd (s : State) : State :=
  if !s.glb.draining || s.ops.any (fun o => opClass o.desc != 0x0F && (dispatched o || !s.glb.drainPast)) then s
  else
    let t := enterMode s.glb.target s
    s.im.waits.foldl (fun t w =>
      match w.2 with
      | .modeSet _ => completeWait w.1 .ok (modeOpdata s.glb.target s.glb.drainCancelled) t
      | _ => t) t

/-- DRAIN_LIMIT: DRAIN_MS ms have passed. -/
def drainLimit (s : State) : State :=
  match s.glb.draining, s.glb.drainAt with
  | true, some t => if t ≤ s.beat then drainStop s else s
  | _, _ => s

def execDrainEnd (s : State) : Host.Outcome State Fault Refusal := .next (drainEnd s)
def execDrainLimit (s : State) : Host.Outcome State Fault Refusal := .next (drainLimit s)

/-- DORMANT_UNIT_POWER_DOWN: the LAT and LN units powered for link work go off within 1 ms of their last use (R467). -/
def dormantPowerDown (s : State) : State :=
  if unpowered s then updGrp (fun g => { g with dormantUse := none }) s else s

def execDormantUnitPowerDown (s : State) : Host.Outcome State Fault Refusal := .next (dormantPowerDown s)

end Sys2Proof.Machine
end

