-- ==== Sys2Proof/Machine/Recovery.lean ====
section
/-! DEFINITION. Leaving a fault state: ENGINE_REINIT and automatic recovery (16_faults_power R363-R367). -/
namespace Sys2Proof.Machine

/-- What ENGINE_REINIT can restore (R366). -/
inductive Target where
  | engine (u : UnitRef)
  | shaLane (n : Nat)
  | keccakLane (n : Nat)
  | entropy (n : Nat)
  | store (cls : Nat)
  /-- The standby Hemin core, which only automatic recovery restores (R363). -/
  | core
  deriving DecidableEq, Repr

/-- The unit a CLASS and UNIT name; none where the table lists none. -/
def targetOf (cls n : Nat) : Option Target :=
  if !rangeIn 1 8 cls then none
  else if n = 0xFFF then some (.store cls)
  else match cls with
    | 1 => if n < 64 then some (.engine ⟨.lat, n⟩) else none
    | 2 | 3 =>
      if n < 16 then some (.engine ⟨.hf, n⟩)
      else if rangeIn 0x100 0x4FF n then some (.shaLane (n - 0x100))
      else if rangeIn 0x500 0x5FF n then some (.keccakLane (n - 0x500))
      else none
    | 4 => if n < 8 then some (.engine ⟨.code, n⟩) else if n < 10 then some (.engine ⟨.elim, n - 8⟩) else none
    | 5 => if n < 32 then some (.engine ⟨.ln, n⟩) else none
    | 6 => if n < 64 then some (.engine ⟨.lane, n⟩) else if n < 80 then some (.engine ⟨.gcm, n - 64⟩) else none
    | 7 => if n < 2 then some (.entropy n) else none
    | _ => none

def entropyOk (s : State) (n : Nat) : Bool := if n = 0 then s.kv.src0.ok else s.kv.src1.ok

def targetEclipsed (s : State) (t : Target) : Bool :=
  match t with
  | .engine u => s.ecl.units.contains u
  | .shaLane n => s.ecl.shaLanes.contains n
  | .keccakLane n => s.ecl.keccakLanes.contains n
  | .entropy n => !entropyOk s n
  | .store c => s.ecl.stores.contains c
  | .core => s.ecl.core

/-- The UNIT numbers a CLASS has. -/
def classUnits (cls : Nat) : List Nat :=
  match cls with
  | 1 => List.range 64
  | 2 | 3 => List.range 16 ++ (List.range 1280).map (· + 0x100)
  | 4 => List.range 10
  | 5 => List.range 32
  | 6 => List.range 80
  | 7 => List.range 2
  | _ => []

/-- The eclipsed units an ENGINE_REINIT covers, with their numbers: those of a class, or the one named. -/
def coveredTargets (s : State) (cls n : Nat) (every : Bool) : List (Nat × Target) :=
  ((if every then classUnits cls ++ [0xFFF] else [n]).filterMap (fun k => (targetOf cls k).map (k, ·))).filter
    (fun e => targetEclipsed s e.2)

/-- The fault source of a unit (R352). -/
def targetSource (s : State) (t : Target) : Nat :=
  match t with
  | .engine u => unitSource u
  | .shaLane n => 0x050 + n / 64
  | .keccakLane n => 0x060 + n / 64
  | .entropy n => 0x100 + n
  | .store _ => 0x110
  | .core => 0x161 - s.glb.activeCore

/-- The eclipse ends: the unit passed its self-test and is wiped (R366; 09 R186; 12 R273). -/
def unEclipse (t : Target) (s : State) : State :=
  match t with
  | .engine u =>
    switchUnits [u] { s with
      ecl := { s.ecl with units := s.ecl.units.filter (· != u) }
      eng := if u.kind == .ln && !s.eng.lnDirty.contains u.num then { s.eng with lnDirty := s.eng.lnDirty ++ [u.num] } else s.eng }
  | .shaLane n => { s with ecl := { s.ecl with shaLanes := s.ecl.shaLanes.filter (· != n) } }
  | .keccakLane n => { s with ecl := { s.ecl with keccakLanes := s.ecl.keccakLanes.filter (· != n) } }
  | .entropy n =>
    let up (e : Entropy) : Entropy := { e with ok := true }
    raise_ 163 n (updKv (fun v => if n = 0 then { v with src0 := up v.src0 } else { v with src1 := up v.src1 }) s)
  | .store c => { s with ecl := { s.ecl with stores := s.ecl.stores.filter (· != c) } }
  | .core => { s with ecl := { s.ecl with core := false } }

/-- The self-test fails: REINIT_FAILED, and the unit stays eclipsed. -/
def reinitFailed (t : Target) (s : State) : State :=
  match t with
  | .store c => sendFault 0x110 7 2 ((239 + c) * 2 ^ 23) s
  | .core => sendFault (targetSource s t) 1 2 0 s
  | .shaLane n | .keccakLane n => sendFault (targetSource s t) 6 2 (n % 64) s
  | _ => sendFault (targetSource s t) 6 2 0 s

/-- Units restored, and units that fail. -/
def reinit (fails : List Nat) : List (Nat × Target) → State → State
  | [], s => s
  | e :: es, s => reinit fails es (if fails.contains e.1 then reinitFailed e.2 s else unEclipse e.2 s)

/-- The recovery counts of sources cleared (20 R471). -/
def clearCounts (srcs : List Nat) (s : State) : State :=
  updFc (fun c => { c with recoveries := c.recoveries.filter (fun e => !srcs.contains e.1), stoppedNow := c.stoppedNow.filter (!srcs.contains ·) }) s

def reinitSpec : OpSpec :=
  { opcode := 0x0F08, suites := noSuite, param := fun _ p => p == 0, uses := ringUses, units := fun _ => [], slot := fun _ _ _ => 0
    late := fun s o _ =>
      let w := field (inlineRecord s o) 0 4
      when_ (o.desc.inLen != 4) .badLength
        ++ when_ (bits w 31 21 != 0 || !rangeIn 1 8 (bits w 7 0)
            || (if bit w 20 then bits w 19 8 != 0 else (targetOf (bits w 7 0) (bits w 19 8)).isNone)) .malformed
    run := fun s o i =>
      let w := field (inlineRecord s o) 0 4
      let ts := coveredTargets s (bits w 7 0) (bits w 19 8) (bit w 20)
      let bad := (ts.filter (fun e => i.fails.contains e.1)).length
      let good := ts.filter (fun e => !i.fails.contains e.1)
      { st := clearCounts (good.map (fun e => targetSource s e.2)) (reinit i.fails ts s)
        fails := when_ (bad != 0) .engineFault
        opdata := leBytes 2 good.length ++ leBytes 2 bad } }

def execEngineReinit (op : Nat) (inp : OpInput) (s : State) : Host.Outcome State Fault Refusal := .next (dispatchAs reinitSpec op inp s)

/-! #### Automatic recovery (R363, R364) -/

/-- The eclipsed functions of a source. -/
def sourceTargets (s : State) (src : Nat) : List Target :=
  let all : List Target :=
    s.ecl.units.map .engine ++ s.ecl.shaLanes.map .shaLane ++ s.ecl.keccakLanes.map .keccakLane
      ++ [.entropy 0, .entropy 1, .core] ++ s.ecl.stores.map .store
  all.filter (fun t => targetSource s t == src && targetEclipsed s t)

/-- A Wyrum port eclipsed by its source. -/
def sourcePort (s : State) (src : Nat) : Option Nat :=
  if rangeIn 0x130 0x133 src then
    match s.ports[src - 0x130]? with
    | some p => if p.state == .eclipsed then some (src - 0x130) else none
    | none => none
  else none

/-- A DEVICE fault of the source keeps the device in SAFE. -/
def sourceSafe (s : State) (src : Nat) : Bool :=
  s.glb.mode == .safe && (allRecs s.sup.fc).any (fun r => r.source == src && r.severity == 3 && !r.acked)

/-- The quiet period has passed and the source's condition is clear. -/
def quiet (s : State) (src : Nat) : Bool :=
  bit (regWord s 0x0B0610).toNat 10 && !s.sup.fc.live.contains src
    && (match lookup src s.sup.fc.lastMsg with
      | some t => decide (t + beatsMs (clip 1 1000 (setting s 0x0B0610 9 0)) ≤ s.beat)
      | none => false)

def hourBeats : Nat := 450000000000

/-- The recoveries of a source within the hour. -/
def recentRecoveries (s : State) (src : Nat) : List Nat :=
  ((lookup src s.sup.fc.recoveries).getD []).filter (fun t => s.beat < t + hourBeats)

def sourceDetail (s : State) (src : Nat) : Nat :=
  ((((allRecs s.sup.fc).filter (fun r => r.source == src)).getLast?).map faultDetail).getD src

/-- A recovery that succeeded. -/
def recovered (src : Nat) (s : State) : State :=
  let d := sourceDetail s src
  raise_ 4 d
    (updFc (fun c =>
      mapRecs (fun r => if r.source = src then { r with acked := true } else r)
        { c with
          recoveries := put src (recentRecoveries s src ++ [s.beat]) c.recoveries
          recovered := sat 0xFFFF (c.recovered + 1) }) s)

/-- Where SAFE is left to by itself: SERVICE, or MAINTENANCE where the life-cycle state permits no work (20 R463). -/
def afterSafe (s : State) : Mode := if workAllowed (lcOf s) then .service else .maintenance

/-- AUTO_RECOVERY of a source, `pass` where its self-test passes. -/
def autoRecovery (src : Nat) (pass : Bool) (s : State) : State :=
  let ts := sourceTargets s src
  if s.glb.halted || !quiet s src || (ts.isEmpty && (sourcePort s src).isNone && !sourceSafe s src) then s
  else if 8 ≤ (recentRecoveries s src).length then
    if s.sup.fc.stoppedNow.contains src then s
    else raise_ 5 (sourceDetail s src) (updFc (fun c => { c with stopped := some src, stoppedNow := src :: c.stoppedNow }) s)
  else if !ts.isEmpty && !pass then ts.foldl (fun t x => reinitFailed x t) s
  else if sourceSafe s src then
    if deviceLive s then s
    else recovered src (leaveSafe (afterSafe s) (sourceDetail s src) (ts.foldl (fun t x => unEclipse x t) s))
  else
    let s := ts.foldl (fun t x => unEclipse x t) s
    recovered src (match sourcePort s src with | some p => updPort p (fun x => { x with state := .training }) s | none => s)

def execAutoRecovery (source : Nat) (pass : Bool) (s : State) : Host.Outcome State Fault Refusal := .next (autoRecovery source pass s)

end Sys2Proof.Machine
end

