-- ==== Sys2Proof/Machine/Lifecycle.lean ====
section
/-! DEFINITION. Life-cycle transitions, zeroisation, debug sessions and tamper inputs (17_lifecycle R384-R397). -/
namespace Sys2Proof.Machine

/-! #### Tokens (R385, R386) -/

/-- A token's header (R386), with its key and signature. -/
structure Token where
  format : Nat
  source : Nat
  target : Nat
  role : Nat
  reserved : Nat
  uid : Bytes
  data : Bytes
  scope : Nat
  validMs : Nat
  header : Bytes
  pk : Bytes
  sig : Bytes
  deriving DecidableEq, Repr

def decodeToken (b : Bytes) : Token :=
  { format := field b 0 2, source := field b 2 1, target := field b 3 1, role := field b 4 1, reserved := field b 5 3,
    uid := slice b 8 16, data := slice b 0x18 32, scope := field b 0x38 4, validMs := field b 0x3C 4, header := b.take 64,
    pk := slice b 64 2592, sig := slice b 2656 4627 }

/-- The KEY_ROLE that R385 names for a transition; none where the table lists none.  A device that decodes as BLANK also takes the unsigned
header to SCRAPPED. -/
def roleFor (source target : Nat) : Option Nat :=
  match source, target with
  | 0, 1 => some 0
  | 1, 2 | 2, 3 | 0, 6 | 1, 6 | 2, 6 | 5, 6 => some 1
  | 3, 4 | 3, 5 | 4, 5 | 3, 6 | 4, 6 => some 2
  | _, _ => none

def roleFits (t : Token) : Bool := roleFor t.source t.target == some t.role || (t.source == 0 && t.target == 6 && t.role == 0)

/-- The key hash a role is held to (R386): those of the boot ROM, and OWNER_KEY_HASH. -/
def keyHashFor (s : State) (role : Nat) : Option Bytes :=
  match role with
  | 1 => some (romHash 1)
  | 2 => ownerHash s.cus.otp
  | 3 => some (romHash 3)
  | _ => none

def tokenContext (role : Nat) : String := if role = 3 then "KLQ debug" else "KLQ lifecycle"

def allZero (b : Bytes) : Bool := b.all (· == 0)

/-- The locked-out reason (R388). -/
def lockedOut (s : State) : Bool := 8 ≤ s.cus.authFails

/-- Bits of one pattern are within another. -/
def within (a b : Nat) : Bool := a &&& b == a

/-- The state a transition starts from is in force, or R391 takes it from INVALID. -/
def sourceFits (s : State) (t : Token) : Bool :=
  if lcOf s = .invalid then within (lcPattern t.source) s.cus.otp.pattern && within s.cus.otp.pattern (lcPattern t.target)
  else (lcOf s).code == t.source

/-- The raw pattern is already that of the target (R391). -/
def alreadyThere (s : State) (t : Token) : Bool := rangeIn 0 6 t.target && s.cus.otp.pattern == lcPattern t.target

/-- Step 1 and step 2 of R389 as reasons with their statuses: the lockout, then the transition, the header, the key, the signature and the
supply. -/
def transitionReasons (s : State) (len : Nat) (t : Token) (vdd : Bool) : List (Nat × Status) :=
  let unsigned := t.role == 0
  (if lockedOut s then [(9, .authFailed)] else [])
    ++ (if (roleFor t.source t.target).isNone || !(sourceFits s t || alreadyThere s t) then [(1, .lifecycleState)] else [])
    ++ (if t.format != 1 || t.reserved != 0 || !roleFits t || (unsigned != (len == 64))
          || t.uid != (if unsigned then List.replicate 16 0 else s.cus.otp.uid) || t.scope != 0 || t.validMs != 0
          || (t.target != 3 && !allZero t.data) || (unsigned && lcOf s != .blank) then [(3, .authFailed)] else [])
    ++ (if !unsigned && keyHashFor s t.role != some (sha3_256 t.pk) then [(4, .authFailed)] else [])
    ++ (if !unsigned && !mldsa87Ok (tokenContext t.role) t.pk (t.header ++ t.pk) t.sig then [(5, .authFailed)] else [])
    ++ (if !vdd then [(2, .lifecycleState)] else [])

/-! #### The OTP programming of a transition (R385, R389) -/

/-- One programming of the OTP: its byte offset, and the array after it, whole or torn (`free` gives the bits that a torn word holds). -/
structure Burn where
  offset : Nat
  whole : Otp → Otp
  torn : Nat → Otp → Otp

/-- A seed or hash, written where its words are still blank (R392). -/
def burnSeed (off : Nat) (f : Otp → Otp) : Burn :=
  { offset := off, whole := fun o => if o.bad.contains off then o else f o
    torn := fun _ o => { o with bad := if o.bad.contains off then o.bad else o.bad ++ [off] } }

/-- Every bit of a kill field (the spec says only that it is burnt, log 13). -/
def killWord : Nat := 0xFFFFFFFF

def burnOwnerKill : Burn :=
  { offset := 0x010, whole := fun o => { o with ownerKill := killWord }
    torn := fun free o => { o with ownerKill := o.ownerKill ||| (free % 2 ^ 32) } }

def burnIdentityKill : Burn :=
  { offset := 0x014, whole := fun o => { o with identityKill := killWord }
    torn := fun free o => { o with identityKill := o.identityKill ||| (free % 2 ^ 32) } }

/-- LC_PATTERN word `i`. -/
def burnPattern (target i : Nat) : Burn :=
  let w := lcPattern target &&& (0xFFFFFFFF * 2 ^ (32 * i))
  { offset := 4 * i, whole := fun o => { o with pattern := o.pattern ||| w }
    torn := fun free o => { o with pattern := o.pattern ||| (free &&& w) } }

/-- Steps 4 and 5 of R389, in order; `seed` is what the DRBG drew. -/
def burns (t : Token) (seed : Bytes) : List Burn :=
  (if t.source = 1 ∧ t.target = 2 then [burnSeed 0x200 (fun o => { o with pubelV := o.pubelV.or (some seed) })] else [])
    ++ (if t.target = 3 then
          [burnSeed 0x240 (fun o => { o with ownerSeed := o.ownerSeed.or (some seed) }),
           burnSeed 0x040 (fun o => { o with ownerKeyHash := o.ownerKeyHash.or (some t.data) })] else [])
    ++ (if t.target = 5 ∨ t.target = 6 then [burnOwnerKill] else [])
    ++ (if t.target = 6 then [burnIdentityKill] else [])
    ++ (List.range 4).map (burnPattern t.target)

def burnAll (bs : List Burn) (o : Otp) : Otp := bs.foldl (fun o b => b.whole o) o

/-- The transition draws a seed. -/
def drawsSeed (t : Token) : Bool := (t.source == 1 && t.target == 2) || t.target == 3
/-- The transition zeroises. -/
def zeroising (t : Token) : Bool := t.target == 5 || t.target == 6

def setOtp (o : Otp) (s : State) : State := updCus (fun c => { c with otp := o }) s

/-- The last commit of a transition, and the event due when its state is decoded (R390, R397). -/
def endTransition (t : Token) (s : State) : State :=
  dueReset (updCus (fun c => { c with marker := none, lcEvent := some (t.target + 8 * t.source) }) s)

/-- Steps 3-6 of R389, or as far as they come. -/
def runTransition (t : Token) (cut : Option Cut) (s : State) : Run :=
  let mark (d : Bool) (s : State) : State :=
    if zeroising t then updCus (fun c => { c with marker := some { move := some (t.source, t.target), done := d } }) s else s
  let s := mark false s
  if cut = some .early then { st := s, wait := some .interrupted }
  else
    let s := if zeroising t then mark true (zeroise s) else s
    let (seed, s) := if drawsSeed t then drawBytes 64 s else ([], s)
    let s := if t.source = 3 ∧ t.target = 4 then updCus (fun c => { c with bootEpoch := 0 }) s else s
    let bs := burns t seed
    match cut with
    | some (.programming k torn) =>
      let o := burnAll (bs.take k) s.cus.otp
      let (n, s) := draw s
      let o := match bs[k]? with | some b => if torn then b.torn (freeNat n) o else o | none => o
      { st := setOtp o s, wait := some .interrupted }
    | some (.readBack k) =>
      match bs[k]? with
      | none => { st := endTransition t (setOtp (burnAll bs s.cus.otp) s), opdata := [BitVec.ofNat 8 t.target] }
      | some b =>
        let (n, s) := draw s
        { st := sendFault 0x162 2 3 b.offset (setOtp (b.torn (freeNat n) (burnAll (bs.take k) s.cus.otp)) s)
          fails := [.lifecycleState], opdata := instReason 6 }
    | some .late => { st := updCus (fun c => { c with lcEvent := some (t.target + 8 * t.source) }) (setOtp (burnAll bs s.cus.otp) s)
                      wait := some .interrupted }
    | _ => { st := endTransition t (setOtp (burnAll bs s.cus.otp) s), opdata := [BitVec.ofNat 8 t.target] }

/-- An AUTH_FAILED completion is counted (R388). -/
def countAuth (s : State) : State := updCus (fun c => { c with authFails := sat 8 (c.authFails + 1) }) s

/-- The transition as LC_TRANSITION finds it. -/
def transitionRun (t : Token) (reasons : List (Nat × Status)) (i : OpInput) (s : State) : Run :=
  match reasons with
  | (r, st) :: _ => { st := if st = .authFailed then countAuth s else s, fails := [st], opdata := instReason r }
  | [] =>
    if alreadyThere s t then { st := s, opdata := [BitVec.ofNat 8 t.target] }
    else if drawsSeed t && !rngOk s.kv then { st := s, fails := [.rngFail] }
    else runTransition t i.cut s

/-- LC_TRANSITION (R387). -/
def lcTransitionSpec : OpSpec :=
  { opcode := 0x0F0B, suites := noSuite, param := fun _ p => p == 0, units := fun _ => [], slot := fun _ _ _ => 0
    uses := fun _ => { inLen := true, inRef := true, inKinds := hostOnly }
    late := fun s o _ =>
      when_ (s.glb.mode != .maintenance) .notPermitted ++ when_ (o.desc.inLen != 7283 && o.desc.inLen != 64) .badLength
    run := fun s o i =>
      let t := decodeToken (inBytes s o i)
      let s := updCus (fun c => { c with vddOtpOk := i.vddOtp }) s
      if (dataFails (ringUses o.desc) s o i).isEmpty then
        transitionRun t (transitionReasons s o.desc.inLen t i.vddOtp) i s
      else { st := s } }

def execLcTransition (op : Nat) (inp : OpInput) (s : State) : Host.Outcome State Fault Refusal :=
  .next (dispatchAs lcTransitionSpec op inp s)

/-! #### ZEROISE (R393) -/

def zeroiseSpec : OpSpec :=
  { opcode := 0x0F0C, suites := noSuite, param := fun _ p => p == 0, units := fun _ => [], slot := fun _ _ _ => 0, uses := fun _ => {}
    late := fun s _ _ =>
      when_ (s.glb.mode != .maintenance) .notPermitted ++ when_ (lcOf s == .blank || lcOf s == .scrapped) .lifecycleState
    run := fun s _ i =>
      let n := slotsHeld s
      -- A transition marker keeps the state INVALID and stays (R390).
      let moving : Bool := match s.cus.marker with | some m => m.move.isSome | none => false
      let mark (m : Option Marker) (s : State) : State := if moving then s else updCus (fun c => { c with marker := m }) s
      let s := mark (some { move := none, done := false }) s
      if i.cut = some .early then { st := s, wait := some .interrupted }
      else { st := mark none (zeroise s), opdata := leBytes 2 n } }

def execZeroise (op : Nat) (inp : OpInput) (s : State) : Host.Outcome State Fault Refusal := .next (dispatchAs zeroiseSpec op inp s)

/-! #### Debug sessions (R394, R395) -/

def debugMode (s : State) (o : Op) (i : OpInput) : Nat := bits (field (inBytes s o i) 0 4) 7 0

def debugReserved (s : State) (o : Op) (i : OpInput) : Bool :=
  bits (field (inBytes s o i) 0 4) 31 8 != 0 || !rangeIn 1 3 (debugMode s o i)

/-- The scopes a state allows (R394). -/
def scopeMask (l : Lc) : Nat := if l = .vendorTest then 0x1F else 0x0F

/-- A challenge is outstanding and has not expired. -/
def liveChallenge (s : State) (data : Bytes) : Bool :=
  match s.cus.challenge with
  | some (c, t) => c == data && s.beat < t
  | none => false

def debugReasons (s : State) (t : Token) : List (Nat × Status) :=
  (if lockedOut s then [(9, .authFailed)] else [])
    ++ (if t.source != (lcOf s).code || t.target != t.source then [(1, .lifecycleState)] else [])
    ++ (if t.format != 1 || t.reserved != 0 || t.role != 3 || t.uid != s.cus.otp.uid then [(3, .authFailed)] else [])
    ++ (if keyHashFor s 3 != some (sha3_256 t.pk) then [(4, .authFailed)] else [])
    ++ (if !mldsa87Ok (tokenContext 3) t.pk (t.header ++ t.pk) t.sig then [(5, .authFailed)] else [])
    ++ (if !liveChallenge s t.data then [(7, .authFailed)] else [])
    ++ (if outside t.scope (scopeMask (lcOf s)) || !rangeIn 1 3600000 t.validMs then [(8, .authFailed)] else [])

/-- MODE 0x02: the challenge is used up by the first token that presents it. -/
def openSession (t : Token) (s : State) : Run :=
  let reasons := debugReasons s t
  let s := match s.cus.challenge with
    | some (c, _) => if c = t.data then updCus (fun c => { c with challenge := none }) s else s
    | none => s
  match reasons with
  | (r, st) :: _ =>
    { st := if st = .authFailed then note 0x165 2 r (countAuth s) else s, fails := [st], opdata := instReason r }
  | [] =>
    { st := raise_ 260 (t.scope % 256)
        (note 0x165 1 (t.scope % 256) (updCus (fun c => { c with session := some (t.scope, s.beat + beatsMs t.validMs) }) s)) }

/-- One of the three modes carried out, with the record that gives it (R394, R395). -/
def debugDo (mode : Nat) (record : Bytes) (s : State) : Run :=
  if lockedOut s then { st := note 0x165 2 9 (countAuth s), fails := [.authFailed], opdata := instReason 9 }
  else match mode with
    | 1 =>
      if !rngOk s.kv then { st := s, fails := [.rngFail] }
      else
        let (c, s) := drawBytes 32 s
        { st := updCus (fun x => { x with challenge := some (c, s.beat + beatsS 10) }) s, out := c ++ s.cus.otp.uid }
    | 2 => openSession (decodeToken (record.drop 4)) s
    | _ => { st := closeSession s }

/-- The part of DEBUG_AUTH its three rows share; `mode` is the row's MODE. -/
def debugSpec (mode : Nat) : OpSpec :=
  { opcode := 0x0F0D, suites := noSuite, param := fun _ p => p == 0, units := fun _ => [], slot := fun _ _ _ => 0
    uses := fun d => { inLen := true, inRef := true, inKinds := hostOrInline, out := d.inLen == 4 }
    ready := fun _ o =>
      let m := if refKind o.desc.inRef = .inline then bits (field (slice o.desc.inl (inlineOffset o.desc.inRef) 4) 0 4) 7 0 else mode
      m == mode || !rangeIn 1 3 m
    late := fun s o i =>
      let read := (dataFails (ringUses o.desc) s o i).isEmpty
      let m := if read then debugMode s o i else mode
      when_ (s.glb.mode != .maintenance) .notPermitted ++ when_ (!debugAllowed (lcOf s)) .lifecycleState
        ++ when_ (o.desc.inLen != (if m = 2 then 7287 else 4) || (m != 1 && o.desc.outCap != 0)) .badLength
        ++ when_ (read && debugReserved s o i) .malformed
    earlyData := fun _ _ st => if st = .lifecycleState then instReason 1 else []
    outLen := fun s o i => if debugMode s o i = 1 then 48 else 0
    run := fun s o i =>
      if !(dataFails (ringUses o.desc) s o i).isEmpty then { st := s }
      else debugDo (debugMode s o i) (inBytes s o i) s }

def execDebugChallenge (op : Nat) (inp : OpInput) (s : State) : Host.Outcome State Fault Refusal := .next (dispatchAs (debugSpec 1) op inp s)
def execDebugOpen (op : Nat) (inp : OpInput) (s : State) : Host.Outcome State Fault Refusal := .next (dispatchAs (debugSpec 2) op inp s)
def execDebugClose (op : Nat) (inp : OpInput) (s : State) : Host.Outcome State Fault Refusal := .next (dispatchAs (debugSpec 3) op inp s)

/-- CHALLENGE_EXPIRY: 10 s have passed. -/
def challengeExpiry (s : State) : State :=
  match s.cus.challenge with
  | some (_, t) => if t ≤ s.beat then updCus (fun c => { c with challenge := none }) s else s
  | none => s

/-- DEBUG_SESSION_EXPIRY: VALID_MS has elapsed. -/
def sessionExpiry (s : State) : State :=
  match s.cus.session with
  | some (_, t) => if t ≤ s.beat then closeSession s else s
  | none => s

def execChallengeExpiry (s : State) : Host.Outcome State Fault Refusal := .next (challengeExpiry s)
def execDebugSessionExpiry (s : State) : Host.Outcome State Fault Refusal := .next (sessionExpiry s)

/-! #### Tamper inputs (R396, R397) -/

/-- The inputs act: the capsule has been applied (R396). -/
def tamperOn (s : State) (i : Nat) : Bool :=
  (s.glb.mode != .boot || 8 ≤ s.cus.up.step) && bit (regWord s 0x0C0140).toNat (4 * i)

/-- TAMPER_ASSERTED: a filtered input changes, asserted or not; an asserted one acts by its ACTION. -/
def tamper (i : Nat) (asserted : Bool) (s : State) : State :=
  if 4 ≤ i then s
  else if !asserted then updCus (fun c => { c with tamperLive := c.tamperLive - (c.tamperLive &&& 2 ^ i) }) s
  else if bit s.cus.tamperLive i then s
  else
    let s := updCus (fun c => { c with tamperLive := c.tamperLive ||| 2 ^ i }) s
    if !tamperOn s i then s
    else
      let act := setting s 0x0C0140 (4 * i + 3) (4 * i + 2)
      let s := updCus (fun c => { c with tamperLatched := c.tamperLatched ||| 2 ^ i, tamperCount := sat 0xFF (c.tamperCount + 1) }) s
      let s := if act = 0 then s else closeSession (reseedAll (wipeVolatile s))
      raise_ 256 (i + 16 * act) (sendFault 0x163 1 (if 2 ≤ act then 3 else 0) i s)

def execTamperAsserted (input : Nat) (asserted : Bool) (s : State) : Host.Outcome State Fault Refusal :=
  .next (tamper input asserted s)

/-- TAMPER_LATCHED_CLEAR: ones written to LATCHED clear it (01 R7). -/
def tamperLatchedClear (mask : Nat) (s : State) : State :=
  if bar0Ok s 0x0C0144 then updCus (fun c => { c with tamperLatched := c.tamperLatched - (c.tamperLatched &&& mask % 16) }) s else s

def execTamperLatchedClear (mask : Nat) (s : State) : Host.Outcome State Fault Refusal := .next (tamperLatchedClear mask s)

end Sys2Proof.Machine
end

