-- ==== Sys2Proof/Machine/Registers.lean ====
section
/-! DEFINITION. The settings of BAR0: their fields, ranges, LOCK bits and capsule defaults, the capsule's records and their application,
and SETTING_WRITE (00_scope R6-R9, R501; 18_boot_update R404-R408; 16 R378; 20 R472). -/
namespace Sys2Proof.Machine

/-! #### Fields (R406) -/

/-- A field the capsule governs: its bits, the range it takes (R501) and its capsule default. -/
structure Fld where
  hi : Nat
  lo : Nat
  min : Nat
  max : Nat
  dflt : Nat
  deriving DecidableEq, Repr

/-- A register with such fields; the register whose bit 31 locks them, and whether the host may write them. -/
structure Reg where
  off : Nat
  flds : List Fld
  lock : Option Nat
  host : Bool
  deriving DecidableEq, Repr

def own (off : Nat) (flds : List Fld) : Reg := { off := off, flds := flds, lock := some off, host := true }

/-- The registers of R406. -/
def coreRegs : List Reg :=
  [{ off := 0x020100, flds := [⟨15, 0, 1, 65535, 10000⟩], lock := none, host := true },
   own 0x020104 [⟨15, 0, 1, 65535, 10⟩],
   own 0x03010C [⟨7, 0, 0, 255, 0⟩, ⟨17, 8, 1, 1000, 50⟩],
   own 0x030200 [⟨7, 0, 4, 255, 16⟩],
   own 0x050020 [⟨3, 0, 0, 8, 2⟩],
   own 0x050200 [⟨12, 0, 0, 4096, 1536⟩, ⟨13, 13, 0, 1, 1⟩, ⟨14, 14, 0, 1, 0⟩],
   own 0x050800 [⟨9, 0, 1, 1023, 256⟩, ⟨23, 16, 1, 255, 100⟩],
   own 0x050804 [⟨15, 0, 1, 65535, 16⟩],
   { off := 0x050808, flds := [⟨15, 0, 1, 65535, 64⟩, ⟨31, 16, 1, 65535, 1440⟩], lock := some 0x050800, host := true },
   own 0x060020 [⟨3, 0, 2, 15, 4⟩],
   own 0x070020 [⟨3, 0, 2, 15, 2⟩],
   { off := 0x080020, flds := [⟨11, 0, 64, 2048, 1024⟩], lock := none, host := false },
   own 0x080030 [⟨9, 0, 10, 1000, 100⟩]]

def moreRegs : List Reg :=
  [own 0x080040 [⟨4, 0, 0, 16, 8⟩],
   own 0x090040 [⟨9, 0, 1, 1000, 1000⟩],
   own 0x0A0000 [⟨11, 0, 1, 3600, 30⟩, ⟨19, 12, 1, 168, 24⟩],
   own 0x0A0020 [⟨0, 0, 0, 1, 0⟩],
   own 0x0A0040 [⟨6, 0, 0, 64, 32⟩],
   own 0x0B0610 [⟨9, 0, 1, 1000, 10⟩, ⟨10, 10, 0, 1, 1⟩],
   own 0x0B0620 [⟨2, 0, 0, 4, 2⟩],
   own 0x0B0700 [⟨8, 0, 80, 440, 360⟩],
   own 0x0C0140 [⟨15, 0, 0, 65535, 0⟩]]

/-- The Wyrum registers whose Cold column reads Cap. -/
def portRegs : List Reg :=
  ((List.range 4).map (fun n => own (0x0D0000 + 0x100 * n) [⟨0, 0, 0, 1, 1⟩, ⟨2, 1, 0, 2, 0⟩]))
    ++ [own 0x0D0800 [⟨9, 0, 1, 1000, 10⟩, ⟨19, 10, 1, 1000, 100⟩, ⟨27, 20, 1, 255, 16⟩],
        own 0x0D0804 [⟨7, 0, 1, 255, 60⟩, ⟨15, 8, 1, 168, 24⟩, ⟨23, 16, 1, 255, 16⟩]]

def capRegs : List Reg := coreRegs ++ moreRegs ++ portRegs

def regAt (off : Nat) : Option Reg := capRegs.find? (·.off == off)

def Fld.mask (f : Fld) : Nat := 2 ^ (f.hi + 1) - 2 ^ f.lo

def Reg.fieldMask (r : Reg) : Nat := (r.flds.map Fld.mask).sum

/-- Bits a REG record may name: the fields, and the register's own LOCK bit. -/
def Reg.recordMask (r : Reg) : Nat := r.fieldMask + (if r.lock = some r.off then 2 ^ 31 else 0)

/-- The greatest value a field takes: MAX_MULT stays below WATCHDOG_MULT, BUDGET within the effective power limit. -/
def fieldMax (s : State) (r : Reg) (f : Fld) : Nat :=
  if r.off = 0x060020 ∨ r.off = 0x070020 then min f.max (setting s 0x030200 7 0 - 1)
  else if r.off = 0x0B0700 then powerLimit s
  else f.max

/-- One field written under a mask; it takes a value of its range. -/
def writeField (s : State) (r : Reg) (mask value : Nat) (w : Nat) (f : Fld) : Nat :=
  if mask &&& f.mask = 0 then w
  else
    let kept := w - (w &&& (f.mask &&& mask))
    let v := bits ((kept &&& f.mask) ||| (value &&& f.mask &&& mask)) f.hi f.lo
    (w - (w &&& f.mask)) + clip f.min (max f.min (fieldMax s r f)) v * 2 ^ f.lo

/-- A register's fields written under a mask, whatever its LOCK. -/
def writeFields (r : Reg) (mask value : Nat) (s : State) : State :=
  setReg r.off (BitVec.ofNat 32 (r.flds.foldl (writeField s r mask value) (regWord s r.off).toNat)) s

def locked (s : State) (r : Reg) : Bool :=
  match r.lock with
  | some l => bit (regWord s l).toNat 31
  | none => false

def setLock (off : Nat) (s : State) : State := setReg off (regWord s off ||| 0x80000000#32) s

/-- A write of some bits of a governed register: its fields unless they are locked (R7), then its LOCK bit (R8). -/
def writeGoverned (r : Reg) (mask value : Nat) (s : State) : State :=
  let s := if locked s r || !r.host then s else writeFields r mask value s
  if r.lock = some r.off && bit mask 31 && bit value 31 then setLock r.off s else s

/-- Every governed field at its capsule default, the LOCK bits that `keep` has set kept. -/
def defaultRegs (keep : List (Nat × Word)) : List (Nat × Word) :=
  capRegs.foldl (fun l r =>
    let k := ((lookup r.off keep).getD 0).toNat / 2 ^ 31 * 2 ^ 31
    let d := (r.flds.map (fun f => f.dflt * 2 ^ f.lo)).sum
    put r.off (BitVec.ofNat 32 (if r.lock = some r.off then d + k else d)) l) []

/-! #### Calibration (16 R378) -/

/-- The bounds of a user delta. -/
def deltaRange (item : Nat) : Int × Int :=
  if item = 0 then (-360, 0) else if item = 1 then (-16, 16) else if item = 2 then (0, 30) else if item ≤ 7 then (0, 20)
  else if item ≤ 0x0F then (-8, 8) else if item = 0x10 then (-20, 0) else (-10, 0)

/-- Warning thresholds the factory sets, in mV. -/
def factoryWarning (n : Nat) : Nat := [660, 760, 760, 1650, 850, 1130].getD n 0

/-- The effective range. -/
def effRange (item : Nat) : Int × Int :=
  if item = 0 then (80, 440) else if item = 1 then (-100, 100)
  else if item ≤ 7 then ((factoryWarning (item - 2) : Int), (recoveryMv (item - 2) : Int) - 10)
  else if item ≤ 0x0F then (-40, 40) else if item = 0x10 then (80, 100) else (100, 110)

def clipInt (r : Int × Int) (x : Int) : Int := min r.2 (max r.1 x)

/-- An item with a delta. -/
def calItem (item : Nat) (factory delta : Int) : CalItem :=
  let d := clipInt (deltaRange item) delta
  let e := clipInt (effRange item) (factory + d)
  { factory := factory, user := delta, eff := e, clipped := d != delta || e != factory + d }

/-- A CAL record applied. -/
def applyCal (item : Nat) (delta : Int) (s : State) : State :=
  match s.sup.cal[item]? with
  | none => s
  | some c =>
    let c' := calItem item c.factory delta
    let s := updSup (fun u => { u with cal := setAt u.cal item c' }) s
    if c'.clipped then raise_ 71 item s else s

/-! #### The capsule (R404-R407, 20 R472) -/

def capReg (s : State) : CapRec → State
  | .reg off mask value =>
    match regAt off with
    | some r => writeFields r mask value s
    | none => s
  | _ => s

def capLock (s : State) : CapRec → State
  | .reg off mask value => if bit mask 31 && bit value 31 && (regAt off).any (fun r => r.lock == some off) then setLock off s else s
  | _ => s

/-- The last CAL record of each item. -/
def lastCals (rs : List CapRec) : List (Nat × Int) :=
  rs.foldl (fun l r => match r with | .cal i d => put i d l | _ => l) []

/-- Instance 0's settings: the last INST0 record, or the defaults (R406). -/
def lastInst0 (rs : List CapRec) : Nat × Nat × Nat :=
  rs.foldl (fun x r => match r with | .inst0 reserve limit share => (reserve, limit, share) | _ => x) (64, 512, 100)

/-- Settings applied whatever the LOCK bits hold; LOCK bits after every record. -/
def applySettings (rs : List CapRec) (s : State) : State :=
  let s := capRegs.foldl (fun t r => writeFields r r.fieldMask ((r.flds.map (fun f => f.dflt * 2 ^ f.lo)).sum) t) s
  let s := rs.foldl capLock (rs.foldl capReg s)
  let (reserve, limit, share) := lastInst0 rs
  updInst 0 (fun i => { i with reserve := reserve, limit := limit, share := share }) s

/-- The capsule applied during BOOT: calibration first, then the settings. -/
def applyCapsule (rs : List CapRec) (s : State) : State :=
  let cleared := updSup (fun u => { u with cal := u.cal.zipIdx.map (fun (c, i) => calItem i c.factory 0) }) s
  applySettings rs ((lastCals rs).foldl (fun t e => applyCal e.1 e.2 t) cleared)

/-! #### SETTING_WRITE (R408) -/

def settingRecord (s : State) (o : Op) : Nat × Nat × Nat :=
  let b := inlineRecord s o
  (field b 0 4, field b 4 4, field b 8 4)

def settingWriteSpec : OpSpec :=
  { opcode := 0x0F13, suites := noSuite, param := fun _ p => p == 0, uses := ringUses, units := fun _ => [], slot := fun _ _ _ => 0
    late := fun s o _ =>
      let (off, mask, value) := settingRecord s o
      when_ (o.desc.inLen != 12) .badLength
        ++ (match regAt off with
          | none => [.malformed]
          | some r => when_ (outside mask r.recordMask || outside value mask || (!r.host && mask != 0)) .malformed
              ++ when_ (locked s r && mask &&& r.fieldMask != 0) .notPermitted)
    run := fun s o _ =>
      let (off, mask, value) := settingRecord s o
      match regAt off with
      | none => { st := s, fails := [.malformed] }
      | some r =>
        let t := writeGoverned r mask value s
        { st := t, opdata := leBytes 4 (regWord t off).toNat } }

def execSettingWrite (op : Nat) (inp : OpInput) (s : State) : Host.Outcome State Fault Refusal := .next (dispatchAs settingWriteSpec op inp s)

end Sys2Proof.Machine
end

