-- ==== Sys2Proof/Machine/Update.lean ====
section
/-! DEFINITION. Update sets, the activation record, UPDATE_STAGE and UPDATE_ACTIVATE (18_boot_update R398-R428). -/
namespace Sys2Proof.Machine

/-! #### The capsule's records (R404-R406) -/

/-- 16 bits in two's complement. -/
def signed16 (x : Nat) : Int := if x < 32768 then (x : Int) else (x : Int) - 65536

/-- One record; none where it makes the capsule invalid. -/
def decodeRecord (b : Bytes) : Option CapRec :=
  let (w0, w1, w2, w3) := (field b 2 2, field b 4 4, field b 8 4, field b 12 4)
  if field b 1 1 != 0 then none
  else match field b 0 1 with
    | 1 =>
      match regAt w1 with
      | some r => if w0 = 0 && !outside w2 r.recordMask && !outside w3 w2 then some (.reg w1 w2 w3) else none
      | none => none
    | 2 => if w0 ≤ 0x11 && w1 = 0 && w2 = 0 && w3 < 65536 then some (.cal w0 (signed16 w3)) else none
    | 3 =>
      let (reserve, limit) := (w1 % 65536, w1 / 65536)
      if w0 = 0 && w2 = 0 && rangeIn 64 4096 reserve && reserve ≤ limit && limit ≤ 4096 && w3 ≤ 1000 then some (.inst0 reserve limit w3)
      else none
    | _ => none

/-- All of a list, or nothing. -/
def allSome {α : Type} : List (Option α) → Option (List α)
  | [] => some []
  | none :: _ => none
  | some x :: xs => (allSome xs).map (x :: ·)

/-- A capsule part (R404): its identifier and records. -/
def decodeCapsule (b : Bytes) (len : Nat) : Option (Nat × List CapRec) :=
  let n := field b 2 2
  if field b 0 2 = 1 ∧ n ≤ 4094 ∧ field b 4 4 = 32 + 16 * n ∧ len = 32 + 16 * n ∧ allZero (slice b 12 20) then
    (allSome ((List.range n).map (fun k => decodeRecord (slice b (32 + 16 * k) 16)))).map (field b 8 4, ·)
  else none

/-! #### The microcode bundle (R410, R411) -/

/-- The patch key of stepping B0 and the device's control ROM revision of a class; the spec gives no values. -/
def patchKey : Bytes := algBytes .romKeyHash 32 [16] []
def romRev (cls : Nat) : Nat := algNat .romKeyHash [cls] [] % 65536

/-- A microword of KIND 7, and a trap entry that is not allowed (R409, R411). -/
def badMicroword (w : Nat) : Bool := bits w 23 21 == 7
def badTrap (words w : Nat) : Bool := bits w 30 29 != 0 || (bit w 31 && words ≤ bits w 28 16)

/-- A container's class, PATCH_REV and length; none where it is rejected. -/
def decodeContainer (b : Bytes) : Option (Nat × Nat × Nat) :=
  let (cls, rev, w, t) := (field b 2 1, field b 6 2, field b 8 2, field b 10 2)
  let n := 4 * t + 3 * w
  let (aad, iv, ct, tag) := (b.take 32, slice b 12 12, slice b 32 n, slice b (32 + n) 16)
  let body := algBytes .gcmPlain n [] [patchKey, iv, aad, ct]
  if field b 0 2 = 1 && rangeIn 1 8 cls && field b 3 1 = 0 && field b 4 2 = romRev cls && rev != 0 && w ≤ 8192 && t ≤ 1024
      && field b 0x18 8 = 0 && algBool .patchOk [] [patchKey, iv, aad, ct, tag]
      && (List.range t).all (fun k => !badTrap w (field body (4 * k) 4))
      && (List.range w).all (fun k => !badMicroword (field body (4 * t + 3 * k) 3)) then
    if 48 + n ≤ b.length then some (cls, rev, 48 + n) else none
  else none

/-- The containers from `off` on, each on a 16-byte boundary, no class twice. -/
def decodeContainers (b : Bytes) : Nat → Nat → List (Nat × Nat) → Option (List (Nat × Nat))
  | 0, _, acc => some acc
  | k + 1, off, acc =>
    match decodeContainer (b.drop off) with
    | none => none
    | some (cls, rev, n) =>
      if acc.any (·.1 == cls) then none else decodeContainers b k (ceilDiv (off + n) 16 * 16) (acc ++ [(cls, rev)])

/-- A bundle's PATCH_REV of each class, 0 where no container names it. -/
def decodeBundle (b : Bytes) (len : Nat) : Option (List Nat) :=
  if field b 0 2 = 1 ∧ field b 2 2 ≤ 8 ∧ field b 4 4 = len ∧ field b 12 4 = 0 then
    (decodeContainers b (field b 2 2) 16 []).map (fun rs => (List.range 8).map (fun k => (lookupRev (k + 1) rs).getD 0))
  else none
where
  lookupRev (c : Nat) (rs : List (Nat × Nat)) : Option Nat := (rs.find? (·.1 == c)).map (·.2)

/-- What the engines report under a bundle (R412): what the spec gives no values for is an uninterpreted function of the bundle (log 4). -/
def bundleEngines (b : Bytes) : EngineInfo :=
  let n (k : Nat) : Nat := algNat .patchOk [k] [b]
  normEngines
    { fndsaSpec := n 1, fndsaCtx := algBool .patchOk [2] [b], hqcSpec := n 3
      hqcLens := (List.range 3).map (fun k => (n (4 * k + 4), n (4 * k + 5), n (4 * k + 6), n (4 * k + 7))) }

/-! #### The manifest (R400-R403) -/

/-- A part entry: TYPE with its reserved half, OFFSET, LENGTH and the two digests. -/
structure PartEntry where
  type : Nat
  off : Nat
  len : Nat
  sha512 : Bytes
  sha3 : Bytes
  deriving DecidableEq, Repr

def partEntry (m : Bytes) (k : Nat) : PartEntry :=
  let e := slice m (0x40 + 144 * k) 144
  { type := field e 0 4, off := field e 4 4, len := field e 8 4, sha512 := slice e 0x10 64, sha3 := slice e 0x50 64 }

def partMax (k : Nat) : Nat := [65536, 262144, 524288, 262144].getD k 0

/-- The part layout of R403, in a bank of `size` bytes. -/
def layoutOk (size : Nat) (es : List PartEntry) : Bool :=
  es.zipIdx.all (fun (e, k) => e.type == k + 1 && e.off % 4096 == 0 && 65536 ≤ e.off && e.len ≤ partMax k && e.off + e.len ≤ size)
    && (List.range 4).all (fun i => (List.range i).all (fun j =>
        match es[i]?, es[j]? with
        | some a, some b => a.off + a.len ≤ b.off || b.off + b.len ≤ a.off
        | _, _ => true))

/-- VENDOR_BLOCK covers the manifest's head with the capsule entry after its TYPE as zeros (R401). -/
def vendorCovers (m : Bytes) : Bytes := m.take 0x44 ++ List.replicate 0x8C 0 ++ slice m 0xD0 (0x280 - 0xD0)

def vendorOk (m : Bytes) : Bool :=
  let pk := slice m 0x280 2592
  sha3_256 pk == romHash 4 && mldsa87Ok "KLQ manifest" pk (vendorCovers m) (slice m (0x280 + 2592) 4627)

/-- Who signed the capsule: the owner. -/
def ownerSigned (s : State) (m : Bytes) : Bool := ownerHash s.cus.otp == some (sha3_256 (slice m 0x1EB3 2592))

/-- The keys accepted for CAPSULE_BLOCK (R402). -/
def capsuleKeyOk (s : State) (seen byOwner byVendor : Bool) : Bool :=
  match lcOf s with
  | .blank | .vendorTest | .vendorLocked => byVendor
  | .personalised | .inService => byOwner || (byVendor && !seen)
  | _ => byVendor || byOwner

def capsuleOk (s : State) (seen : Bool) (m : Bytes) : Bool :=
  let pk := slice m 0x1EB3 2592
  capsuleKeyOk s seen (ownerSigned s m) (sha3_256 pk == romHash 4)
    && mldsa87Ok "KLQ capsule" pk (m.take 0x1EB3) (slice m (0x1EB3 + 2592) 4627)

/-- A part's bytes as the bank holds them; erased flash reads as ones (log 15). -/
def partBytes (image : Bytes) (e : PartEntry) : Bytes :=
  (slice image e.off e.len ++ List.replicate e.len 0xFF#8).take e.len

def digestsOk (image : Bytes) (e : PartEntry) : Bool :=
  algBytes .hash 64 [5] [partBytes image e] == e.sha512 && algBytes .hash 64 [9] [partBytes image e] == e.sha3

/-- The set of an image, and the reasons of R420 it is refused for. -/
def checkSet (s : State) (size minSvn : Nat) (seen : Bool) (image : Bytes) : List Nat × SetInfo :=
  let m := image.take 15078
  let es := (List.range 4).map (partEntry m)
  let part (k : Nat) : Bytes := ((es[k]?).map (partBytes image)).getD []
  let len (k : Nat) : Nat := ((es[k]?).map (·.len)).getD 0
  let cap := decodeCapsule (part 0) (len 0)
  let bundle := decodeBundle (part 1) (len 1)
  let uid := slice m 0x10 16
  let headOk := field m 0 2 == 1 && field m 2 2 == 4 && bits (field m 4 4) 31 1 == 0 && field m 0x0E 2 == 0 && allZero (slice m 0x20 32)
  ((if vendorOk m && capsuleOk s seen m then [] else [6])
      ++ (if field m 0x0C 2 < minSvn then [7] else [])
      ++ (if allZero uid || uid == s.cus.otp.uid then [] else [8])
      ++ (if es.all (digestsOk image) then [] else [9])
      ++ (if headOk && layoutOk size es then [] else [10])
      ++ (if cap.isSome && bundle.isSome then [] else [11]),
    { setId := field m 8 4, svn := field m 0x0C 2, raiseFloor := bit (field m 4 4) 0, ownerSigned := ownerSigned s m
      capsuleId := (cap.map (·.1)).getD 0, records := (cap.map (·.2)).getD [], patchRevs := bundle.getD []
      engines := bundleEngines (part 1), digests := es.map (fun e => (e.sha512, e.sha3)) })

/-! #### The activation record (R415) -/

/-- A commit writes the copy with the lower SEQ. -/
def commitRecord (r : ActRec) (s : State) : State :=
  let r := { r with seq := (record_ s).seq + 1 }
  updUp (fun u =>
    match u.copy0, u.copy1 with
    | some a, some b => if a.seq ≤ b.seq then { u with copy0 := some r } else { u with copy1 := some r }
    | some _, none => { u with copy1 := some r }
    | none, _ => { u with copy0 := some r }) s

def putBank (b : Nat) (x : Option SetInfo) (s : State) : State :=
  updUp (fun u => if b = 0 then { u with bank0 := x } else { u with bank1 := x }) s

def bankSize (s : State) : Nat := 2 ^ (s.cus.up.flashLog2 - 1)

/-- Another staging, activation or transition is in progress. -/
def updateBusy (s : State) : Bool :=
  s.im.waits.any (fun w => match w.2 with | .handover _ | .interrupted => true | _ => false)

/-- A refusal with its reason. -/
def refuse (s : State) (st : Status) (r : Nat) : Run := { st := s, fails := [st], opdata := instReason r }

/-- The activation record could not be committed (R427). -/
def recordLost (s : State) : Run := refuse (sendFault 0x164 4 3 0 s) .journalFailed 0x0C

/-! #### UPDATE_STAGE (R419) -/

def stageSteps (o : Op) (i : OpInput) (s : State) : Run :=
  let r := record_ s
  let b := 1 - r.confirmedBank
  let s := putBank b none (commitRecord { r with stageState := 1, stageBank := b } s)
  if !(dataFails (ringUses o.desc) s o i).isEmpty then { st := s }
  else if i.cut = some .early then { st := s, wait := some .interrupted }
  else if !i.flashOk then refuse (sendFault 0x164 5 0 0 s) .updateState 0x0D
  else
    let (reasons, x) := checkSet s (bankSize s) r.minSvn r.ownerSetSeen (inBytes s o i)
    let s := commitRecord { record_ s with stageState := 2 } (putBank b (if reasons.isEmpty then some x else none) s)
    if i.cut = some .late then { st := s, wait := some .interrupted }
    else match reasons with
      | k :: _ => refuse s .manifestInvalid k
      | [] =>
        { st := raise_ 257 (setDetail x.setId b) (commitRecord { record_ s with stageState := 3, stagedId := x.setId } s) }

def updateStageSpec : OpSpec :=
  { opcode := 0x0F0F, suites := noSuite, param := fun _ p => p == 0, units := fun _ => [], slot := fun _ _ _ => 0
    uses := fun _ => { inLen := true, inRef := true, inKinds := hostOnly }
    late := fun s o _ =>
      when_ (!(s.glb.mode == .service || s.glb.mode == .safe || s.glb.mode == .maintenance || s.glb.recoveryHold)) .notPermitted
        ++ when_ (lcOf s == .scrapped) .lifecycleState
        ++ when_ (!rangeIn 15078 (bankSize s) o.desc.inLen) .badLength
    run := fun s o i =>
      if updateBusy s then refuse s .updateState 1
      else if (record_ s).isPending then refuse s .updateState 2
      else if !i.commitOk then recordLost s
      else stageSteps o i s }

def execUpdateStage (op : Nat) (inp : OpInput) (s : State) : Host.Outcome State Fault Refusal := .next (dispatchAs updateStageSpec op inp s)

/-! #### UPDATE_ACTIVATE (R420-R424) -/

/-- The activation goes by warm reset (R418, R424). -/
def byReset (s : State) (o : Op) : Bool :=
  bit (field (inlineRecord s o) 0 4) 0 || s.glb.mode == .safe || s.glb.mode == .maintenance || s.glb.recoveryHold

def activateReasons (s : State) (reset : Bool) : List (Nat × Status) :=
  let r := record_ s
  let x := bankSet s r.stageBank
  (if updateBusy s then [(1, .updateState)] else [])
    ++ (if r.stageState != 3 then [(3, .updateState)] else [])
    ++ (if !reset && (s.glb.mode != .service || !s.cus.up.standbyReady || s.ecl.core) then [(4, .updateState)] else [])
    ++ (if x.any (fun x => !capsuleKeyOk s r.ownerSetSeen x.ownerSigned (!x.ownerSigned)) then [(6, .manifestInvalid)] else [])
    ++ (if x.any (fun x => x.svn < r.minSvn) then [(7, .manifestInvalid)] else [])

/-- Step 5 of R421. -/
def pendingRecord (s : State) : ActRec :=
  let r := record_ s
  { r with isPending := true, pendingBank := r.stageBank, attempts := 0, pendingId := r.stagedId, stageState := 0 }

def activateRun (s : State) (o : Op) (i : OpInput) : Run :=
  let reset := byReset s o
  match activateReasons s reset with
  | (k, st) :: _ => refuse s st k
  | [] =>
    if !reset && !i.flashOk then refuse (sendFault 0x164 1 0 0 s) .manifestInvalid 9
    else if !i.commitOk then recordLost s
    else
      let s := commitRecord (pendingRecord s) s
      let r := record_ s
      if reset then { st := dueReset (raise_ 258 (setDetail r.pendingId r.pendingBank) s) }
      else if i.handover then { st := finishHandover s }
      else { st := enterMode .quiesce s, wait := some (.handover (s.beat + beatsUs 200)) }

def activateSpec : OpSpec :=
  { opcode := 0x0F10, suites := noSuite, param := fun _ p => p == 0, uses := ringUses, units := fun _ => [], slot := fun _ _ _ => 0
    late := fun s o _ =>
      when_ (o.desc.inLen != 4) .badLength ++ when_ (bits (field (inlineRecord s o) 0 4) 31 1 != 0) .malformed
    run := activateRun }

/-- The rows of a hitless activation and of one by reset. -/
def activateHitless : OpSpec := { activateSpec with ready := fun s o => !bit (field (inlineRecord s o) 0 4) 0 }
def activateReset : OpSpec := { activateSpec with ready := fun s o => bit (field (inlineRecord s o) 0 4) 0 }

def execUpdateActivate (op : Nat) (inp : OpInput) (s : State) : Host.Outcome State Fault Refusal := .next (dispatchAs activateHitless op inp s)
def execUpdateActivateReset (op : Nat) (inp : OpInput) (s : State) : Host.Outcome State Fault Refusal :=
  .next (dispatchAs activateReset op inp s)

/-- A hand-over that does not end: the old core resumes, the record goes back, and SERVICE is entered again (R422). -/
def handoverFails (id : Nat) (s : State) : State :=
  let s := sendFault (0x160 + s.glb.activeCore) 3 0 0 s
  let s := commitRecord { record_ s with isPending := false, stageState := 3 } s
  let s := if s.glb.mode == .quiesce then enterMode .service s else s
  completeWait id .updateState (instReason 5) s

/-- HANDOVER_TIMEOUT: 200 µs have passed since step 6. -/
def handoverTimeout (s : State) : State :=
  match handingOver s with
  | some (id, t) => if s.beat < t then s else handoverFails id s
  | none => s

/-- The standby core is lost while it takes the state over: as a hand-over that times out (R425). -/
def standbyLost (s : State) : State :=
  match handingOver s with
  | some (id, _) => if s.ecl.core then handoverFails id s else s
  | none => s

def execHandoverTimeout (s : State) : Host.Outcome State Fault Refusal := .next (handoverTimeout s)

end Sys2Proof.Machine
end

