-- ==== Sys2Proof/Machine/Catalogue.lean ====
section
/-! DEFINITION. The operation catalogue: every opcode of 02_operations R24 with what it is to the path of one operation, and the checks of
descriptor class 0x03 that an entry alone decides (R25, R27-R29; 03 R44-R48). -/
namespace Sys2Proof.Machine

/-- DEBUG_AUTH as one entry: its step is in the input. -/
def debugAuthSpec : OpSpec := { debugSpec 1 with ready := fun _ _ => true }

def catalogueLat : List OpSpec :=
  [kemKeygenSpec, kemEncapsSpec, kemDecapsSpec, mldsaKeygenSpec, mldsaSignSpec, mldsaVerifySpec, fndsaVerifySpec]

def catalogueHf : List OpSpec :=
  [slhKeygenSpec, slhSignSpec, slhVerifySpec, slhPinSpec, slhUnpinSpec, treeBuildSpec, treeReducedSpec, stfKeygenSpec, stfSignSpec,
   stfVerifySpec, stfSplitSpec, stfStatusSpec]

def catalogueCode : List OpSpec := [cmKeygenSpec, cmEncapsSpec, cmDecapsSpec, hqcKeygenSpec, hqcEncapsSpec, hqcDecapsSpec]

def catalogueLn : List OpSpec :=
  [ecKeygenSpec, ecdsaSignSpec, ecdsaVerifySpec, eddsaSignSpec, eddsaVerifySpec, ecdhSpec, rsaKeygenSpec, rsaSignSpec, rsaVerifySpec,
   rsaEncryptSpec, rsaDecryptSpec, dsaVerifySpec]

def catalogueFx : List OpSpec :=
  [streamOpenSpec, streamFeedSpec, streamTailSpec, digestSpec, digestCompareSpec, streamSaveSpec, streamRestoreSpec, gcmEncryptSpec,
   gcmDecryptSpec, macSpec, macCompareSpec]

def catalogueKv : List OpSpec :=
  [importWrappedSpec, importPublicSpec, generateSpec, deriveSpec, exportWrappedSpec, exportPublicSpec, setAttrSpec, invalidateSpec,
   persistSpec, destroySpec, randomSpec, bufCreateSpec, bufLoadSpec, bufFreeSpec, reattestSpec, compositeSignSpec, compositeVerifySpec]

def catalogueMgmt : List OpSpec :=
  [instCreateSpec, instResetSpec, instRemoveSpec, instSetShareSpec, ringCreateSpec, ringDestroySpec, ringCancelSpec, reinitSpec,
   modeSetSpec, faultAckSpec, lcTransitionSpec, zeroiseSpec, debugAuthSpec, injectSpec, updateStageSpec, activateSpec, charterLoadSpec,
   groupControlSpec, settingWriteSpec]

/-- R24. -/
def catalogue : List OpSpec :=
  catalogueLat ++ catalogueHf ++ catalogueCode ++ catalogueLn ++ catalogueFx ++ catalogueKv ++ catalogueMgmt

def specOf (opcode : Nat) : Option OpSpec := catalogue.find? (·.opcode == opcode)

/-- The units an operation occupies. -/
def needs (s : State) (o : Op) : List UnitKind :=
  match specOf o.desc.opcode with
  | none => []
  | some sp => opUnits sp s o

/-- Operand banks the opcode's chapter fixes. -/
def banks (d : Desc) : Option Nat := (specOf d.opcode).bind (fun sp => sp.banks d)

/-! #### Descriptor checks (R39 row 1) -/

/-- The checks a descriptor of a known opcode meets at admission (02 R27, R29-R31; 03 R44-R48). -/
def specChecks (sp : OpSpec) (d : Desc) : List Status :=
  when_ (!sp.suites d.suite) .badSuite
    ++ when_ (snoopRefBad sp d) .badReference
    ++ when_ (sp.suites d.suite && !sp.param d.suite d.param) .badParam
    ++ when_ (malformed (usesOf sp d) d) .malformed
    ++ when_ (refsBad (usesOf sp d) d) .badReference
    ++ sp.more d

/-- The checks of the descriptor class that meet the device's state: what the running set offers, and the buffers named. -/
def stateChecks (s : State) (d : Desc) : List Status :=
  when_ ((specOf d.opcode).any (fun sp => !sp.offered s)) .badSuite ++ when_ (bufRefsBad s d) .badReference

/-- Every check of the descriptor class; an opcode the catalogue lacks is BAD_OPCODE. -/
def descChecks (d : Desc) : List Status :=
  match specOf d.opcode with
  | none => [.badOpcode] ++ when_ (ctlMalformed d) .malformed
  | some sp => specChecks sp d

end Sys2Proof.Machine
end

