-- ==== Sys2Proof/Machine/Admission.lean ====
section
/-! DEFINITION. Admission: what an entry's own fields and its place decide, batches and transaction groups as they form, reservations and
quotas, and the class arbiters (02_operations R25, R39; 03 R45, R58-R64; 14 R315-R322; 20 R464). -/
namespace Sys2Proof.Machine

/-! #### What admission decides of an entry -/

/-- The mode admits an entry of a class on a ring of an instance (01 R22; 18 R418; 20 R464). -/
def modeAdmits (s : State) (inst cls : Nat) : Bool :=
  !s.glb.halted && !s.glb.perst &&
    (match s.glb.mode with
    | .boot => s.glb.recoveryHold && inst == 0
    | .service => true
    | .safe | .maintenance => inst == 0
    | .quiesce | .dormant => inst == 0 && cls == 0x0F)

/-- NOT_PERMITTED as admission decides it (R25; 01 R22; R418). -/
def notPermittedHere (s : State) (inst : Nat) (d : Desc) : Bool :=
  if opClass d = 0x0F then inst != 0 || (s.glb.mode == .boot && d.opcode != 0x0F0F && d.opcode != 0x0F10)
  else s.glb.mode == .safe || s.glb.mode == .maintenance || s.glb.mode == .boot

/-- Opcodes whose output length follows the data or its lengths (R59). -/
def variableOut (d : Desc) : Bool :=
  [0x0221, 0x0222, 0x0611, 0x0612, 0x0515].contains d.opcode
    || ((d.opcode == 0x0604 || d.opcode == 0x0603) && (d.suite == 0x0D02 || d.suite == 0x0D03))

/-- An entry that cannot stand in a batch (R59). -/
def batchBad (d : Desc) : Bool := d.batch && (!(rangeIn 1 6 (opClass d) || opClass d == 8) || variableOut d)

/-- An entry that breaks the group it is the `idx`-th member of (R61). -/
def breaksGroup (d : Desc) (idx : Nat) : Bool := !rangeIn 0x0701 0x070A d.opcode || 16 ≤ idx || (d.fence && idx != 0)

/-- LOCAL outside a group, or naming the same member or a later one (R45). -/
def localBad (d : Desc) (idx : Nat) : Bool :=
  let bad (k : Nat) : Bool := keyPresent k && keyLocal k && (!d.group || idx ≤ keyMember k)
  bad d.keyA || bad d.keyB

/-- The group of a ring that is still open, and its members so far. -/
def openGroup (r : Ring) : Option Group := r.groups.find? (fun g => !g.closed)
def groupIndex (r : Ring) : Nat := ((openGroup r).map (·.members.length)).getD 0

/-- The statuses an entry's own fields and its place give it (R39 rows 1 and 2). -/
def entryFails (s : State) (r : Ring) (d : Desc) : List Status :=
  descChecks d ++ stateChecks s d
    ++ when_ (batchBad d) .malformed
    ++ when_ (localBad d (groupIndex r) || (d.group && breaksGroup d (groupIndex r))) .groupError
    ++ when_ (notPermittedHere s r.inst d) .notPermitted

/-- The entry as it is taken: one the device does not own completes on its own (13 R285). -/
def entryDesc (c : Cached) : Desc :=
  if c.owned then c.desc
  else { c.desc with batch := false, batchLast := false, group := false, groupLast := false, fence := false }

/-- The status admission itself gives an entry: its own failures, and GROUP_ROLLED_BACK in a group that has failed (R62). -/
def decided (s : State) (r : Ring) (c : Cached) : Option Status :=
  if !c.owned then some .malformed
  else
    let d := entryDesc c
    match firstPre (entryFails s r d) with
    | some st => some st
    | none => if d.group && ((openGroup r).map (·.failed.isSome)).getD false then some .groupRolledBack else none

/-! #### Reservations and quotas (14 R315-R317) -/

/-- FENCE: every earlier entry of the ring has been committed (R58); a later group member with FENCE is an error instead (R61). -/
def fenceOk (s : State) (n : Nat) (r : Ring) (d : Desc) : Bool :=
  !d.fence || (d.group && (openGroup r).isSome)
    || ((ringOps s n).isEmpty && r.outq.isEmpty && r.batches.all (·.members.isEmpty) && r.groups.all (·.members.isEmpty))

/-- Within the instance's quota (R317). -/
def quotaOk (s : State) (inst : Nat) : Bool :=
  let i := instOf s inst
  let c := instCount s inst
  c < i.limit && (c < i.reserve || sharedUsed s < 4096 - reservedSum s)

/-- Group members are admitted one by one, each once the one before it has been dispatched or has ended (R62). -/
def memberNext (s : State) (r : Ring) (d : Desc) : Bool :=
  !d.group || (match (openGroup r).bind (·.members.getLast?) with
    | none => true
    | some m => m.done.isSome || ((op? s m.op).map dispatched).getD true)

/-- While UPDATE_ACTIVATE runs, ring 0 admits no other class 0x0F operation (18 R425). -/
def activating (s : State) : Bool := (handingOver s).isSome

/-- R316 for the head of a ring, apart from the share and the grant. -/
def headOk (s : State) (n : Nat) (r : Ring) (c : Cached) : Bool :=
  let d := entryDesc c
  r.enabled && !c.bad && modeAdmits s r.inst (opClass d) && (instOf s r.inst).state == .bound && !stalled s r.inst && fenceOk s n r d
    && memberNext s r d && s.ops.length < 4096 && quotaOk s r.inst && granulesUsed s + opGranules d ≤ 8192
    && !(n == 0 && opClass d == 0x0F && activating s)

/-- The entry skips the arbiter (R316). -/
def skipsArbiter (s : State) (r : Ring) (c : Cached) : Bool :=
  (decided s r c).isSome || (opClass (entryDesc c) == 0x0F && r.inst == 0)

/-! #### Arbiters (R320-R322) -/

/-- The class window. -/
def window (s : State) (cls : Nat) : Nat :=
  let n (k : UnitKind) : Nat := (liveUnits s k).length
  max 1 (match cls with
    | 1 => n .lat
    | 2 => n .hf - min 8 (setting s 0x050020 3 0)
    | 3 => n .hf
    | 4 => n .code + n .elim
    | 5 => n .ln
    | 6 => n .lane + n .gcm
    | 7 => 16
    | _ => 8)

/-- Operations of a class admitted and not yet dispatched. -/
def classWaiting (s : State) (cls : Nat) : Nat := (s.ops.filter (fun o => opClass o.desc == cls && !dispatched o)).length

/-- Rings whose head is of the class, and for which R316 holds apart from the share and the grant. -/
def readyRings (s : State) (cls : Nat) : List (Nat × Nat) :=
  s.qm.rings.filterMap (fun e =>
    match e.2.cache with
    | c :: _ => if opClass (entryDesc c) == cls && !skipsArbiter s e.2 c && headOk s e.1 e.2 c then some (e.1, e.2.inst) else none
    | [] => none)

/-- latch_epoch: shares latched, credits and grants cleared. -/
def latchEpoch (s : State) (a : Arbiter) : Arbiter :=
  { a with grants := 0, credits := [], shares := (s.im.insts.filter (fun e => e.2.share != 0)).map (fun e => (e.1, e.2.share)) }

/-- The eligible instances, each with its latched share, in ascending order. -/
def eligible (a : Arbiter) (rs : List (Nat × Nat)) : List (Nat × Nat) := a.shares.filter (fun e => e.2 != 0 && rs.any (·.2 == e.1))

def creditOf (a : Arbiter) (i : Nat) : Int := (lookup i a.credits).getD 0

/-- The instance with the most credit, the lowest number where they tie. -/
def bestOf (a : Arbiter) : List (Nat × Nat) → Option Nat
  | [] => none
  | e :: es =>
    match bestOf a es with
    | none => some e.1
    | some b => if creditOf a e.1 < creditOf a b then some b else some e.1

/-- grant: credits added, the instance chosen, the total taken from it. -/
def grant (a : Arbiter) (el : List (Nat × Nat)) : Option (Nat × Arbiter) :=
  let a := { a with credits := el.foldl (fun l e => put e.1 ((lookup e.1 l).getD 0 + (e.2 : Int)) l) a.credits }
  match bestOf a el with
  | none => none
  | some b =>
    let total : Nat := (el.map (·.2)).sum
    some (b, { a with credits := put b (creditOf a b - (total : Int)) a.credits, grants := a.grants + 1 })

/-- Round robin by ring number within the granted instance. -/
def nextRing (last : Option Nat) (rs : List Nat) : Option Nat :=
  match last with
  | none => rs.head?
  | some l => (rs.find? (l < ·)).or rs.head?

def arbiterOf (s : State) (cls : Nat) : Arbiter := s.im.arbs.getD (cls - 1) Arbiter.blank

def setArbiter (cls : Nat) (a : Arbiter) (s : State) : State := { s with im := { s.im with arbs := setAt s.im.arbs (cls - 1) a } }

/-- An arbiter that finds nobody eligible starts a new epoch at once (R321, R322). -/
def idleLatch (s : State) (cls : Nat) : State :=
  let a := arbiterOf s cls
  if (eligible a (readyRings s cls)).isEmpty then setArbiter cls (latchEpoch s a) s else s

def idleLatches (s : State) : State := [1, 2, 3, 4, 5, 6, 7, 8].foldl idleLatch s

/-- The arbiter's choice for a class whose window has room: the ring, and the state with the grant made. -/
def arbitrate (cls : Nat) (s : State) : Option (Nat × State) :=
  if window s cls ≤ classWaiting s cls then none
  else
    let s := idleLatch s cls
    let rs := readyRings s cls
    let a := arbiterOf s cls
    match grant a (eligible a rs) with
    | none => none
    | some (i, a) =>
      match nextRing (lookup i a.lastRing) ((rs.filter (·.2 == i)).map (·.1)) with
      | none => none
      | some n =>
        let a := { a with lastRing := put i n a.lastRing }
        some (n, setArbiter cls (if a.grants = 256 then latchEpoch s a else a) s)

/-! #### Batches and groups as they form (03 R59, R61) -/

/-- An entry without BATCH ends an open batch. -/
def closeBatch (r : Ring) : Ring := flushBatches { r with batches := r.batches.map (fun b => { b with closed := true }) }

/-- The open group ends in error: every member so far carries GROUP_ERROR. -/
def breakGroup (r : Ring) : Ring :=
  { r with groups := r.groups.map (fun g =>
      if g.closed then g
      else { g with closed := true, broken := true, failed := g.failed.or (some (((g.members.head?).map (·.op)).getD 0, .groupError)) }) }

/-- What an entry at the head does to the batch and the group it is not part of. -/
def breakAssemblies (d : Desc) (r : Ring) : Ring :=
  let r := if !d.batch && r.batches.any (!·.closed) then closeBatch r else r
  if !d.group && (openGroup r).isSome then breakGroup r else r

/-- A batch entry joins the open batch, or opens one; the 256th closes it (R59). -/
def joinBatch (id beat : Nat) (last : Bool) (r : Ring) : Ring :=
  let add (b : Batch) : Batch :=
    let ms := b.members ++ [{ op := id, since := beat, done := none }]
    { b with members := ms, opened := if b.members.isEmpty then beat else b.opened, closed := last || 256 ≤ ms.length }
  if r.batches.any (!·.closed) then { r with batches := r.batches.map (fun b => if b.closed then b else add b) }
  else { r with batches := r.batches ++ [add { members := [], closed := false, opened := beat }] }

/-- A group entry joins the open group, or opens one. -/
def joinGroup (id beat : Nat) (last : Bool) (r : Ring) : Ring :=
  let m : GroupMember := { op := id, created := none, effects := [], used := [], done := none }
  let add (g : Group) : Group := { g with members := g.members ++ [m], closed := last }
  if (openGroup r).isSome then { r with groups := r.groups.map (fun g => if g.closed then g else add g) }
  else { r with groups := r.groups ++ [add { members := [], closed := false, opened := beat, failed := none, broken := false, inForce := false }] }

/-- What an entry becomes a member of; with BATCH and GROUP both set, of a group (log 143). -/
def joinAssembly (id beat : Nat) (d : Desc) (r : Ring) : Ring :=
  if d.group then
    let breaks := breaksGroup d (groupIndex r)
    let r := joinGroup id beat (d.groupLast && !breaks) r
    if breaks then breakGroup r else r
  else if d.batch then joinBatch id beat d.batchLast r
  else r

/-! #### Admission -/

/-- Buffers an entry names that are live when it is admitted: it may use them to its end (R57). -/
def namedBuffers (s : State) (d : Desc) : List Nat :=
  ([d.inRef, d.auxRef, d.outRef].filter (fun r => refKind r == .buffer)).map bufHandle |>.filter
    (fun h => ((lookup h s.bufs).map (·.live)).getD false)

/-- The stage an operation starts at: class 0x07 passes stages 3 and 4 at once but for BUF_CREATE's banks, and class 0x0F takes neither
energy nor banks (16 R506). -/
def firstStage (d : Desc) : Stage :=
  if d.opcode = 0x0711 then .energised else if opClass d = 7 || opClass d = 0x0F then .leased else .admitted

/-- The operation an admitted entry becomes. -/
def admittedOp (s : State) (n : Nat) (r : Ring) (c : Cached) : Op :=
  let d := entryDesc c
  { id := s.nextOp, ring := n, inst := r.inst, gen := (instOf s r.inst).gen, sqIndex := c.lin % r.size, desc := d,
    stage := firstStage d, preFail := [], inPieces := [], auxPieces := [], outPieces := [], poisonSeen := false, extended := false, energy := 0,
    banks := [], units := [], since := s.beat, dispatch := 0, slot := 0, doneBeat := 0, held := [], bufs := namedBuffers s d,
    cancel := false, checkpoint := false, faulted := false, wipeWait := false, waiting := false, selfFault := none,
    parked := { status := .ok, verdict := .none, out := [], opdata := [], effects := [], edges := [] } }

/-- The entry leaves the cache and becomes an operation; one whose status is decided completes at once. -/
def enterOp (n : Nat) (r : Ring) (c : Cached) (rest : List Cached) (s : State) : State :=
  let o := admittedOp s n r c
  let r' := joinAssembly o.id s.beat o.desc
    { r with cache := rest, sqHead := (c.lin + 1) % (2 * r.size), idxDirty := true
             tailPhase := if c.owned then r.tailPhase else sat 0xFF (r.tailPhase + 1) }
  let t := setRing n r' { s with ops := s.ops ++ [o], nextOp := s.nextOp + 1 }
  match decided s r c with
  | some st => endEarly o st [] t
  | none => t

/-- The head entry of a ring admitted, where R316 holds for it and, where it passes through an arbiter, the arbiter's choice falls on this
ring. -/
def admitHead (n : Nat) (r : Ring) (c : Cached) (rest : List Cached) (s : State) : State :=
  if !headOk s n r c then s
  else if skipsArbiter s r c then
    if (instOf s r.inst).share = 0 then s else enterOp n r c rest s
  else
    match arbitrate (opClass (entryDesc c)) s with
    | none => s
    | some (m, t) => if m = n then idleLatches (enterOp n r c rest t) else s

/-- ADMISSION of the head of ring `n`: it first ends the batch or group it is not part of. -/
def admission (n : Nat) (s : State) : State :=
  match ring? s n with
  | none => s
  | some r =>
    match r.cache with
    | [] => s
    | c :: rest =>
      if !r.enabled || c.bad || s.glb.halted || s.glb.perst then s
      else
        let s := stopMembers n (setRing n (breakAssemblies (entryDesc c) r) s)
        match ring? s n with
        | none => s
        | some r => admitHead n r c rest s

def execAdmission (ring : Nat) (s : State) : Host.Outcome State Fault Refusal := .next (admission ring s)

/-- FETCH: arbiters that were idle until now have latched the shares in force (R321). -/
def execFetch (ring : Nat) (entries : List Bytes) (s : State) : Host.Outcome State Fault Refusal :=
  .next (fetch ring entries (noteAts ring (idleLatches s)))

/-- ASSEMBLY_TIMEOUT of ring `n` (R64): the closing entry of an open group or batch has not been fetched within TIMEOUT. -/
def assemblyTimeout (n : Nat) (s : State) : State :=
  match ring? s n with
  | none => s
  | some r =>
    let late (opened : Nat) : Bool := opened + 125 * max 1 (setting s 0x020100 15 0) ≤ s.beat
    let gFetched := (r.cache.takeWhile (fun c => (entryDesc c).group)).any (fun c => c.desc.groupLast)
    let bFetched := (r.cache.takeWhile (fun c => (entryDesc c).batch)).any (fun c => c.desc.batchLast)
    let r := if ((openGroup r).map (fun g => late g.opened)).getD false && !gFetched then breakGroup r else r
    let r := if r.batches.any (fun b => !b.closed && !b.members.isEmpty && late b.opened) && !bFetched then closeBatch r else r
    stopMembers n (setRing n r s)

def execAssemblyTimeout (ring : Nat) (s : State) : Host.Outcome State Fault Refusal := .next (assemblyTimeout ring s)

end Sys2Proof.Machine
end

