-- ==== Sys2Proof/Machine/Members.lean ====
section
/-! DEFINITION. Routed sessions, attestation, roles and the replication of group keys, as messages between members (19_wyrum_groups R443, R447,
R455-R459; 12_key_vault R269, R270; 07 R157, R162, R163). -/
namespace Sys2Proof.Machine

/-! #### Routed messages arrive (R443, R447, R459) -/

/-- At most 1,024 messages a second from each member are acted on. -/
def admitMessage (beat : Nat) (x : Member) : Option Member :=
  let (k, t) := x.window
  if k != 0 && beat < t + beatsS 1 then (if 1024 ≤ k then none else some { x with window := (k + 1, t) })
  else some { x with window := (1, beat) }

/-- Below the window of 64, or already seen. -/
def replayed (x : Member) (rseq : Nat) : Bool :=
  match x.rxHigh with
  | some h => decide (rseq + 64 < h) || x.rxSeen.contains rseq
  | none => false

/-- What is kept of a message that is acted on: its RSEQ, its place in the second's count, and that the member was heard. -/
def Member.heardAt (x : Member) (rseq beat : Nat) : Member :=
  let high := max rseq (x.rxHigh.getD 0)
  { x with rxHigh := some high, rxSeen := rseq :: x.rxSeen.filter (fun q => high ≤ q + 64), heard := beat }

/-- What a message from a member does, where its session, its RSEQ and its rate let it; `good` where an excluded member is not heard. -/
def fromMember (v : Via) (good : Bool) (f : State → State) (s : State) : State :=
  match member? s v.src with
  | none => s
  | some x =>
    if x.keys.isNone || (good && x.excluded) then dropCount v.port 1 s
    else if replayed x v.rseq then
      raisePort v.port 7 (updPort v.port (fun p => { p with replay := sat 0xFF (p.replay + 1) }) s)
    else match admitMessage s.beat x with
      | none => dropCount v.port 1 s
      | some x => f (updMember v.src (fun _ => x.heardAt v.rseq s.beat) s)

/-! #### Attestation (R458, R459) -/

def attestHours (s : State) : Nat := clip 1 168 (setting s 0x0D0804 15 8) * 450000000000

/-- ATTEST_REQ with a fresh nonce. -/
def askAttest (m : Nat) (s : State) : State :=
  let (nonce, s) := drawBytes 32 s
  sendRouted m 0x48 0 nonce
    (updMember m (fun x => { x with asked := some (nonce, s.beat), nextAttest := s.beat + attestHours s }) s)

/-- The 64 bytes an ATTEST_RESP signs. -/
def attestBytes (a : AttestMsg) : Bytes :=
  fit 32 a.nonce ++ fit 16 a.uid ++ leBytes 4 a.charterSeq ++ leBytes 1 a.state ++ leBytes 1 (ofBool a.debugOpen + 2 * ofBool a.measOk)
    ++ [0, 0] ++ leBytes 4 a.setId ++ leBytes 2 a.svn ++ [0, 0]

/-- Every FX_BOOT_MEAS field is EQUAL. -/
def measOk (s : State) : Bool := s.cus.up.meas.all (· == 1)

/-- What this device answers. -/
def attestOwn (nonce : Bytes) (s : State) : AttestMsg :=
  let r := s.cus.up.running
  let a : AttestMsg :=
    { nonce := nonce, uid := s.cus.otp.uid, charterSeq := (s.grp.charter.map (·.seq)).getD 0, state := (lcOf s).code
      debugOpen := s.cus.session.isSome, measOk := measOk s, setId := (r.map (·.setId)).getD 0, svn := (r.map (·.svn)).getD 0, sig := [] }
  { a with sig := algBytes .mldsaSignature 4627 [3] [ascii "KLQ attest", identityKey s, attestBytes a] }

/-- An excluded member's sessions are closed. -/
def exclude (m : Nat) (s : State) : State :=
  let s := raise_ 228 m (updMember m (fun x => { x with keys := none, helloMine := none, helloPeer := none, ctMine := none
                                                        excluded := true, attested := false, asked := none }) s)
  (List.range 4).foldl (fun t n =>
    if ((t.ports[n]?).map (fun p => p.keys.isSome && p.peer == m)).getD false then
      updPort n (fun p => { p with retryAt := some (t.beat + beatsS 1) }) (endSession n t)
    else t) s

/-- Live group keys of this device. -/
def liveGroupKeys (s : State) : List (Nat × KeySlot) :=
  s.kv.slots.filter (fun e => 15360 ≤ e.1 && e.1 ≤ 16383 && e.2.state == .live)

/-- The primary gives a member that joins every live group key (12 R270). -/
def replicateAll (m : Nat) (s : State) : State :=
  if isPrimary s then (liveGroupKeys s).foldl (fun t e => replicateTo e.1 e.2 m t) s else s

def attestReq (v : Via) (nonce : Bytes) (s : State) : State :=
  fromMember v true (fun s =>
    let a := attestOwn nonce s
    let s := sendRouted v.src 0x49 0 (attestBytes a ++ a.sig) (linkEngine s)
    if v.src = s.grp.primary then tryJoin s else s) s

/-- The member keeps its place only with all of R458. -/
def attestGood (s : State) (x : Member) (nonce : Bytes) (a : AttestMsg) : Bool :=
  mldsa87Ok "KLQ attest" x.identity (attestBytes a) a.sig && a.nonce == nonce && a.state == 4 && !a.debugOpen && a.measOk
    && ((s.grp.charter.map (·.minSvn)).getD 0) ≤ a.svn

def attestResp (v : Via) (a : AttestMsg) (s : State) : State :=
  fromMember v false (fun s =>
    match member? s v.src with
    | none => s
    | some x =>
      match x.asked with
      | none => s
      | some (nonce, _) =>
        let s :=
          if a.charterSeq < ((s.grp.charter.map (·.seq)).getD 0) then
            (securePorts s).foldl (fun t n => if ((t.ports[n]?).map (·.peer == v.src)).getD false then sendCharter n t else t) s
          else s
        if attestGood s x nonce a then
          let s := updMember v.src (fun x => { x with asked := none, attested := true, excluded := false }) s
          if x.attested then s else replicateAll v.src s
        else exclude v.src s) s

/-- ATTEST_INTERVAL: every ATTEST_H hours; an excluded member is given a session to attest in. -/
def attestInterval (m : Nat) (s : State) : State :=
  match member? s m with
  | none => s
  | some x =>
    if s.beat < x.nextAttest then s
    else if x.keys.isSome then askAttest m s
    else if x.excluded then openRouted m (updMember m (fun x => { x with nextAttest := s.beat + attestHours s }) s)
    else s

/-- ATTEST_TIMEOUT: no answer within 1 s. -/
def attestTimeout (m : Nat) (s : State) : State :=
  match (member? s m).bind (·.asked) with
  | some (_, t) => if t + beatsS 1 ≤ s.beat then exclude m s else s
  | none => s

def execAttestReq (via : Via) (nonce : Bytes) (s : State) : Host.Outcome State Fault Refusal := .next (attestReq via nonce s)
def execAttestResp (via : Via) (resp : AttestMsg) (s : State) : Host.Outcome State Fault Refusal := .next (attestResp via resp s)
def execAttestInterval (member : Nat) (s : State) : Host.Outcome State Fault Refusal := .next (attestInterval member s)
def execAttestTimeout (member : Nat) (s : State) : Host.Outcome State Fault Refusal := .next (attestTimeout member s)

/-! #### Routed sessions (R443) -/

/-- R_HELLO_A: our own HELLO_A goes out if it has not, and HELLO_B. -/
def rHelloInA (v : Via) (h : Bytes) (s : State) : State :=
  match member? s v.src with
  | none => s
  | some x =>
    if h.length ≠ 4260 || field h 0 1 ≠ 1 then s
    else match admitMessage s.beat x with
      | none => dropCount v.port 1 s
      | some x =>
        let s := updMember v.src (fun _ => x) s
        let s := if x.helloMine.isSome then s else openRouted v.src (updMember v.src (fun x => { x with keys := none }) s)
        let mine := ((member? s v.src).bind (·.helloMine)).getD []
        let (ct, s) := drawBytes 1568 s
        sendPlain v.src 0x41 (helloB mine h ct s)
          (linkEngine (updMember v.src (fun x => { x with helloPeer := some h, ctMine := some ct }) s))

/-- A satellite asks the primary for the time left of each unconfirmed lease (07 R161). -/
def queryLeases (s : State) : State :=
  s.stf.keys.foldl (fun t e =>
    (e.2.leases.filter (·.deadline.isNone)).foldl (fun t l =>
      sendRouted t.grp.primary 0x66 2
        (leaseBody e.2.keyId e.1 ((selfMember t).getD 0x3FF) l.number l.start l.stop 0 0 0 0) t) t) s

/-- R_HELLO_B: the member is checked under R441 and the keys derived; each session opens with an attestation (R458). -/
def rHelloInB (v : Via) (b : Bytes) (s : State) : State :=
  match member? s v.src with
  | none => s
  | some x =>
    match x.helloMine, x.helloPeer, x.ctMine with
    | some mine, some hello, some ct =>
      if b.length ≠ 6199 || field b 0 1 ≠ 2 then s
      else
        let ctPeer := slice b 4 1568
        if judge s mine hello ct ctPeer (slice b 1572 4627) = .accepted v.src then
          let k := sessionKeys "KLQ wyrum routed" mine hello ct ctPeer
          let s := updMember v.src (fun x =>
            { x with keys := some k, txSeq := 0, rxHigh := none, rxSeen := [], identity := helloId hello, helloMine := none, helloPeer := none
                     ctMine := none, attested := false, heard := s.beat }) (linkEngine s)
          let s := askAttest v.src s
          if v.src = s.grp.primary then queryLeases s else s
        else
          raise_ 228 0x3FF (raisePort v.port 2
            (updMember v.src (fun x => { x with helloMine := none, helloPeer := none, ctMine := none }) s))
    | _, _, _ => s

def execRHelloA (via : Via) (hello : Bytes) (s : State) : Host.Outcome State Fault Refusal := .next (rHelloInA via hello s)
def execRHelloB (via : Via) (hello : Bytes) (s : State) : Host.Outcome State Fault Refusal := .next (rHelloInB via hello s)

/-! #### ROLE (R446; 07 R162, R163) -/

def roleIn (v : Via) (epoch : Nat) (s : State) : State := fromMember v true (fun s => learnEpoch v.src epoch s) s

/-- ROLE_SEND: the primary to the standby every TAKEOVER_MS / 8. -/
def roleSend (s : State) : State :=
  match s.grp.charter, s.grp.standby with
  | some c, some b =>
    if isPrimary s && s.grp.lastRole + beatsMs c.takeoverMs / 8 ≤ s.beat then
      updGrp (fun g => { g with lastRole := s.beat }) (sendRouted b 0x4A 0 (leBytes 4 s.grp.epoch) s)
    else s
  | _, _ => s

def execRole (via : Via) (epoch : Nat) (s : State) : Host.Outcome State Fault Refusal := .next (roleIn via epoch s)
def execRoleSend (s : State) : Host.Outcome State Fault Refusal := .next (roleSend s)

/-! #### Numbers (R456; 12 R269) -/

/-- NUMBER_REQ: the primary reserves a number, with the standby (log 29), and assigns it. -/
def numberReq (v : Via) (ref : Nat) (s : State) : State :=
  fromMember v true (fun s =>
    if !isPrimary s then s
    else match freeGroupNumber s with
      | none => s
      | some n =>
        sendRouted v.src 0x51 1 (leBytes 4 ref ++ leBytes 2 n ++ [0, 0])
          (updGrp (fun g => { g with numbers := put n { sat := v.src, due := s.beat + beatsS 1 } g.numbers }) s)) s

def numberAssign (v : Via) (ref n : Nat) (s : State) : State :=
  fromMember v true (fun s =>
    if v.src ≠ s.grp.primary || n < 15360 || 16383 < n || (slot? s.kv n).isSome then s
    else if s.grp.creating.any (fun c => c.op == ref && c.number.isNone) then takeNumber ref n s else s) s

/-- NUMBER_UNCONFIRMED: the number returns to the free set 1 s after its assignment. -/
def numberUnconfirmed (n : Nat) (s : State) : State :=
  match lookup n s.grp.numbers with
  | some h => if h.due ≤ s.beat then updGrp (fun g => { g with numbers := del n g.numbers }) s else s
  | none => s

def execNumberReq (via : Via) (ref : Nat) (s : State) : Host.Outcome State Fault Refusal := .next (numberReq via ref s)
def execNumberAssign (via : Via) (ref number : Nat) (s : State) : Host.Outcome State Fault Refusal := .next (numberAssign via ref number s)
def execNumberUnconfirmed (number : Nat) (s : State) : Host.Outcome State Fault Refusal := .next (numberUnconfirmed number s)

/-! #### Replication (R457; 12 R269, R270; 07 R157) -/

/-- The replicated key is a public one: its family has only such slots, its length is a public key's, or, where the lengths agree, its usage
names nothing a private part is for (log 27).  A Classic McEliece public key is never in a slot (08 R167). -/
def replicaPublic (e : EngineInfo) (t : Template) (data : Bytes) : Bool :=
  match t.suite / 256 with
  | 7 | 14 => false
  | 3 | 12 => true
  | 10 | 11 => t.usage &&& mask [0, 3, 4, 5, 7] == 0
  | _ => data.length == pubLenOf e t.suite data

/-- The public part of a replicated private key. -/
def replicaPub (e : EngineInfo) (suite : Nat) (data : Bytes) : Bytes :=
  if isStf suite then
    let (l, h, w) := importedParams suite data
    stfPublic suite l h w data
  else derivePub e suite data

/-- The slot a replica makes, owned by instance 0. -/
def replicaSlot (s : State) (i : Incoming) (data : Bytes) : KeySlot :=
  let t := decodeTemplate i.template
  let pub := replicaPublic s.eng.info t data
  { keySlotFrom t t.suite 0 (if pub then [] else data) (if pub then data else replicaPub s.eng.info t.suite data) pub i.lineage false
      (if famOf t.suite = 8 then s.eng.info.hqcSpec else 0) with
    persist := true, state := .live }

/-- A replica committed: a stateful key with its full range, no index of which is held (07 R157): it wants a lease (07 R159). -/
def commitReplica (i : Incoming) (data : Bytes) (s : State) : State :=
  let k := replicaSlot s i data
  let s := updKv (persistSlot i.slot) (updKv (putSlot i.slot k) s)
  if isStf k.suite && !k.publicOnly then
    let (l, h, w) := importedParams k.suite data
    let stf := newStf (slice data 0 16) l h w 0 (2 ^ (l * h)) true false
    wantLease i.slot (takeSet i.slot (setBlocks (stfN (setOf k.suite)) l h)
      (updStf (fun x => { x with keys := put i.slot stf x.keys }) (journal 1 i.slot stf.keyId 0 (2 ^ (l * h)) 1 s)))
  else s

/-- There is room for the replica: granules and blob (12 R244, R266), and for a stateful key a journal record, one more slot and its working
set (07 R136, R143). -/
def replicaRoom (s : State) (i : Incoming) (data : Bytes) : Bool :=
  let k := replicaSlot s i data
  let (l, h, _) := importedParams k.suite data
  (vaultFullFails s s.kv k.granules (some (blobGranules k))).isEmpty
    && (!statefulPrivate k
      || journalRoom s 1 && s.stf.keys.length < 4096 && setBlocks (stfN (setOf k.suite)) l h ≤ freeBlocks s)

/-- Every fragment has come: the key is committed, its number confirmed, and KEY_COMMIT_ACK sent; the primary passes it to every other
member. -/
def finishReplica (i : Incoming) (data : Bytes) (s : State) : State :=
  let s := updGrp (fun g => { g with incoming := g.incoming.filter (fun x => !(x.slot == i.slot && x.from_ == i.from_)) }) s
  let held := (slot? s.kv i.slot).isSome
  if data.length ≠ i.total || i.slot < 15360 || 16383 < i.slot || (!held && !replicaRoom s i data) then s
  else
    let s := if held then s else commitReplica i data s
    let s := updGrp (fun g => { g with numbers := del i.slot g.numbers }) s
    let s := sendRouted i.from_ 0x53 1 (leBytes 2 i.slot ++ [0, 0]) s
    let s := if isPrimary s && !held then
        ((others s).filter (· != i.from_)).foldl (fun t m => replicateTo i.slot (replicaSlot t i data) m t) s
      else s
    if s.grp.joining then tryJoin s else s

def keyReplicate (v : Via) (f : KeyFrag) (s : State) : State :=
  fromMember v true (fun s =>
    if f.count = 0 || f.count ≤ f.frag then s
    else
      let i := (s.grp.incoming.find? (fun x => x.slot == f.slot && x.from_ == v.src)).getD
        { slot := f.slot, from_ := v.src, count := f.count, total := f.total, started := s.beat, template := [], lineage := [], parts := [] }
      if i.count != f.count || i.total != f.total then s
      else
        let i := { i with parts := put f.frag (f.data.take 8000) i.parts
                          template := if f.frag = 0 then f.template else i.template
                          lineage := if f.frag = 0 then f.lineage else i.lineage }
        if (List.range i.count).all (fun j => (lookup j i.parts).isSome) then finishReplica i (assembled i.parts i.count) s
        else updGrp (fun g =>
          { g with incoming := g.incoming.filter (fun x => !(x.slot == i.slot && x.from_ == i.from_)) ++ [i] }) s) s

/-- KEY_REPLICATE_TIMEOUT: fragments incomplete after 1 s are discarded. -/
def keyReplicateTimeout (n : Nat) (s : State) : State :=
  updGrp (fun g => { g with incoming := g.incoming.filter (fun x => !(x.slot == n && x.started + beatsS 1 ≤ s.beat)) }) s

/-- A revocation that the primary and the standby have confirmed completes. -/
def confirmRevokes (s : State) : State :=
  s.grp.revoking.foldl (fun t r =>
    if (keepers t).all r.acks.contains then
      updOp r.op (fun o => { o with waiting := false }) (updGrp (fun g => { g with revoking := g.revoking.filter (·.op != r.op) }) t)
    else t) s

def keyCommitAck (v : Via) (n : Nat) (s : State) : State :=
  fromMember v true (fun s =>
    confirmRevokes (confirmCreates (updGrp (fun g =>
      { g with
        creating := g.creating.map (fun c => if c.number = some n then { c with acks := c.acks ++ [v.src] } else c)
        revoking := g.revoking.map (fun r => if r.slot = n then { r with acks := r.acks ++ [v.src] } else r) }) s))) s

/-- KEY_REVOKE: a replicated invalidation or destruction is applied and confirmed. -/
def keyRevoke (v : Via) (n : Nat) (destroy : Bool) (s : State) : State :=
  fromMember v true (fun s =>
    if n < 15360 || 16383 < n then s
    else
      let s := if (slot? s.kv n).isSome then applyKvState (if destroy then .destroy n else .invalidate n) s else s
      sendRouted v.src 0x53 1 (leBytes 2 n ++ [0, 0]) s) s

/-- A member of a transaction group in force whose revocation was not confirmed in time: its completion says so, and the effects stay
(12 R270; log 137). -/
def failMember (op : Nat) (s : State) : State :=
  { s with qm := { s.qm with rings := s.qm.rings.map (fun e => (e.1, { e.2 with groups := e.2.groups.map (fun g =>
      if !g.inForce then g
      else { g with members := g.members.map (fun m =>
        if m.op = op then { m with done := m.done.map (fun c => { c with status := .replicationFailed, outLen := 0, opdata := [] }) } else m) }) })) } }

/-- REPLICATION_TIMEOUT of an operation: a creation not confirmed within 1 s fails, and the key is erased everywhere it reached; a
revocation not confirmed keeps its local effect. -/
def replicationTimeout (op : Nat) (s : State) : State :=
  let fail (t : State) : State := updOp op (fun o =>
    { o with waiting := false, parked := { o.parked with status := .replicationFailed, verdict := .none, out := [], effects := [] } }) t
  let s := match s.grp.creating.find? (fun c => c.op == op && c.due ≤ s.beat) with
    | none => s
    | some c =>
      let s := updGrp (fun g => { g with creating := g.creating.filter (·.op != op) }) s
      match c.number with
      | none => fail s
      | some n =>
        let s := { s with stf := { s.stf with keys := del n s.stf.keys }, hf := { s.hf with sets := del n s.hf.sets } }
        fail ((others s).foldl (fun t m => sendRouted m 0x54 1 (leBytes 2 n ++ [1, 0]) t) (updKv (unstage n) s))
  match s.grp.revoking.find? (fun r => r.op == op && r.due ≤ s.beat) with
  | none => s
  | some r =>
    failMember op (updOp op (fun o => { o with waiting := false, parked := { o.parked with status := .replicationFailed } })
      (updGrp (fun g => { g with revoking := g.revoking.filter (·.op != r.op) }) s))

def execKeyReplicate (via : Via) (frag : KeyFrag) (s : State) : Host.Outcome State Fault Refusal := .next (keyReplicate via frag s)
def execKeyReplicateTimeout (slot : Nat) (s : State) : Host.Outcome State Fault Refusal := .next (keyReplicateTimeout slot s)
def execKeyCommitAck (via : Via) (slot : Nat) (s : State) : Host.Outcome State Fault Refusal := .next (keyCommitAck via slot s)
def execKeyRevoke (via : Via) (slot : Nat) (destroy : Bool) (s : State) : Host.Outcome State Fault Refusal := .next (keyRevoke via slot destroy s)
def execReplicationTimeout (op : Nat) (s : State) : Host.Outcome State Fault Refusal := .next (replicationTimeout op s)

end Sys2Proof.Machine
end

