-- ==== Sys2Proof/Machine/Leases.lean ====
section
/-! DEFINITION. Lease messages and the timers of leases (19_wyrum_groups R454, R455; 07_stateful_keys R158-R161). -/
namespace Sys2Proof.Machine

/-- A lease message: one below the highest role epoch seen is dropped and counted (R455); a higher one is learned.  LEASE_ACK,
LEASE_REFUSE, LEASE_QUERY, LEASE_STATE and LEASE_RETURN carry no ROLE_EPOCH. -/
def leaseFrom (v : Via) (m : LeaseMsg) (epoch : Bool) (f : State → State) (s : State) : State :=
  fromMember v true (fun s =>
    if epoch && m.epoch < s.grp.epoch then dropCount v.port 1 s
    else f (if epoch then learnEpoch v.src m.epoch s else s)) s

/-- The group key a lease message names. -/
def leaseKey (s : State) (m : LeaseMsg) : Option StfKey :=
  match stf? s m.slot with
  | some k => if k.group && k.keyId == fit 16 m.keyId then some k else none
  | none => none

def refuseLease (v : Via) (m : LeaseMsg) (code : Nat) (s : State) : State :=
  sendRouted v.src 0x63 2 (leaseBody m.keyId m.slot v.src 0 0 0 0 0 m.reqNo code) s

/-- LEASE_REQUEST at the primary (R158, R455). -/
def leaseRequest (v : Via) (m : LeaseMsg) (s : State) : State :=
  leaseFrom v m true (fun s =>
    if !isPrimary s then refuseLease v m 4 s
    else match leaseKey s m with
      | none => refuseLease v m 1 s
      | some k =>
        match k.grants.find? (fun g => g.sat == v.src && g.reqNo == m.reqNo && !g.acked) with
        | some g => if g.mirrorAt.isSome then s else sendGrant m.slot g s
        | none =>
          if 2 ≤ liveGrants s k v.src then refuseLease v m 5 s
          else if k.rangeEnd ≤ k.granted then refuseLease v m 2 s
          else if journalRoom s 1 then grantLease m.slot v.src m.reqNo s else s) s

/-- LEASE_GRANT at a satellite: from the charter's primary or standby primary, at the highest role epoch seen (07 R162). -/
def leaseGrant (v : Via) (m : LeaseMsg) (s : State) : State :=
  leaseFrom v m true (fun s =>
    match s.grp.charter, leaseKey s m with
    | some c, some k =>
      if !(v.src == c.primary || some v.src == c.standby) || k.leases.any (·.number == m.leaseNo) || 2 ≤ k.leases.length || !journalRoom s 1 then s
      else
        sendRouted v.src 0x62 2 (leaseBody m.keyId m.slot ((selfMember s).getD 0x3FF) m.leaseNo 0 0 0 0 0 0)
          (holdLease m.slot m.leaseNo m.start m.stop m.deadline s)
    | _, _ => s) s

/-- A grant of the primary, by satellite and lease number. -/
def updGrant (n sat number : Nat) (f : Grant → Option Grant) (s : State) : State :=
  updKey n (fun k => { k with grants := k.grants.filterMap (fun g => if g.sat = sat ∧ g.number = number then f g else some g) }) s

def leaseAck (v : Via) (m : LeaseMsg) (s : State) : State :=
  leaseFrom v m false (fun s =>
    if isPrimary s && (leaseKey s m).isSome then updGrant m.slot v.src m.leaseNo (fun g => some { g with acked := true }) s else s) s

/-- LEASE_REFUSE at a satellite: LEASE_REFUSED is raised (R158). -/
def leaseRefuse (v : Via) (m : LeaseMsg) (s : State) : State :=
  leaseFrom v m false (fun s =>
    match leaseKey s m with
    | some k =>
      if (k.asking.map (·.1)) = some m.reqNo then
        raise_ 164 m.slot (updKey m.slot (fun k => { k with asking := none, lastRefused := true }) s)
      else s
    | none => s) s

/-- MIRROR at the standby: GRANTED is committed and acknowledged; never for an epoch at or below its own takeover (07 R162). -/
def mirror (v : Via) (m : LeaseMsg) (s : State) : State :=
  leaseFrom v m true (fun s =>
    let deaf := match s.grp.deafTo with | some e => decide (m.epoch ≤ e) | none => false
    match leaseKey s m with
    | none => s
    | some k =>
      if !isStandby s || deaf || v.src ≠ s.grp.primary || !journalRoom s 1 then s
      else
        let g : Grant :=
          { sat := m.sat, number := m.leaseNo, start := k.granted, stop := m.stop, deadline := s.beat + m.deadline, reqNo := 0, mirrorAt := none
            acked := true }
        let s := journal 5 m.slot k.keyId m.stop m.sat m.leaseNo s
        let s := updKey m.slot (fun k =>
          { k with granted := max k.granted m.stop, nextLease := max k.nextLease m.leaseNo
                   grants := if m.leaseNo = 0 then k.grants else k.grants ++ [g] }) s
        sendRouted v.src 0x65 2 (leaseBody m.keyId m.slot m.sat m.leaseNo 0 m.stop m.deadline m.epoch 0 0) s) s

/-- A grant waits for the standby, within its 100 ms (R158). -/
def mirroring (s : State) (g : Grant) : Bool := match g.mirrorAt with | some t => s.beat ≤ t + beatsMs 100 | none => false

/-- MIRROR_ACK at the primary: the grant is sent (R158 step 3); a SOLE primary comes nearer to leaving SOLE (R163). -/
def mirrorAck (v : Via) (m : LeaseMsg) (s : State) : State :=
  leaseFrom v m true (fun s =>
    match leaseKey s m with
    | none => s
    | some k =>
      if !isPrimary s || some v.src ≠ s.grp.standby then s
      else if s.stf.sole then
        -- The standby has the end that is in force now (R163).
        if m.stop = k.granted then
          leaveSole (updGrp (fun g => { g with mirrored := if g.mirrored.contains m.slot then g.mirrored else g.mirrored ++ [m.slot] }) s)
        else s
      else match k.grants.find? (fun g => g.number == m.leaseNo && mirroring s g) with
        | some g => sendGrant m.slot g s
        | none => s) s

/-- LEASE_QUERY at the primary: the time left on its own count, or expired (07 R161). -/
def leaseQuery (v : Via) (m : LeaseMsg) (s : State) : State :=
  leaseFrom v m false (fun s =>
    match leaseKey s m with
    | none => s
    | some k =>
      if !isPrimary s then s
      else
        let left := match k.grants.find? (fun g => g.sat == v.src && g.number == m.leaseNo) with
          | some g => g.deadline - s.beat
          | none => 0
        sendRouted v.src 0x67 2
          (leaseBody m.keyId m.slot v.src m.leaseNo m.start m.stop left 0 0 (if left = 0 then 1 else 0)) s) s

/-- LEASE_STATE at a satellite: the lease is confirmed, or abandoned. -/
def leaseState (v : Via) (m : LeaseMsg) (s : State) : State :=
  leaseFrom v m false (fun s =>
    match leaseKey s m with
    | none => s
    | some k =>
      if v.src ≠ s.grp.primary || !k.leases.any (fun l => l.number == m.leaseNo && l.deadline.isNone) then s
      else if m.code = 0 then
        updKey m.slot (fun k => { k with leases := k.leases.map (fun l =>
          if l.number = m.leaseNo then { l with deadline := some (s.beat + m.deadline) } else l) }) s
      else wantLease m.slot (endLeaseOf m.slot m.leaseNo true s)) s

/-- LEASE_RETURN at the primary: the indices returned are abandoned. -/
def leaseReturn (v : Via) (m : LeaseMsg) (s : State) : State :=
  leaseFrom v m false (fun s =>
    if isPrimary s && (leaseKey s m).isSome then updGrant m.slot v.src m.leaseNo (fun _ => none) s else s) s

def execLeaseRequest (via : Via) (msg : LeaseMsg) (s : State) : Host.Outcome State Fault Refusal := .next (leaseRequest via msg s)
def execLeaseGrant (via : Via) (msg : LeaseMsg) (s : State) : Host.Outcome State Fault Refusal := .next (leaseGrant via msg s)
def execLeaseAck (via : Via) (msg : LeaseMsg) (s : State) : Host.Outcome State Fault Refusal := .next (leaseAck via msg s)
def execLeaseRefuse (via : Via) (msg : LeaseMsg) (s : State) : Host.Outcome State Fault Refusal := .next (leaseRefuse via msg s)
def execMirror (via : Via) (msg : LeaseMsg) (s : State) : Host.Outcome State Fault Refusal := .next (mirror via msg s)
def execMirrorAck (via : Via) (msg : LeaseMsg) (s : State) : Host.Outcome State Fault Refusal := .next (mirrorAck via msg s)
def execLeaseQuery (via : Via) (msg : LeaseMsg) (s : State) : Host.Outcome State Fault Refusal := .next (leaseQuery via msg s)
def execLeaseState (via : Via) (msg : LeaseMsg) (s : State) : Host.Outcome State Fault Refusal := .next (leaseState via msg s)
def execLeaseReturn (via : Via) (msg : LeaseMsg) (s : State) : Host.Outcome State Fault Refusal := .next (leaseReturn via msg s)

/-! #### Timers (07 R158-R160) -/

/-- LEASE_REQUEST_REPEAT: an unanswered request is repeated after 250 ms, with its REQ_NO; where none is under way, after a refusal, a new one
is made as long as the indices left are too few (log 129). -/
def leaseRequestRepeat (n : Nat) (s : State) : State :=
  match stf? s n with
  | none => s
  | some k =>
    match k.asking with
    | none => wantLease n s
    | some (q, t) =>
      if s.beat < t + beatsMs 250 then s
      else
        let s := updKey n (fun k => { k with asking := some (q, s.beat), lastUnreachable := !reachable s s.grp.primary }) s
        sendRouted s.grp.primary 0x60 2 (leaseBody k.keyId n ((selfMember s).getD 0x3FF) 0 0 0 0 s.grp.epoch q 0) s

/-- LEASE_DEADLINE: the lease's remaining indices are abandoned, and the satellite moves to its other lease (R160). -/
def leaseDeadline (n number : Nat) (s : State) : State :=
  match stf? s n with
  | none => s
  | some k =>
    match k.leases.find? (·.number == number) with
    | none => s
    | some l =>
      match l.deadline with
      | none => s
      | some d => if d ≤ s.beat then wantLease n (raise_ 165 n (endLeaseOf n number true s)) else s

/-- STANDBY_ACK_TIMEOUT: no acknowledgement within 100 ms; no grant is sent, and the request is refused (R158). -/
def standbyAckTimeout (n number : Nat) (s : State) : State :=
  match stf? s n with
  | none => s
  | some k =>
    match k.grants.find? (fun g => g.number == number && (match g.mirrorAt with | some t => decide (t + beatsMs 100 ≤ s.beat) | none => false)) with
    | none => s
    | some g =>
      let s := updGrant n g.sat number (fun _ => none) s
      if some g.sat = selfMember s then raise_ 164 n (updKey n (fun k => { k with lastRefused := true }) s)
      else sendRouted g.sat 0x63 2 (leaseBody k.keyId n g.sat 0 0 0 0 0 g.reqNo 3) s

def execLeaseRequestRepeat (slot : Nat) (s : State) : Host.Outcome State Fault Refusal := .next (leaseRequestRepeat slot s)
def execLeaseDeadline (slot number : Nat) (s : State) : Host.Outcome State Fault Refusal := .next (leaseDeadline slot number s)
def execStandbyAckTimeout (slot number : Nat) (s : State) : Host.Outcome State Fault Refusal := .next (standbyAckTimeout slot number s)

end Sys2Proof.Machine
end

