-- ==== Sys2Proof/Machine/Outside.lean ====
section
/-! DEFINITION. The two ports no driver reaches: SPDM requests over DOE or SMBus, and the TAP (22_electrical R492, R493; 17_lifecycle R384,
R395). -/
namespace Sys2Proof.Machine

/-! #### SPDM (R492) -/

/-- SPDM_REQUEST: over DOE, or over MCTP with a PEC that is good or not.  What SPDM 1.3 answers is not in the spec: the answer's bytes and
length are free values, and `sessions` is what the request makes of the sessions open (0 nothing, 1 one more, 2 one fewer; log 30). -/
def spdmRequest (doe pecOk : Bool) (sessions : Nat) (s : State) : State :=
  if s.glb.perst || s.glb.halted || s.glb.mode == .boot && !s.glb.recoveryHold || (!doe && !pecOk) then s
  else
    let (d, s) := draw s
    let (b, s) := freeBytes (freeNat d) s
    let count (n : Nat) : Nat := if sessions = 1 then n + 1 else if sessions = 2 then n - 1 else n
    send (.spdm b) { s with hp := if doe then { s.hp with spdmDoe := count s.hp.spdmDoe } else { s.hp with spdmMctp := count s.hp.spdmMctp } }

def execSpdmRequest (doe pecOk : Bool) (sessions : Nat) (s : State) : Host.Outcome State Fault Refusal :=
  .next (spdmRequest doe pecOk sessions s)

/-! #### The TAP (R493) -/

/-- A debug session can be opened (R394). -/
def debugReachable (s : State) : Bool := s.glb.mode == .maintenance && debugAllowed (lcOf s)

/-- The instruction a code acts as: what is not listed, and the mailbox where no session can be opened, acts as BYPASS. -/
def tapInstr (s : State) (code : Nat) : Nat :=
  if code ≤ 4 then code else if code = 0x10 && debugReachable s then code else 0xFF

/-- BYPASS: one bit of delay. -/
def bypass (data : Bytes) : Bytes := leBytes data.length (2 * leNat data)

/-- TAP_ACCESS: an instruction and the data shifted in; what is shifted out.  The boundary register is 44 cells, and what it captures is the
balls' (log 31).  The mailbox takes DEBUG_AUTH's records. -/
def tapAccess (code : Nat) (data : Bytes) (s : State) : State :=
  let c := tapInstr s code
  let s := { s with hp := { s.hp with tapIr := c } }
  if c = 1 then send (.tap (leBytes 4 0x1910047B)) s
  else if c = 0 ∨ c = 2 then
    let (b, s) := freeBytes 6 s
    send (.tap (leBytes 6 (leNat b % 2 ^ 44))) s
  else if c = 0x10 then
    let mode := bits (field data 0 4) 7 0
    if !rangeIn 1 3 mode || bits (field data 0 4) 31 8 != 0 || data.length != (if mode = 2 then 7287 else 4) then s
    else
      let r := debugDo mode data s
      if r.out.isEmpty then r.st else send (.tap r.out) r.st
  else send (.tap (bypass data)) s

def execTapAccess (code : Nat) (data : Bytes) (s : State) : Host.Outcome State Fault Refusal := .next (tapAccess code data s)

end Sys2Proof.Machine
end

