-- ==== Sys2Proof/Machine/Release.lean ====
section
/-! DEFINITION. Release: what an operation still has to do to the block at its release point, the watchdog, the retry limits, cancelled
operations, and the commit of a transaction group (01_architecture R15; 03 R62-R64, R68; 04 R76, R77, R80; 08 R172, R173; 09 R201; 12 R93,
R505). -/
namespace Sys2Proof.Machine

/-! #### What a release does -/

/-- The slot an operation created still has its ancestors (12 R93, R505). -/
def slotIntact (s : State) (n : Nat) : Bool := ((slot? s.kv n).map (fun k => lineageOk s.kv k.lineage)).getD false

/-- A created slot becomes LIVE, persisted where its template asks for it. -/
def makeLive (n : Nat) (s : State) : State :=
  match slot? s.kv n with
  | some k =>
    if k.state == .staged then
      let s := updKv (putSlot n { k with state := .live }) s
      if k.persist then updKv (persistSlot n) s else s
    else s
  | none => s

/-- A staged slot's number and granules are freed without an epoch increment (R505), one that was damaged meanwhile too, and what the cache
holds for it (06 R121). -/
def dropStaged (n : Nat) (s : State) : State :=
  match slot? s.kv n with
  | some k => if k.state == .staged || k.state == .damaged then dropTrees n (updKv (unstage n) s) else s
  | none => s

/-- The custody of a stateful key that never came into force goes, with its working set. -/
def dropStf (n : Nat) (s : State) : State :=
  { s with stf := { s.stf with keys := del n s.stf.keys }, hf := { s.hf with sets := del n s.hf.sets } }

/-- A buffer that never became live: its banks are wiped and its handle is free again. -/
def dropBuffer (h : Nat) (s : State) : State :=
  match lookup h s.bufs with
  | none => s
  | some b => updKv (unstage h) (returnBanks b.banks { s with bufs := del h s.bufs, bufMem := memErase s.bufMem (bufKey h 0) (2 ^ 22) })

/-- The cap a donor's other splits in flight still hold it to (07 R153), with the split that begins at `first` gone. -/
def otherCap (s : State) (n first : Nat) : Option Nat :=
  (s.ops.flatMap (·.parked.effects)).foldl (fun a e =>
    match e with
    | .stfSplit m f _ => if m = n ∧ f ≠ first then some (min f (a.getD f)) else a
    | _ => a) none

/-- The cap is lifted; a sign given an index no reservation covers has one started for it (07 R144, R153). -/
def liftCap (s : State) (n first : Nat) : State :=
  updKey n (fun k => let k := { k with cap := otherCap s n first }; if k.reservedEnd < k.next then startReserve k else k) s

/-- The SLH_SIGN operations running with a slot: they keep a layer that is unpinned now (06 R124). -/
def signsOf (s : State) (n : Nat) : List Nat :=
  (s.ops.filter (fun o => o.stage == .running && o.desc.opcode == 0x0202 && o.held.any (·.1 == n))).map (·.id)

/-- One effect of an operation released with status OK. -/
def applyEffect (s : State) : Effect → State
  | .slotLive n => if slotIntact s n then makeLive n s else dropStaged n s
  | .pin k => updHf (fun h => { h with pins := adjust k (fun p => { p with live := true }) h.pins }) s
  | .unpin k => sweepWiping (updHf (fun h => { h with pins := adjust k (fun p =>
      { p with live := false, closing := true, users := signsOf s p.slot }) h.pins }) s)
  | .bufLive h => { s with bufs := adjust h (fun b => { b with live := true }) s.bufs }
  | .streamOpen _ => s
  | .stfLive n => journalCreated n s
  | .retire n => applyKvState (.destroy n) s
  | .stfSplit n first last =>
    match stf? s n with
    | none => s
    | some k => updKey n (fun k => { k with rangeEnd := first, cap := otherCap s n first }) (journal 3 n k.keyId first first last s)

/-- One effect of an operation that ended in any other way. -/
def undoEffect (s : State) : Effect → State
  | .slotLive n => dropStaged n s
  | .pin k => updHf (fun h => { h with pins := del k h.pins }) s
  | .unpin _ => s
  | .bufLive h => dropBuffer h s
  | .streamOpen h => updFx (fun f => { f with streams := del h f.streams }) s
  | .stfLive n => dropStf n s
  | .retire _ => s
  | .stfSplit n first _ => liftCap s n first

/-- A created slot lost its parent before the release: OPDATA bytes 0x14-0x15 read 0xFFFF (R93). -/
def lostSlot (s : State) (p : Parked) : Bool := p.effects.any (fun e => match e with | .slotLive n => !slotIntact s n | _ => false)

/-- OPDATA of a release: with a status other than OK it is unused but for the byte counts of TRUNCATED and OVERRUN (03 R65; log 41). -/
def releaseOpdata (s : State) (p : Parked) (st : Status) : Bytes :=
  if st = .ok then (if lostSlot s p then leBytes 2 0xFFFF ++ p.opdata.drop 2 else p.opdata)
  else if st = .truncated ∨ st = .overrun then p.opdata else []

/-! #### Direct outputs of an operation that does not end with OK (03 R69, 08 R173) -/

def OpInput.blank : OpInput :=
  { inp := [], aux := [], exp := [], again := [], poison := false, dma := false, xlat := false, poisonSeen := false, keyFault := false, keyFaultB := false, badTop := false,
    badTree := false, selfCheck := 0, commitOk := true, flashOk := true, fails := [], vddOtp := true, cut := none, handover := true }

/-- The length of an operation's direct output; 0 where its output is staged (R67). -/
def directLen (s : State) (o : Op) : Nat :=
  if o.desc.opcode = 0x0712 then o.desc.outCap
  else
    let n := ((specOf o.desc.opcode).map (fun sp => sp.outLen s o OpInput.blank)).getD 0
    if directOut o n then n else 0

/-- What a direct output leaves behind that ends with `st`, not OK (R56, R69, 08 R173); for a key pair of which no attempt was accepted, host
memory is as it was: the write begins with the acceptance (R67). -/
def spoilDirect (o : Op) (st : Status) (s : State) : State :=
  let n := directLen s o
  if n = 0 || (o.desc.opcode == 0x0401 && refKind o.desc.outRef != .buffer && (st == .retryLimit || st == .rngFail)) then s
  else match undoOf o n with
    | some u => takeBack (spaceOf s o.inst) u s
    | none => s

/-- Operations lost to a reset leave the direct outputs they were writing undefined (01 R17). -/
def spoilRunning (s : State) : State := (s.ops.filter (·.stage == .running)).foldl (fun t o => spoilDirect o .aborted t) s

/-! #### Release -/

/-- Handles and counters that follow the status an operation is released with (10 R211; 08, CODE_KG_STATS). -/
def releaseMarks (o : Op) (st : Status) (s : State) : State :=
  if o.desc.opcode = 0x0603 then
    if st = .ok ∨ st = .truncated ∨ st = .overrun then updFx (fun f => { f with streams := del (keySlot o.desc.keyA) f.streams }) s else s
  else if (o.desc.opcode = 0x0401 ∨ o.desc.opcode = 0x0411) ∧ st = .ok then
    { s with eng := { s.eng with cmKeypairs := sat 0xFFFF (s.eng.cmKeypairs + 1) } }
  else s

/-- The status at the release: a faulted unit's operation carries ENGINE_FAULT, or the lower code it already had (R39 row 10). -/
def releaseStatus (o : Op) : Status :=
  if o.faulted then (firstSlot ((if o.parked.status = .ok then [] else [o.parked.status]) ++ [.engineFault])).getD .engineFault
  else o.parked.status

/-- A group key whose operation does not end with OK is erased everywhere it reached (12 R269); a revocation keeps its local effect. -/
def abandonGroupKey (id : Nat) (s : State) : State :=
  let ns := (s.grp.creating.filter (·.op == id)).filterMap (·.number)
  let s := updGrp (fun g => { g with creating := g.creating.filter (·.op != id), revoking := g.revoking.filter (·.op != id) }) s
  ns.foldl (fun t n => (others t).foldl (fun t m => sendRouted m 0x54 1 (leBytes 2 n ++ [1, 0]) t) (dropStf n (dropStaged n t))) s

/-- An operation leaves the release buffer with a status: its effects are made or undone, and its completion goes on.  A completion of an
old generation is discarded with what it had staged (14 R311). -/
def releaseWith (o : Op) (st : Status) (s : State) : State :=
  let ok := st == .ok && o.gen == (instOf s o.inst).gen
  let p := o.parked
  let c := mkCompletion s o st (if st = .ok ∨ st = .truncated ∨ st = .overrun then p.verdict else .none) p.out (releaseOpdata s p st)
  let s := releaseMarks o st s
  let s := if o.desc.group then s else if ok then p.effects.foldl applyEffect s else p.effects.foldl undoEffect s
  let s := if ok then s else abandonGroupKey o.id (spoilDirect o st s)
  settleCancels (settle o c s)

/-- EXT_WORK and EXT_SUPPLY: an extended release is put down to the engine where it had not finished at the first multiple. -/
def countExtended (o : Op) (s : State) : State :=
  if o.doneBeat ≤ o.dispatch + o.slot then { s with im := { s.im with extSupply := sat 0xFFFF (s.im.extSupply + 1) } }
  else { s with im := { s.im with extWork := sat 0xFFFF (s.im.extWork + 1) } }

/-- The beat is a release point of the operation: its dispatch and a whole multiple of its slot (R70, R76). -/
def atMultiple (s : State) (o : Op) : Bool :=
  0 < o.slot && o.dispatch < s.beat && (s.beat - o.dispatch) % o.slot == 0

/-- RELEASE: at the first multiple at which the engine has finished and the supply and temperature are in range (R76).  A cancelled
operation goes by ABORT_RELEASE. -/
def release (id : Nat) (s : State) : State :=
  match op? s id with
  | none => s
  | some o =>
    if o.stage != .finished || o.cancel || !atMultiple s o || !supplyOk s then s
    else
      let ext := o.dispatch + o.slot < s.beat
      let o := { o with extended := o.extended || ext }
      releaseWith o (releaseStatus o) (if ext then countExtended o s else s)

def execRelease (op : Nat) (s : State) : Host.Outcome State Fault Refusal := .next (release op s)

/-! #### Multiples at which an unfinished operation ends -/

/-- The beat is a multiple of the operation's slot, the `m`th or, where the limit was lowered meanwhile, a later one (log 139), and the engine
has not finished; one that waits for another agent is not the unit's to end (log 40). -/
def unfinishedAt (s : State) (o : Op) (m : Nat) : Bool :=
  o.stage == .running && opClass o.desc != 0x0F && !o.waiting && o.dispatch + m * o.slot ≤ s.beat && atMultiple s o

/-- The units a hung operation's engine is: for a compound operation every one it still holds (log 111), otherwise the first, which a snoop
lane is not. -/
def hungUnits (o : Op) : List UnitRef := if opClass o.desc = 8 then o.units else o.units.take 1

/-- WATCHDOG: the unit is declared faulted and eclipsed, and its operation is released with ENGINE_FAULT (R77). -/
def watchdog (id : Nat) (s : State) : State :=
  match op? s id with
  | none => s
  | some o =>
    if !unfinishedAt s o (watchdogMult s) || o.cancel || retryLimited o.desc.opcode then s
    else
      let t := (hungUnits o).foldl (fun t u => strand needs (sendFault (unitSource u) 1 2 0 t)) s
      match op? t id with
      | none => t
      | some o => releaseWith { o with faulted := true, extended := true } (releaseStatus { o with faulted := true })
          (sweepWiping (returnBanks o.banks (countExtended { o with doneBeat := s.beat } t)))

def execWatchdog (op : Nat) (s : State) : Host.Outcome State Fault Refusal := .next (watchdog op s)

/-- A key generation without success at MAX_MULT ends with RETRY_LIMIT: the unit is not eclipsed and returns what it holds. -/
def retryLimit (opcode off id : Nat) (count : State → State) (s : State) : State :=
  match op? s id with
  | none => s
  | some o =>
    if o.desc.opcode != opcode || !unfinishedAt s o (maxMult s off) || o.cancel then s
    else
      -- A lower code its operands have already met stands (02 R39).
      let st := (firstSlot ((if o.parked.status = .ok then [] else [o.parked.status]) ++ [.retryLimit])).getD .retryLimit
      let o := { o with extended := true, parked := { o.parked with status := st, verdict := .none, out := [] } }
      switchUnits o.units (sweepWiping (releaseWith o st (returnBanks o.banks (countExtended { o with doneBeat := s.beat } (clearWork o.units (count s))))))

def cmRetryLimit (id : Nat) (s : State) : State :=
  retryLimit 0x0401 0x060020 id (fun s => { s with eng := { s.eng with cmLimits := sat 0xFFFF (s.eng.cmLimits + 1) } }) s

def rsaRetryLimit (id : Nat) (s : State) : State :=
  retryLimit 0x0511 0x070020 id (fun s => { s with eng := { s.eng with lnLimits := sat 0xFFFF (s.eng.lnLimits + 1) } }) s

def execCmRetryLimit (op : Nat) (s : State) : Host.Outcome State Fault Refusal := .next (cmRetryLimit op s)
def execRsaRetryLimit (op : Nat) (s : State) : Host.Outcome State Fault Refusal := .next (rsaRetryLimit op s)

/-! #### Cancelled operations (03 R68, 04 R80) -/

/-- An abort counts as a change of owner of a long-number unit (09 R186). -/
def dirtyUnits (o : Op) (s : State) : State :=
  dirty ((o.units.filter (·.kind == .ln)).map (·.num)) s

/-- CANCEL_CHECKPOINT: a cancelled operation that is still running takes its checkpoint; its banks are wiped and its unit is free. -/
def cancelCheckpoint (id : Nat) (s : State) : State :=
  match op? s id with
  | none => s
  | some o =>
    if o.stage != .running || !o.cancel || opClass o.desc = 0x0F then s
    else
      let s := returnBanks o.banks (dirtyUnits o (failStream o s))
      let s := unyield id s
      let s := updOp id (fun o =>
        { o with stage := .finished, doneBeat := s.beat, banks := [], waiting := false, checkpoint := true
                 parked := { o.parked with status := .aborted, verdict := .none, out := [] } }) s
      switchUnits o.units (resumeYielded (sweepWiping s))

def execCancelCheckpoint (op : Nat) (s : State) : Host.Outcome State Fault Refusal := .next (cancelCheckpoint op s)

/-- ABORT_RELEASE: at dispatch and a whole multiple of 6,250 beats, once the checkpoint has been taken (R80). -/
def abortRelease (id : Nat) (s : State) : State :=
  match op? s id with
  | none => s
  | some o =>
    if o.stage == .finished && o.cancel && o.checkpoint && o.dispatch < s.beat && (s.beat - o.dispatch) % 6250 == 0 then
      releaseWith o .aborted s
    else s

def execAbortRelease (op : Nat) (s : State) : Host.Outcome State Fault Refusal := .next (abortRelease op s)

/-! #### Groups and the completion writer -/

/-- The member whose slot lost an ancestor while the group was staged (R63). -/
def revokedMember (s : State) (g : Group) : Option Nat :=
  (g.members.find? (fun m => !lineageOk s.kv m.used)).map (·.op)

/-- A member's completion as a rolled-back group reports it. -/
def rolledBack (m : GroupMember) (st : Status) : Option Completion :=
  m.done.map (fun c => { c with status := st, verdict := .none, outLen := 0, opdata := [], writes := [] })

/-- A group that broke: every member carries GROUP_ERROR, or what its own descriptor failed with first (R61, R64; 02 R39). -/
def brokenStatus (c : Completion) : Status := if preRow c.status = 1 then c.status else .groupError

/-- The completions of a group that does not commit (R62, R68): the first member in ring order that failed keeps its status. -/
def failedCompletions (g : Group) (why : Status) : List Completion :=
  if g.broken then g.members.filterMap (fun m => (m.done.map brokenStatus).bind (rolledBack m))
  else
    let own (m : GroupMember) : Bool := (m.done.map (fun c => c.status != .ok && c.status != .groupRolledBack)).getD false
    let first := ((g.members.find? own).or g.members.head?).map (·.op)
    g.members.filterMap (fun m =>
      rolledBack m (if some m.op = first then (if own m then (m.done.map (·.status)).getD why else why) else .groupRolledBack))

/-- Nothing of a rolled-back group is left: the numbers it took are free again, and a group key is erased everywhere it reached. -/
def rollbackMember (s : State) (m : GroupMember) : State :=
  match m.created with
  | none => s
  | some n =>
    let s := dropStf n (dropStaged n s)
    if 15360 ≤ n then (others s).foldl (fun t d => sendRouted d 0x54 1 (leBytes 2 n ++ [1, 0]) t) s else s

/-- A member's staged effects come into force; those on a group key are told to the members, whose confirmation the group waits for
(12 R270). -/
def commitMember (s : State) (m : GroupMember) : State :=
  m.effects.foldl (fun t e =>
    let t := applyKvState e t
    match revoked e with
    | some (n, code) => if inDeviceGroup t then askRevoke n code m.op t else t
    | none => t) s

/-- Outputs written before any completion of the group (R62). -/
def writeOutputs (cs : List Completion) (s : State) : List Completion × State :=
  cs.foldl (fun acc c => let r := commitData .ok c acc.2; (acc.1 ++ r.1, r.2)) ([], s)

/-- A group rolls back, member `id` with a status of its own. -/
def rollBack (g : Group) (id : Nat) (st : Status) (s : State) : List Completion × State :=
  (g.members.filterMap (fun m => rolledBack m (if m.op = id then st else .groupRolledBack)), g.members.foldl rollbackMember s)

/-- The result write of a member fails while its group commits (R49, 13 R294, 15 R334): the outputs before it have been written, and the
group rolls back (R62). -/
def failOutput (g : Group) (k : Nat) (st : Status) (s : State) : List Completion × State :=
  let cs := g.members.filterMap (·.done)
  match g.members[k]?, cs[k]? with
  | some m, some c => rollBack g m.op st (failPieces st c.inst c.writes ((cs.take k).foldl (fun t c => writePieces c.inst c.writes t) s))
  | _, _ => (cs, s)

/-- The failure meets member `k`'s output. -/
def memberFails (g : Group) (k : Nat) (st : Status) : Bool :=
  st != .ok && ((g.members[k]?).bind (·.done)).any (fun c => canFail st c.writes)

/-- What a group commits with: its completions, once every output is written, and whether it came into force; `st` is what the write of
member `k`'s output meets. -/
def groupOutcome (g : Group) (k : Nat) (st : Status) (s : State) : List Completion × State × Bool :=
  let bad := g.members.any (fun m => (m.done.map (·.status != .ok)).getD true)
  if bad || g.failed.isSome || g.broken then
    (failedCompletions g ((g.failed.map (·.2)).getD .groupError), g.members.foldl rollbackMember s, false)
  else match revokedMember s g with
    | some id => let r := rollBack g id .keyRevoked s; (r.1, r.2, false)
    | none =>
      if memberFails g k st then let r := failOutput g k st s; (r.1, r.2, false)
      else
        let r := writeOutputs (g.members.filterMap (·.done)) s
        (r.1, g.members.foldl commitMember r.2, true)

/-- What a member of a group revoked still waits to be confirmed. -/
def revoking (s : State) (g : Group) : Bool := s.grp.revoking.any (fun r => g.members.any (·.op == r.op))

/-- A group leaves its ring, and its completions join the completion writer's queue in ring order. -/
def finishGroup (n : Nat) (g : Group) (cs : List Completion) (s : State) : State :=
  settleCancels (cs.foldl (fun t c => pushOut n c t) (updRing n (fun r => { r with groups := r.groups.erase g }) s))

/-- GROUP_COMMIT of ring `n`: its first group all of whose members have been released commits, or rolls back (R62, R63), where memory
requests can be issued.  One that revoked group keys ends when that is confirmed, or has failed to be (12 R270). -/
def groupCommit (n : Nat) (st : Status) (k : Nat) (s : State) : State :=
  if !memoryOk s then s else
  match (ring? s n).bind (fun r => r.groups.find? (fun g => g.closed && g.members.all (·.done.isSome))) with
  | none => s
  | some g =>
    if g.inForce then (if revoking s g then s else finishGroup n g (g.members.filterMap (·.done)) s)
    else
      let (cs, t, force) := groupOutcome g k st s
      if force && revoking t g then
        let held := { g with inForce := true, members := (g.members.zip cs).map (fun mc => { mc.1 with done := some mc.2, effects := [] }) }
        updRing n (fun r => { r with groups := r.groups.map (fun x => if x = g then held else x) }) t
      else finishGroup n g cs t

/-- How a result write ends, as a status. -/
def writeStatus (outcome : CommitOutcome) : Status :=
  match outcome with | .done => .ok | .translation => .dmaTranslation | .poison => .poisonConsumed

def execGroupCommit (write : GroupWrite) (s : State) : Host.Outcome State Fault Refusal :=
  .next (groupCommit write.ring (writeStatus write.outcome) write.member s)

/-- COMMIT of the front completion of a ring (13 R293, R294; 15 R334). -/
def execCommit (ring : Nat) (outcome : CommitOutcome) (s : State) : Host.Outcome State Fault Refusal :=
  .next (commit ring (writeStatus outcome) s)

end Sys2Proof.Machine
end

