-- ==== Sys2Proof/Machine/Path.lean ====
section
/-! DEFINITION. The commands of the path itself, which serve every opcode: energy, banks, dispatch, the engine's end, and the fault messages
that meet it (01_architecture R14-R16, R502, R503; 10 R221; 16 R357, R372). -/
namespace Sys2Proof.Machine

def execEnergyGrant (op : Nat) (s : State) : Host.Outcome State Fault Refusal := .next (energyGrant needs op s)

/-- `n` is how many operand banks the engine takes, where its chapter leaves it open (log 7). -/
def execBankLease (op n : Nat) (s : State) : Host.Outcome State Fault Refusal := .next (bankLease needs banks op n s)

def execLaneYield (op n : Nat) (s : State) : Host.Outcome State Fault Refusal := .next (laneYield needs banks op n s)

/-- DISPATCH of an operation by the meaning of its own opcode (R503). -/
def dispatch (id : Nat) (i : OpInput) (s : State) : State :=
  match (op? s id).bind (fun o => specOf o.desc.opcode) with
  | none => s
  | some sp => dispatchAs sp id i s

def execDispatch (op : Nat) (inp : OpInput) (s : State) : Host.Outcome State Fault Refusal := .next (dispatch op inp s)

/-- ENGINE_DONE: a unit whose operation was being cancelled has been aborted (09 R186). -/
def engineEnd (id : Nat) (s : State) : State :=
  match op? s id with
  | none => s
  | some o => engineDone id (if o.stage == .running && o.cancel then dirtyUnits { o with units := if opClass o.desc = 8 then o.units.take 1 else o.units } s else s)

def execEngineDone (op : Nat) (s : State) : Host.Outcome State Fault Refusal := .next (engineEnd op s)

/-- FAULT_MESSAGE: the 64 bits of a message are collected and acted on (R351-R362); a die left with fewer than two healthy sensors raises
THERM (16 R376), and operations whose class has lost its last unit go to their pre-dispatch outcome (01 R502). -/
def faultMessage (wire : Nat) (s : State) : State :=
  strand needs (checkSensors (standbyLost (memMessage (decodeFault wire) (receiveFault (decodeFault wire) s))))

/-- SCRUB_READ: a control store lost in it strands what needs its class (15 R334, R339; 01 R502). -/
def execScrubRead (addr : Nat) (own : Nat) (slot tree : Option Nat) (passEnd : Bool) (s : State) : Host.Outcome State Fault Refusal :=
  .next (strand needs (scrubRead addr (seenOf own) slot tree passEnd s))

def execFaultMessage (wire : Nat) (s : State) : Host.Outcome State Fault Refusal := .next (faultMessage wire s)

end Sys2Proof.Machine
end

