-- ==== Sys2Proof/Machine/Resets.lean ====
section
/-! DEFINITION. Cold reset, warm reset, FLR and BOOT (20_modes_resets R468-R473; 18_boot_update R413-R418; 07 R150; 12 R267). -/
namespace Sys2Proof.Machine

/-! #### What a cold or a warm reset leaves (20 R471) -/

/-- Slots that are not persisted are wiped and their numbers freed; persisted ones wait in MRAM for the restore (12 R247). -/
def resetVault (s : State) : State :=
  let s := wipeVolatile { s with ops := [] }
  let down (e : Entropy) (_ : Unit) : Entropy := { e with ok := false, fails := 0 }
  updKv (fun v =>
    { v with
      slots := v.slots.filter (fun e => e.2.state == .retired)
      src0 := down v.src0 (), src1 := down v.src1 (), drbgs := v.drbgs.map (fun _ => Drbg.blank), yieldKey := [] }) s

/-- The collector after a warm reset: records and counts stay, the running state does not. -/
def warmCollector (c : Collector) : Collector :=
  { c with safeByFault := false, sequences := [], faultNState := true, faultNHold := 0, faultNBoot := true }

/-- The supervisor after a warm reset: supplies, temperatures and the clock are what they are; sensor eclipses end (16 R376). -/
def warmSup (u : Supervisor) : Supervisor :=
  let sensor (x : Nat) : Bool := rangeIn 0x148 0x14F x && !u.thermN
  { u with
    fc := { warmCollector u.fc with live := u.fc.live.filter (!sensor ·), liveDevice := u.fc.liveDevice.filter (!sensor ·) }
    sensors := u.sensors.map (fun x => { x with eclipsed := false }), thermal := none }

/-- The supervisor after a cold reset. -/
def coldSup (u : Supervisor) : Supervisor :=
  { u with
    fc := { Collector.blank with blackBox := u.fc.blackBox }
    supplies := u.supplies.map (fun x => { x with warn := false, belowRange := false })
    sensors := u.sensors.map (fun x => { x with eclipsed := false })
    brownout := false, liftAt := none, thermal := none, thermN := false, shutdown := false }

/-- The custody state over a reset: OTP and MRAM stay. -/
def resetCustody (cold : Bool) (c : Custody) : Custody :=
  { c with
    bootEpoch := if cold && c.lc == .inService then c.bootEpoch + 1 else c.bootEpoch
    authFails := if cold then 0 else c.authFails, tamperLatched := if cold then 0 else c.tamperLatched
    tamperCount := if cold then 0 else c.tamperCount
    challenge := none, session := none, resetDue := none
    up := { c.up with running := none, switching := [], step := 0, result := 0, fellBack := false, standbyReady := false, meas := [0, 0, 0, 0] } }

/-- The group over a reset: charter and roster stay in MRAM, sessions and routes do not. -/
def resetGroup (cold : Bool) (g : DeviceGroup) : DeviceGroup :=
  { g with
    joined := false, members := g.members.map (fun e => (e.1, { blankMember with identity := e.2.identity, heard := if cold then 0 else e.2.heard }))
    lastRoute := 0, lastRole := 0, creating := [], revoking := [], incoming := [], numbers := [], dormantUse := none }

/-- Custody over a reset: a primary's grants do not outlive its cold reset (07 R161), and a grant not sent is abandoned (07 R152). -/
def resetStf (cold : Bool) (x : Stateful) : Stateful :=
  { x with keys := x.keys.map (fun e =>
      (e.1, { e.2 with
        grants := if cold then [] else e.2.grants.filter (fun g => g.mirrorAt.isNone)
        asking := none, reserving := none, cap := none, setReady := false
        leases := e.2.leases.map (fun l => { l with deadline := none }) })) }

/-- Everything but the time, the counts of resets and the cause. -/
def hardReset (cold : Bool) (s : State) : State :=
  let s := resetVault (spoilRunning s)
  { s with
    regs := defaultRegs (if cold then [] else s.regs)
    hp := { State.reset.hp with tapIr := s.hp.tapIr }, qm := State.reset.qm, im := State.reset.im, ecl := State.reset.ecl, hf := State.reset.hf, fx := State.reset.fx
    mem := { Fabric.blank with remaps := s.mem.remaps, bistFailed := s.mem.bistFailed }
    sup := if cold then coldSup s.sup else warmSup s.sup
    eng := { State.reset.eng with info := s.eng.info }
    ports := State.reset.ports, stf := resetStf cold s.stf, cus := resetCustody cold s.cus, grp := resetGroup cold s.grp
    bufs := [], bufMem := [] }

/-- A cold reset (R468): the beat count restarts. -/
def coldReset (cause : Nat) (s : State) : State :=
  let s := hardReset true s
  { s with beat := 0, glb := { State.reset.glb with cause := cause } }

/-- A warm reset (R469): the black-box copy is taken before any state is cleared.  THERMAL_SHUTDOWN's halt outlasts it (16 R377). -/
def warmReset (cause : Nat) (s : State) : State :=
  let s := hardReset false (blackBox (closeWindow s))
  { s with glb :=
      { State.reset.glb with
        beatHi := s.glb.beatHi, cause := cause, halted := s.sup.shutdown, warmCount := sat 0xFF (s.glb.warmCount + 1), flrCount := s.glb.flrCount
        perst := cause == 2 } }

/-- COLD_RESET: POR_N is asserted, or power is removed. -/
def execColdReset (s : State) : Host.Outcome State Fault Refusal := .next (coldReset 0 s)

/-- SUPPLY_RESET_TRIP: a supply has been below its reset threshold for 16 beats (16 R373, R375); the black box keeps the trip. -/
def supplyTrip (n mv : Nat) (s : State) : State :=
  if 6 ≤ n || resetMv n ≤ mv then s
  else
    let r := recOf s { source := 0x140 + n, kind := 3, severity := 4, sequence := nextSeq (0x140 + n) s, address := mv } 4 false
    let s := updFc (fun c => { c with blackBox := ({ first := some r, log := c.log } :: c.blackBox).take 16 }) s
    coldReset 1 (setSupply n mv (fun x => x) s)

def execSupplyResetTrip (supply mv : Nat) (s : State) : Host.Outcome State Fault Refusal := .next (supplyTrip supply mv s)

/-- WARM_RESET: PERST# (cause 2), or a hot reset or link down (cause 3). -/
def execWarmReset (cause : Nat) (s : State) : Host.Outcome State Fault Refusal :=
  .next (if cause = 2 ∨ cause = 3 then warmReset cause s else s)

/-- CUSTODY_RESET: the reset that a transition, a failed bank or an activation asked for is due (17 R389, 18 R414, R424). -/
def execCustodyReset (s : State) : Host.Outcome State Fault Refusal :=
  .next (match s.cus.resetDue with
    | some t => if t ≤ s.beat then warmReset 5 s else s
    | none => s)

/-- GLB_SYS_RESET written with its key starts a warm reset (R469). -/
def sysReset (w : Nat) (s : State) : State :=
  if w = 0xA5A5 && bar0Ok s 0x000018 then warmReset 4 s else s

def execGlbSysReset (w : Nat) (s : State) : Host.Outcome State Fault Refusal := .next (sysReset w s)

/-! #### FLR (R470) -/

/-- Units whose cancelled work is wiped with them (R471, 09 R186). -/
def wipeRunning (s : State) : State :=
  dirty (((busyUnits s).filter (·.kind == .ln)).map (·.num)) s

/-- Step 2: operations cancelled, their banks returned, their streams marked, held completions discarded, generations incremented. -/
def flrDrop (s : State) : State :=
  let s := wipeRunning (spoilRunning s)
  let s := s.ops.foldl (fun t o => returnBanks o.banks t) s
  { s with
    ops := []
    im := { s.im with
      waits := s.im.waits.filter (fun w => w.2 == .interrupted)
      insts := s.im.insts.map (fun e => (e.1, { e.2 with gen := (e.2.gen + 1) % 256 })) }
    fx := { s.fx with yielded := [], saved := [] } }

/-- Step 3: instances 1-1,023 free, rings disabled, volatile slots, buffers and streams wiped; persisted slots of freed instances pass to
instance 0. -/
def flrFree (s : State) : State :=
  let s := wipeVolatile (freeRings (fun _ _ => true) s)
  let s := updKv (fun v => { v with slots := v.slots.map (fun e => (e.1, { e.2 with owner := 0 })) }) s
  { s with
    im := { s.im with
      insts := s.im.insts.map (fun e =>
        if e.1 = 0 then e else (e.1, { e.2 with state := .free, pasid := 0, share := 0, reserve := 0, limit := 0 })) }
    fx := { s.fx with streams := [] }
    hp := { s.hp with ats := [], pba := [], lows := [], spdmDoe := 0, msixEnable := false, functionMask := false, d3hot := false, pmeSent := false } }

/-- Registers of the vector maps and the MSI-X table. -/
def vectorReg (off : Nat) : Bool := rangeIn 0x034000 0x037FFF off || rangeIn 0x03C000 0x03C5FF off || rangeIn 0x018000 0x01FFFF off

/-- Step 4: the capsule in force again, with the effective calibration kept. -/
def flrSettings (s : State) : State :=
  let limit := regWord s 0x080020
  setReg 0x080020 limit
    (applySettings s.cus.up.capsule { s with regs := s.regs.filter (fun e => !vectorReg e.1 && !rangeIn 0x100000 0x1003FF e.1) })

/-- Step 5. -/
def flrMode (s : State) : State :=
  if s.glb.mode == .boot || s.glb.mode == .safe then s else enterMode (afterSafe s) s

/-- A handover past its commit completes, its completion discarded (R473). -/
def flrHandover (s : State) : State :=
  if (handingOver s).isSome then finishHandover s else s

/-- FLR in one step (log 19). -/
def flr (s : State) : State :=
  let s := flrHandover s
  let s := closeSession (updMem (fun m => { m with injections := [] }) (flrFree (flrDrop s)))
  let s := flrMode (flrSettings (updGrp (fun g => { g with creating := [], revoking := [] }) s))
  { s with glb := { s.glb with flrCount := sat 0xFFFF (s.glb.flrCount + 1), draining := false, drainAt := none, drainPast := false } }

def execFlr (s : State) : Host.Outcome State Fault Refusal := .next (if s.glb.perst then s else flr s)

/-! #### BOOT (18 R413) -/

def setUp (step : Nat) (s : State) : State := updUp (fun u => { u with step := step }) s

/-- A failure of the chosen bank (R414): FAIL_CODE, the update fault, and a warm reset 1 ms later. -/
def bootFail (code : Nat) (s : State) : State :=
  let kind := if code = 3 then 1 else if code = 8 then 5 else 2
  dueReset (sendFault 0x164 kind 0 0 (updUp (fun u => { u with failCode := code }) s))

/-- BOOT goes on: no DEVICE fault and no failure has asked for a reset (20 R463), and no recovery hold. -/
def booting (s : State) : Bool := s.cus.resetDue.isNone && !s.glb.recoveryHold && !s.glb.halted

def whenBooting (f : State → State) (s : State) : State := if booting s then f s else s

/-- Step 1: the fault network is tested; after a cold reset FIRST is loaded from the newest black-box copy (16 R359). -/
def bootStart (s : State) : State :=
  let old := if s.glb.cause ≤ 1 && s.sup.fc.first.isNone then (s.sup.fc.blackBox.head?).bind (·.first) else none
  let s := updFc (fun c =>
    { c with
      faultNBoot := false
      first := c.first.or (old.map (fun r => { r with fromBlackbox := true, cleared := true })) }) s
  setUp 1 { s with glb := { s.glb with perst := false } }

/-- Step 2, checkers (15 R337, R338). -/
def bootCheckers (bad : List Nat) (s : State) : State :=
  let s := updMem (fun m => { m with bistFailed := bad, bistDone := true }) s
  bad.foldl (fun t ck => sendFault 0x110 7 (lossSeverity ck) (ck * 2 ^ 23) (withdrawUnit ck t)) s

/-- Step 2, the OTP (17 R379-R382); a word already known as uncorrectable is not reported again (log 20). -/
def bootOtp (b : BootInput) (s : State) : State :=
  let new := b.otpBad.filter (fun f => !s.cus.otp.bad.contains f)
  let s := updCus (fun c =>
    { c with
      otp := { c.otp with marginBad := b.otpMargin, bad := c.otp.bad ++ new }
      marginMismatch := !b.otpMargin.isEmpty, markerFound := c.marker.isSome }) s
  let s := b.otpMargin.foldl (fun t f => note 0x162 1 f t) s
  setUp 2 (new.foldl (fun t f => sendFault 0x162 3 3 f t) s)

/-- A marker of a transition remains. -/
def movingMarker (s : State) : Bool := match s.cus.marker with | some m => m.move.isSome | none => false

/-- The state decoded. -/
def decodeNow (s : State) : State := updCus (fun c => { c with lc := decodeLc c.otp (movingMarker s) }) s

/-- Step 4: the zeroisation marker (17 R390). -/
def bootMarker (s : State) : State :=
  match s.cus.marker with
  | none => setUp 4 (decodeNow s)
  | some m =>
    let s := if m.done then s else zeroise s
    let keep : Option Marker := match m.move with
      | none => none
      | some (src, tgt) => if s.cus.otp.pattern = lcPattern tgt then none else some { move := some (src, tgt), done := true }
    setUp 4 (decodeNow (updCus (fun c => { c with marker := keep }) s))

/-- Step 5: entropy sources and DRBG instances (12 R271, R272). -/
def bootEntropy (b : BootInput) (s : State) : State :=
  let s := updKv (fun v => { v with src0 := { v.src0 with ok := true }, src1 := { v.src1 with ok := true } }) s
  let s := if healthy b.src0 then s else sendFault 0x100 7 2 0 s
  let s := if healthy b.src1 then s else sendFault 0x101 7 2 0 s
  let (key, s) := drawBytes 32 (reseedAll s)
  setUp 5 (updKv (fun v => { v with yieldKey := key }) s)

/-- Step 6: what outside hands have put into the flash (log 14), and the bank chosen (R416); none for recovery hold. -/
def bootFlash (b : BootInput) (s : State) : State :=
  let s := match b.bank0 with | some x => putBank 0 x s | none => s
  let s := match b.bank1 with | some x => putBank 1 x s | none => s
  updUp (fun u => { u with sfdpOk := b.sfdpOk, flashLog2 := b.flashLog2 }) s

/-- R416: the record to commit, the bank to boot, and the cause of a fallback. -/
def chooseBank (s : State) : Option (ActRec × Nat × Option Nat) :=
  let r := record_ s
  let staged := (bankSet s r.stageBank).map (·.svn)
  if r.attempts < 3 then some ({ r with attempts := r.attempts + 1 }, if r.isPending then r.pendingBank else r.confirmedBank, none)
  else if r.isPending then
    some ({ r with isPending := false, attempts := 1, stageBank := r.pendingBank, stageState := 2, stagedId := r.pendingId },
      r.confirmedBank, some 0)
  else if r.stageState = 3 && staged.any (r.minSvn ≤ ·) then
    some ({ r with
      confirmedBank := r.stageBank, confirmedId := r.stagedId, attempts := 1, stageBank := r.confirmedBank, stageState := 2
      stagedId := r.confirmedId }, r.stageBank, some 1)
  else none

/-- Recovery hold (R418). -/
def recoveryHold (s : State) : State :=
  let s := { s with glb := { s.glb with recoveryHold := true } }
  sendFault 0x164 6 3 0 (updUp (fun u => { u with result := 2, step := 6 }) s)

def bootBank (b : BootInput) (s : State) : State :=
  if !b.sfdpOk || !rangeIn 23 28 b.flashLog2 then bootFail 8 s
  else match chooseBank s with
    | none => recoveryHold s
    | some (r, bank, cause) =>
      if b.recordFail then sendFault 0x164 4 3 0 (updUp (fun u => { u with failCode := 9 }) s)
      else
        let s := commitRecord r s
        let s := updUp (fun u => { u with runningBank := bank, step := 6 }) s
        match cause with
        | none => s
        | some k =>
          sendFault 0x164 3 0 0
            (updUp (fun u => { u with fellBack := true, fallbackEvent := some (setDetail r.confirmedId bank + 2 ^ 17 * k) }) s)

/-- The verdict on each part lane 0 reads: EQUAL where both of its digests are the manifest's, NOT_EQUAL otherwise; 0 for a part not
measured (10 R220). -/
def measured (x : SetInfo) (parts : List Bytes) : List Nat :=
  (List.range 4).map (fun k =>
    match parts[k]?, x.digests[k]? with
    | some p, some d => if algBytes .hash 64 [5] [p] = d.1 ∧ algBytes .hash 64 [9] [p] = d.2 then 1 else 2
    | _, _ => 0)

/-- Step 7: the manifest (R403), and step 8's verdicts (10 R220). -/
def bootSet (b : BootInput) (s : State) : State :=
  let r := record_ s
  match bankSet s s.cus.up.runningBank with
  | none => bootFail 1 s
  | some x =>
    if !capsuleKeyOk s r.ownerSetSeen x.ownerSigned (!x.ownerSigned) then bootFail 1 s
    else if x.svn < r.minSvn then bootFail 2 s
    else
    let s := updUp (fun u => { u with meas := measured x b.parts }) s
    if (measured x b.parts).contains 2 then bootFail 3 s
    else match b.readFail with
      | some k => bootFail k s
      | none => updUp (fun u => { u with running := some x, capsule := x.records, capsuleId := x.capsuleId, step := 7 }) s

/-- FX takes its standing lease (10 R204). -/
def standingLease (s : State) : State :=
  let limit := setting s 0x080020 11 0
  let free := (List.range 128).filter (fun n => s.mem.leases.getD n .withdrawn == .free)
  let need := ceilDiv (limit + 128) 256
  let got := free.take need
  let held := min limit (256 * got.length - 128)
  let s := setLeases got .standing s
  let s := setReg 0x080020 (BitVec.ofNat 32 held) s
  { s with fx := { s.fx with limit := held, yieldEntries := if got.isEmpty then 0 else 128 } }

/-- Step 8: capsule and patches. -/
def bootCapsule (s : State) : State := setUp 8 (settleSwitch (standingLease (applyCapsule s.cus.up.capsule s)))

/-- Step 9: known-answer tests (R414). -/
def bootTests (kat : List (Nat × Nat)) (s : State) : State :=
  if (record_ s).isPending && !kat.isEmpty then bootFail 6 s
  else setUp 9 (kat.foldl (fun t e => sendFault e.1 6 2 e.2 t) s)

/-- Step 10: a pending set is confirmed (R417). -/
def bootConfirm (b : BootInput) (s : State) : State :=
  let r := record_ s
  if !r.isPending then setUp 10 s
  else if b.recordFail then sendFault 0x164 4 3 0 (updUp (fun u => { u with failCode := 9 }) s)
  else
    let x := s.cus.up.running
    setUp 10 (commitRecord
      { r with
        isPending := false, confirmedBank := r.pendingBank, confirmedId := r.pendingId, stageBank := r.confirmedBank, stageState := 3
        stagedId := r.confirmedId, minSvn := if x.any (·.raiseFloor) then (x.map (·.svn)).getD 0 else r.minSvn
        ownerSetSeen := r.ownerSetSeen || x.any (·.ownerSigned) } s)

/-! #### The restore of persisted slots (12 R267) and the end of BOOT -/

/-- One blob restored to its number. -/
def restoreBlob (bad : List Nat) (s : State) (e : Nat × Blob) : State :=
  let k := { e.2.slot with owner := 0, persist := true }
  if !e.2.sound || bad.contains e.1 then raise_ 160 e.1 (updKv (putSlot e.1 { k with state := .damaged, priv := [], pub := [] }) s)
  else if lineageOk s.kv k.lineage then updKv (putSlot e.1 { k with state := .live }) s
  else updKv (freeSlot e.1) s

def restoreSlots (bad : List Nat) (s : State) : State := s.kv.blobs.foldl (restoreBlob bad) s

/-- Group keys that have too few indices left ask for leases (07 R159). -/
def wantLeases (s : State) : State := (groupKeys s).foldl (fun t e => wantLease e.1 t) s

/-- The port controllers train the ports that are enabled (19 R429). -/
def startPorts (s : State) : State :=
  { s with ports := s.ports.zipIdx.map (fun (p, n) => if portEnabled s n && s.sup.wyRefclk && p.state == .down then { p with state := .training } else p) }

/-- Step 13: ATTEMPTS cleared and SERVICE entered, or MAINTENANCE, or SAFE where a DEVICE-level condition is present (20 R463). -/
def bootEnd (b : BootInput) (s : State) : State :=
  let s := startPorts <| wantLeases (confirmOwn (journalScan b.journalBad b.journalLost (restoreSlots b.blobsBad s)))
  let s := commitRecord { record_ s with attempts := 0 } s
  let s := updUp (fun u => { u with step := 13, result := 1, standbyReady := b.standby }) s
  if deviceLive s then
    let d := (s.sup.fc.liveDevice.head?).getD 0
    raise_ 6 (sourceDetail s d) (updFc (fun c => { c with safeByFault := true }) { s with glb := { s.glb with mode := .safe } })
  else enterMode (afterSafe s) s

/-- Step 11: the firmware starts, or the time-out of R414 follows. -/
def bootFirmware (b : BootInput) (s : State) : State := if b.fwStart then bootEnd b (setUp 11 s) else setUp 11 s

/-- BOOT from the release of reset, in one step (log 19): it ends in a mode, in recovery hold, waiting for the firmware, or with a warm
reset due. -/
def boot (b : BootInput) (s : State) : State :=
  if s.glb.mode != .boot || s.cus.up.step != 0 || !booting s then s
  else
    let s := send (.link true) (bootOtp b (bootCheckers b.checkers (bootStart s)))
    let s := whenBooting (fun s => bootEntropy b (bootMarker s)) s
    let s := whenBooting (fun s => bootBank b (bootFlash b s)) s
    let s := whenBooting (bootSet b) s
    let s := whenBooting bootCapsule s
    let s := whenBooting (bootTests b.kat) s
    let s := whenBooting (bootConfirm b) s
    whenBooting (bootFirmware b) s

def execBoot (b : BootInput) (s : State) : Host.Outcome State Fault Refusal := .next (boot b s)

/-- FW_START_TIMEOUT: the firmware has not reported start (R414). -/
def fwStartTimeout (s : State) : State :=
  if s.glb.mode == .boot && s.cus.up.step == 11 && s.cus.resetDue.isNone then
    dueReset (sendFault 0x160 2 3 0 (updUp (fun u => { u with failCode := 7 }) s))
  else s

def execFwStartTimeout (s : State) : Host.Outcome State Fault Refusal := .next (fwStartTimeout s)

end Sys2Proof.Machine
end

