-- ==== Sys2Proof/Machine/RegWrite.lean ====
section
/-! DEFINITION. Register accesses of the host: LOCK bits, selectors, the beat latch, and a write to any register of BAR0 or BAR2
(00_scope R6-R8; 21_register_index R474-R480). -/
namespace Sys2Proof.Machine

/-- LOCK_SET: 1 written to a LOCK bit sets it (R8). -/
def lockSet (off : Nat) (s : State) : State :=
  if bar0Ok s off && (regAt off).any (fun r => r.lock == some off) then setLock off s else s

/-- KV_SLOT_SEL and SUP_CAL_SEL (R480). -/
def selectWrite (off width w : Nat) (s : State) : State :=
  if bar0Ok s off then setReg off (BitVec.ofNat 32 (w % 2 ^ width)) s else s

/-- A read of SUP_BEAT_LO latches SUP_BEAT_HI (R480); a read in D3hot reaches nothing (R478). -/
def beatLoRead (s : State) : State :=
  if s.hp.d3hot || s.glb.perst then s else { s with glb := { s.glb with beatHi := s.beat / 2 ^ 32 } }

def execLockSet (off : Nat) (s : State) : Host.Outcome State Fault Refusal := .next (lockSet off s)
def execSlotSelect (w : Nat) (s : State) : Host.Outcome State Fault Refusal := .next (selectWrite 0x090010 14 w s)
def execCalSelect (w : Nat) (s : State) : Host.Outcome State Fault Refusal := .next (selectWrite 0x0B0900 8 w s)
def execBeatLoRead (s : State) : Host.Outcome State Fault Refusal := .next (beatLoRead s)

/-! #### Registers of BAR0 -/

/-- Ring 0's fields, written while the ring is not enabled (13 R298): SIZE_LOG2 takes a value of its range (R501), and the reserved bits of
the bases stay 0 (R4).  A _LO word waits for its _HI (R6); what it reads back meanwhile, and that it outlives an enable, is log 140. -/
def ringZeroWrite (off w : Nat) (s : State) : State :=
  if (ring? s 0).isSome then s
  else if off = 0x100000 then
    if bit w 0 then ringZeroEnable w s
    else setReg off (BitVec.ofNat 32 (bits w 13 8 * 256 + clip 4 16 (bits w 6 2) * 4 + 2 * ofBool (bit w 1))) s
  else if off ≠ 0x100008 ∧ off ≠ 0x100010 ∧ off ≠ 0x100018 ∧ off ≠ 0x10000C ∧ off ≠ 0x100014 ∧ off ≠ 0x10001C then s
  else if off % 8 = 0 then
    { s with hp := { s.hp with lows := put off (BitVec.ofNat 32 (w - w % (if off = 0x100018 then 64 else 4096))) s.hp.lows } }
  else
    let low := (lookup (off - 4) s.hp.lows).getD (regWord s (off - 4))
    setReg off (BitVec.ofNat 32 (w % 2 ^ 30))
      (setReg (off - 4) low { s with hp := { s.hp with lows := s.hp.lows.filter (fun e => e.1 != off - 4) } })

/-- SUP_FAULTN_CTRL: THRESHOLD with its LOCK, STATE cleared by a 1, FORCE as written. -/
def faultnWrite (r : Reg) (w : Nat) (s : State) : State :=
  let s := writeGoverned r 0xFFFFFFFF w s
  let s := setReg r.off (BitVec.ofNat 32 ((regWord s r.off).toNat - 512 * ofBool (bit (regWord s r.off).toNat 9) + 512 * ofBool (bit w 9))) s
  if bit w 8 then faultnStateClear s else s

/-- A word of the MSI-X table: clearing a mask bit sends a pending message (14 R326). -/
def msixTableWrite (off w : Nat) (s : State) : State :=
  let s := setReg off (BitVec.ofNat 32 w) s
  if off % 16 = 12 && !bit w 0 then msixUnmask ((off - 0x018000) / 16) s else s

/-- One aligned word written to BAR0 (R476, R479): a reserved or read-only register ignores it. -/
def bar0Word (off w : Nat) (s : State) : State :=
  if !bar0Ok s off then s
  else if off = 0x000018 then sysReset w s
  else if off = 0x090010 then selectWrite off 14 w s
  else if off = 0x0B0900 then selectWrite off 8 w s
  else if off = 0x0B0604 then setReg off (BitVec.ofNat 32 (min 16 (bits w 4 0))) s
  else if off = 0x0C0144 then tamperLatchedClear (bits w 7 4) s
  else if 0x018000 ≤ off ∧ off < 0x020000 then msixTableWrite off w s
  else if 0x034000 ≤ off ∧ off < 0x038000 ∨ 0x03C000 ≤ off ∧ off < 0x03C600 then setReg off (BitVec.ofNat 32 (w &&& 0x800007FF)) s
  else if 0x0B4000 ≤ off ∧ off < 0x0B4600 then if bit w 31 then eventPendingClear ((off - 0x0B4000) / 4) s else s
  else if 0x100000 ≤ off ∧ off < 0x100400 then
    if off = 0x100000 && (ring? s 0).isSome then if bit w 0 then s else ringZeroDisable s else ringZeroWrite off w s
  else match regAt off with
    | some r => if off = 0x0B0620 then faultnWrite r w s else writeGoverned r 0xFFFFFFFF w s
    | none => s

/-- One aligned word written to BAR2 (13 R281-R283): a doorbell whose effect needs a read of host memory is a command of its own, which
carries what the read returns. -/
def bar2Word (off w : Nat) (s : State) : State :=
  let inst := off / 0x1000
  let d := off % 0x1000 / 0x20
  if d < 64 && !((ringAt s inst d).isNone) then
    if off % 0x20 = 0 then if ((ringAt s inst d).map (fun e => e.2.tailMode)).getD false then sqDoorbellTail inst d w s else s
    else if off % 0x20 = 8 then sqInvalidate inst d w s
    else if off % 0x20 = 0x10 then cqModWrite inst d w s
    else s
  else doorbellStray inst (off % 0x1000) 4 s

/-- REGISTER_WRITE: `width` bytes of `value` at an offset of a BAR (R475).  An 8-byte write is two words, the lower address first. -/
def registerWrite (bar off width value : Nat) (s : State) : State :=
  let word := if bar = 0 then bar0Word else bar2Word
  if width = 4 ∧ off % 4 = 0 then word off (value % 2 ^ 32) s
  else if width = 8 ∧ off % 8 = 0 then word (off + 4) (value / 2 ^ 32 % 2 ^ 32) (word off (value % 2 ^ 32) s)
  else if bar = 2 ∧ width < 4 then doorbellStray (off / 0x1000) (off % 0x1000) width s
  else s

/-- The function has BAR0, of 16 MiB, and BAR2, of 4 MiB, and no other (R474). -/
def inBar (bar off : Nat) : Bool := bar == 0 && off < 0x1000000 || bar == 2 && off < 0x400000

def execRegisterWrite (bar off width value : Nat) (s : State) : Host.Outcome State Fault Refusal :=
  if inBar bar off then .next (registerWrite bar off width value s) else .fault .noSuchAddress

end Sys2Proof.Machine
end

