-- ==== Sys2Proof/Machine/Dispatch.lean ====
section
/-! DEFINITION. Dispatch: every command to its meaning. -/
namespace Sys2Proof.Machine
open Sys2Proof

def exec (i : Instr) (s : State) : Host.Outcome State Fault Refusal :=
  match i with
  | .kemKeygen op inp => Sys2Proof.Machine.execKemKeygen op inp s
  | .kemEncaps op inp => Sys2Proof.Machine.execKemEncaps op inp s
  | .kemDecaps op inp => Sys2Proof.Machine.execKemDecaps op inp s
  | .mldsaKeygen op inp => Sys2Proof.Machine.execMldsaKeygen op inp s
  | .mldsaSign op inp => Sys2Proof.Machine.execMldsaSign op inp s
  | .mldsaVerify op inp => Sys2Proof.Machine.execMldsaVerify op inp s
  | .fndsaVerify op inp => Sys2Proof.Machine.execFndsaVerify op inp s
  | .slhKeygen op inp => Sys2Proof.Machine.execSlhKeygen op inp s
  | .slhSign op inp => Sys2Proof.Machine.execSlhSign op inp s
  | .slhVerify op inp => Sys2Proof.Machine.execSlhVerify op inp s
  | .slhPin op inp => Sys2Proof.Machine.execSlhPin op inp s
  | .slhUnpin op inp => Sys2Proof.Machine.execSlhUnpin op inp s
  | .treeBuild op inp => Sys2Proof.Machine.execTreeBuild op inp s
  | .treeReduced op inp => Sys2Proof.Machine.execTreeReduced op inp s
  | .stfKeygen op inp => Sys2Proof.Machine.execStfKeygen op inp s
  | .stfSign op inp => Sys2Proof.Machine.execStfSign op inp s
  | .stfVerify op inp => Sys2Proof.Machine.execStfVerify op inp s
  | .stfSplit op inp => Sys2Proof.Machine.execStfSplit op inp s
  | .stfStatus op inp => Sys2Proof.Machine.execStfStatus op inp s
  | .cmKeygen op inp => Sys2Proof.Machine.execCmKeygen op inp s
  | .cmEncaps op inp => Sys2Proof.Machine.execCmEncaps op inp s
  | .cmDecaps op inp => Sys2Proof.Machine.execCmDecaps op inp s
  | .hqcKeygen op inp => Sys2Proof.Machine.execHqcKeygen op inp s
  | .hqcEncaps op inp => Sys2Proof.Machine.execHqcEncaps op inp s
  | .hqcDecaps op inp => Sys2Proof.Machine.execHqcDecaps op inp s
  | .ecKeygen op inp => Sys2Proof.Machine.execEcKeygen op inp s
  | .ecdsaSign op inp => Sys2Proof.Machine.execEcdsaSign op inp s
  | .ecdsaVerify op inp => Sys2Proof.Machine.execEcdsaVerify op inp s
  | .eddsaSign op inp => Sys2Proof.Machine.execEddsaSign op inp s
  | .eddsaVerify op inp => Sys2Proof.Machine.execEddsaVerify op inp s
  | .ecdh op inp => Sys2Proof.Machine.execEcdh op inp s
  | .rsaKeygen op inp => Sys2Proof.Machine.execRsaKeygen op inp s
  | .rsaSign op inp => Sys2Proof.Machine.execRsaSign op inp s
  | .rsaVerify op inp => Sys2Proof.Machine.execRsaVerify op inp s
  | .rsaEncrypt op inp => Sys2Proof.Machine.execRsaEncrypt op inp s
  | .rsaDecrypt op inp => Sys2Proof.Machine.execRsaDecrypt op inp s
  | .dsaVerify op inp => Sys2Proof.Machine.execDsaVerify op inp s
  | .streamOpen op inp => Sys2Proof.Machine.execStreamOpen op inp s
  | .streamFeed op inp => Sys2Proof.Machine.execStreamFeed op inp s
  | .streamTail op inp => Sys2Proof.Machine.execStreamTail op inp s
  | .digest op inp => Sys2Proof.Machine.execDigest op inp s
  | .digestCompare op inp => Sys2Proof.Machine.execDigestCompare op inp s
  | .streamSave op inp => Sys2Proof.Machine.execStreamSave op inp s
  | .streamRestore op inp => Sys2Proof.Machine.execStreamRestore op inp s
  | .gcmEncrypt op inp => Sys2Proof.Machine.execGcmEncrypt op inp s
  | .gcmDecrypt op inp => Sys2Proof.Machine.execGcmDecrypt op inp s
  | .mac op inp => Sys2Proof.Machine.execMac op inp s
  | .macCompare op inp => Sys2Proof.Machine.execMacCompare op inp s
  | .keyImportWrapped op inp => Sys2Proof.Machine.execKeyImportWrapped op inp s
  | .keyImportPublic op inp => Sys2Proof.Machine.execKeyImportPublic op inp s
  | .keyGenerate op inp => Sys2Proof.Machine.execKeyGenerate op inp s
  | .keyDerive op inp => Sys2Proof.Machine.execKeyDerive op inp s
  | .keyExportWrapped op inp => Sys2Proof.Machine.execKeyExportWrapped op inp s
  | .keyExportPublic op inp => Sys2Proof.Machine.execKeyExportPublic op inp s
  | .keySetAttr op inp => Sys2Proof.Machine.execKeySetAttr op inp s
  | .keyInvalidate op inp => Sys2Proof.Machine.execKeyInvalidate op inp s
  | .keyPersist op inp => Sys2Proof.Machine.execKeyPersist op inp s
  | .keyDestroy op inp => Sys2Proof.Machine.execKeyDestroy op inp s
  | .random op inp => Sys2Proof.Machine.execRandom op inp s
  | .bufCreate op inp => Sys2Proof.Machine.execBufCreate op inp s
  | .bufLoad op inp => Sys2Proof.Machine.execBufLoad op inp s
  | .bufFree op inp => Sys2Proof.Machine.execBufFree op inp s
  | .reattest op inp => Sys2Proof.Machine.execReattest op inp s
  | .compositeSign op inp => Sys2Proof.Machine.execCompositeSign op inp s
  | .compositeVerify op inp => Sys2Proof.Machine.execCompositeVerify op inp s
  | .instCreate op inp => Sys2Proof.Machine.execInstCreate op inp s
  | .instReset op inp => Sys2Proof.Machine.execInstReset op inp s
  | .instRemove op inp => Sys2Proof.Machine.execInstRemove op inp s
  | .instSetShare op inp => Sys2Proof.Machine.execInstSetShare op inp s
  | .ringCreate op inp => Sys2Proof.Machine.execRingCreate op inp s
  | .ringDestroy op inp => Sys2Proof.Machine.execRingDestroy op inp s
  | .ringCancel op inp => Sys2Proof.Machine.execRingCancel op inp s
  | .engineReinit op inp => Sys2Proof.Machine.execEngineReinit op inp s
  | .modeSetService op inp => Sys2Proof.Machine.execModeSetService op inp s
  | .modeSetQuiesce op inp => Sys2Proof.Machine.execModeSetQuiesce op inp s
  | .modeSetDormant op inp => Sys2Proof.Machine.execModeSetDormant op inp s
  | .modeSetMaintenance op inp => Sys2Proof.Machine.execModeSetMaintenance op inp s
  | .faultAck op inp => Sys2Proof.Machine.execFaultAck op inp s
  | .lcTransition op inp => Sys2Proof.Machine.execLcTransition op inp s
  | .zeroise op inp => Sys2Proof.Machine.execZeroise op inp s
  | .debugChallenge op inp => Sys2Proof.Machine.execDebugChallenge op inp s
  | .debugOpen op inp => Sys2Proof.Machine.execDebugOpen op inp s
  | .debugClose op inp => Sys2Proof.Machine.execDebugClose op inp s
  | .faultInjectArm op inp => Sys2Proof.Machine.execFaultInjectArm op inp s
  | .faultInjectDisarm op inp => Sys2Proof.Machine.execFaultInjectDisarm op inp s
  | .updateStage op inp => Sys2Proof.Machine.execUpdateStage op inp s
  | .updateActivate op inp => Sys2Proof.Machine.execUpdateActivate op inp s
  | .updateActivateReset op inp => Sys2Proof.Machine.execUpdateActivateReset op inp s
  | .charterLoad op inp => Sys2Proof.Machine.execCharterLoad op inp s
  | .groupJoin op inp => Sys2Proof.Machine.execGroupJoin op inp s
  | .groupLeave op inp => Sys2Proof.Machine.execGroupLeave op inp s
  | .takePrimary op inp => Sys2Proof.Machine.execTakePrimary op inp s
  | .endLease op inp => Sys2Proof.Machine.execEndLease op inp s
  | .settingWrite op inp => Sys2Proof.Machine.execSettingWrite op inp s
  | .sqDoorbellScan inst d hint => Sys2Proof.Machine.execSqDoorbellScan inst d hint s
  | .sqDoorbellTail inst d w => Sys2Proof.Machine.execSqDoorbellTail inst d w s
  | .cqDoorbell inst d head => Sys2Proof.Machine.execCqDoorbell inst d head s
  | .sqInvalidate inst d w => Sys2Proof.Machine.execSqInvalidate inst d w s
  | .cqModWrite inst d w => Sys2Proof.Machine.execCqModWrite inst d w s
  | .doorbellStray inst off width => Sys2Proof.Machine.execDoorbellStray inst off width s
  | .ringZeroEnable w => Sys2Proof.Machine.execRingZeroEnable w s
  | .ringZeroDisable => Sys2Proof.Machine.execRingZeroDisable s
  | .glbSysReset w => Sys2Proof.Machine.execGlbSysReset w s
  | .lockSet off => Sys2Proof.Machine.execLockSet off s
  | .eventPendingClear k => Sys2Proof.Machine.execEventPendingClear k s
  | .faultnStateClear => Sys2Proof.Machine.execFaultnStateClear s
  | .tamperLatchedClear mask => Sys2Proof.Machine.execTamperLatchedClear mask s
  | .slotSelect w => Sys2Proof.Machine.execSlotSelect w s
  | .calSelect w => Sys2Proof.Machine.execCalSelect w s
  | .beatLoRead => Sys2Proof.Machine.execBeatLoRead s
  | .registerWrite bar off width value => Sys2Proof.Machine.execRegisterWrite bar off width value s
  | .coldReset => Sys2Proof.Machine.execColdReset s
  | .warmReset cause => Sys2Proof.Machine.execWarmReset cause s
  | .custodyReset => Sys2Proof.Machine.execCustodyReset s
  | .flr => Sys2Proof.Machine.execFlr s
  | .boot b => Sys2Proof.Machine.execBoot b s
  | .fwStartTimeout => Sys2Proof.Machine.execFwStartTimeout s
  | .d3hotEntry pmeEn => Sys2Proof.Machine.execD3hotEntry pmeEn s
  | .d0Return busMaster => Sys2Proof.Machine.execD0Return busMaster s
  | .vddWarn supply mv => Sys2Proof.Machine.execVddWarn supply mv s
  | .vddRestored supply mv => Sys2Proof.Machine.execVddRestored supply mv s
  | .brownoutLift => Sys2Proof.Machine.execBrownoutLift s
  | .vddRange mv => Sys2Proof.Machine.execVddRange mv s
  | .supplyResetTrip supply mv => Sys2Proof.Machine.execSupplyResetTrip supply mv s
  | .throttle sensor temp => Sys2Proof.Machine.execThrottle sensor temp s
  | .thermalLimitStep sensor temp => Sys2Proof.Machine.execThermalLimitStep sensor temp s
  | .therm sensor temp => Sys2Proof.Machine.execTherm sensor temp s
  | .thermClear sensor temp => Sys2Proof.Machine.execThermClear sensor temp s
  | .thermalShutdown sensor temp => Sys2Proof.Machine.execThermalShutdown sensor temp s
  | .refclkLost => Sys2Proof.Machine.execRefclkLost s
  | .refclkRestored => Sys2Proof.Machine.execRefclkRestored s
  | .tamperAsserted input asserted => Sys2Proof.Machine.execTamperAsserted input asserted s
  | .faultMessage wire => Sys2Proof.Machine.execFaultMessage wire s
  | .firstWindowClose => Sys2Proof.Machine.execFirstWindowClose s
  | .faultnHoldEnd => Sys2Proof.Machine.execFaultnHoldEnd s
  | .autoRecovery source pass => Sys2Proof.Machine.execAutoRecovery source pass s
  | .fetch ring entries => Sys2Proof.Machine.execFetch ring entries s
  | .ringFetchError ring => Sys2Proof.Machine.execRingFetchError ring s
  | .admission ring => Sys2Proof.Machine.execAdmission ring s
  | .energyGrant op => Sys2Proof.Machine.execEnergyGrant op s
  | .bankLease op n => Sys2Proof.Machine.execBankLease op n s
  | .scatterWalk op fieldNo words failed poison => Sys2Proof.Machine.execScatterWalk op fieldNo words failed poison s
  | .lnOwnerWipe unit => Sys2Proof.Machine.execLnOwnerWipe unit s
  | .dispatch op inp => Sys2Proof.Machine.execDispatch op inp s
  | .dmaReadTimeout op => Sys2Proof.Machine.execDmaReadTimeout op s
  | .engineDone op => Sys2Proof.Machine.execEngineDone op s
  | .bankWipe bank => Sys2Proof.Machine.execBankWipe bank s
  | .release op => Sys2Proof.Machine.execRelease op s
  | .watchdog op => Sys2Proof.Machine.execWatchdog op s
  | .cmRetryLimit op => Sys2Proof.Machine.execCmRetryLimit op s
  | .rsaRetryLimit op => Sys2Proof.Machine.execRsaRetryLimit op s
  | .cancelCheckpoint op => Sys2Proof.Machine.execCancelCheckpoint op s
  | .abortRelease op => Sys2Proof.Machine.execAbortRelease op s
  | .commit ring outcome => Sys2Proof.Machine.execCommit ring outcome s
  | .heldCompletionWrite ring => Sys2Proof.Machine.execHeldCompletionWrite ring s
  | .groupCommit write => Sys2Proof.Machine.execGroupCommit write s
  | .assemblyTimeout ring => Sys2Proof.Machine.execAssemblyTimeout ring s
  | .indexBlockWrite ring => Sys2Proof.Machine.execIndexBlockWrite ring s
  | .ringWriteError ring => Sys2Proof.Machine.execRingWriteError ring s
  | .moderationTimer ring => Sys2Proof.Machine.execModerationTimer ring s
  | .msixMessage source => Sys2Proof.Machine.execMsixMessage source s
  | .backlogTimer ring head => Sys2Proof.Machine.execBacklogTimer ring head s
  | .resetDeferralEnd inst => Sys2Proof.Machine.execResetDeferralEnd inst s
  | .removeDrainEnd inst => Sys2Proof.Machine.execRemoveDrainEnd inst s
  | .ringDestroyDiscard ring => Sys2Proof.Machine.execRingDestroyDiscard ring s
  | .bufWipe handle => Sys2Proof.Machine.execBufWipe handle s
  | .fillJob pin => Sys2Proof.Machine.execFillJob pin s
  | .workingSetFill slot => Sys2Proof.Machine.execWorkingSetFill slot s
  | .reservationCommit slot ok => Sys2Proof.Machine.execReservationCommit slot ok s
  | .journalCompaction => Sys2Proof.Machine.execJournalCompaction s
  | .leaseRequestRepeat slot => Sys2Proof.Machine.execLeaseRequestRepeat slot s
  | .leaseDeadline slot number => Sys2Proof.Machine.execLeaseDeadline slot number s
  | .leaseWaitExpiry op => Sys2Proof.Machine.execLeaseWaitExpiry op s
  | .standbyAckTimeout slot number => Sys2Proof.Machine.execStandbyAckTimeout slot number s
  | .replicationTimeout op => Sys2Proof.Machine.execReplicationTimeout op s
  | .takeover => Sys2Proof.Machine.execTakeover s
  | .laneYield op n => Sys2Proof.Machine.execLaneYield op n s
  | .slotReload slot => Sys2Proof.Machine.execSlotReload slot s
  | .drbgReseed instance_ => Sys2Proof.Machine.execDrbgReseed instance_ s
  | .scrubRead addr own slot tree passEnd => Sys2Proof.Machine.execScrubRead addr own slot tree passEnd s
  | .drainEnd => Sys2Proof.Machine.execDrainEnd s
  | .drainLimit => Sys2Proof.Machine.execDrainLimit s
  | .dormantUnitPowerDown => Sys2Proof.Machine.execDormantUnitPowerDown s
  | .handoverTimeout => Sys2Proof.Machine.execHandoverTimeout s
  | .challengeExpiry => Sys2Proof.Machine.execChallengeExpiry s
  | .debugSessionExpiry => Sys2Proof.Machine.execDebugSessionExpiry s
  | .portTraining port lanes => Sys2Proof.Machine.execPortTraining port lanes s
  | .laneFail port lane => Sys2Proof.Machine.execLaneFail port lane s
  | .trainingRetry port => Sys2Proof.Machine.execTrainingRetry port s
  | .fecThreshold port corrected uncorrectable => Sys2Proof.Machine.execFecThreshold port corrected uncorrectable s
  | .frameReceive port frame => Sys2Proof.Machine.execFrameReceive port frame s
  | .heartbeat port => Sys2Proof.Machine.execHeartbeat port s
  | .creditReport port => Sys2Proof.Machine.execCreditReport port s
  | .portIdle port => Sys2Proof.Machine.execPortIdle port s
  | .creditStarved port vc => Sys2Proof.Machine.execCreditStarved port vc s
  | .starveSessionEnd port vc => Sys2Proof.Machine.execStarveSessionEnd port vc s
  | .peerTimeout port => Sys2Proof.Machine.execPeerTimeout port s
  | .helloA port hello => Sys2Proof.Machine.execHelloA port hello s
  | .helloB port hello => Sys2Proof.Machine.execHelloB port hello s
  | .restrictedTimeout port => Sys2Proof.Machine.execRestrictedTimeout port s
  | .peerRetry port => Sys2Proof.Machine.execPeerRetry port s
  | .rekey port => Sys2Proof.Machine.execRekey port s
  | .rHelloA via hello => Sys2Proof.Machine.execRHelloA via hello s
  | .rHelloB via hello => Sys2Proof.Machine.execRHelloB via hello s
  | .route port entries => Sys2Proof.Machine.execRoute port entries s
  | .routeSend => Sys2Proof.Machine.execRouteSend s
  | .memberLost member => Sys2Proof.Machine.execMemberLost member s
  | .charter port frag => Sys2Proof.Machine.execCharter port frag s
  | .charterAssemblyTimeout port => Sys2Proof.Machine.execCharterAssemblyTimeout port s
  | .joinTimeout => Sys2Proof.Machine.execJoinTimeout s
  | .attestReq via nonce => Sys2Proof.Machine.execAttestReq via nonce s
  | .attestResp via resp => Sys2Proof.Machine.execAttestResp via resp s
  | .attestInterval member => Sys2Proof.Machine.execAttestInterval member s
  | .attestTimeout member => Sys2Proof.Machine.execAttestTimeout member s
  | .role via epoch => Sys2Proof.Machine.execRole via epoch s
  | .roleSend => Sys2Proof.Machine.execRoleSend s
  | .numberReq via ref => Sys2Proof.Machine.execNumberReq via ref s
  | .numberAssign via ref number => Sys2Proof.Machine.execNumberAssign via ref number s
  | .numberUnconfirmed number => Sys2Proof.Machine.execNumberUnconfirmed number s
  | .keyReplicate via frag => Sys2Proof.Machine.execKeyReplicate via frag s
  | .keyReplicateTimeout slot => Sys2Proof.Machine.execKeyReplicateTimeout slot s
  | .keyCommitAck via slot => Sys2Proof.Machine.execKeyCommitAck via slot s
  | .keyRevoke via slot destroy => Sys2Proof.Machine.execKeyRevoke via slot destroy s
  | .leaseRequest via msg => Sys2Proof.Machine.execLeaseRequest via msg s
  | .leaseGrant via msg => Sys2Proof.Machine.execLeaseGrant via msg s
  | .leaseAck via msg => Sys2Proof.Machine.execLeaseAck via msg s
  | .leaseRefuse via msg => Sys2Proof.Machine.execLeaseRefuse via msg s
  | .mirror via msg => Sys2Proof.Machine.execMirror via msg s
  | .mirrorAck via msg => Sys2Proof.Machine.execMirrorAck via msg s
  | .leaseQuery via msg => Sys2Proof.Machine.execLeaseQuery via msg s
  | .leaseState via msg => Sys2Proof.Machine.execLeaseState via msg s
  | .leaseReturn via msg => Sys2Proof.Machine.execLeaseReturn via msg s
  | .throttleOff => Sys2Proof.Machine.execThrottleOff s
  | .scrubBehind => Sys2Proof.Machine.execScrubBehind s
  | .spdmRequest doe pecOk sessions => Sys2Proof.Machine.execSpdmRequest doe pecOk sessions s
  | .tapAccess code data => Sys2Proof.Machine.execTapAccess code data s
  | .msixUnmask v => Sys2Proof.Machine.execMsixUnmask v s
  | .atsInvalidation pasid => Sys2Proof.Machine.execAtsInvalidation pasid s
  | .wyRefclkLost present => Sys2Proof.Machine.execWyRefclkLost present s

end Sys2Proof.Machine
end

