-- ==== Sys2Proof/Safety.lean ====
section
/-! DEFINITION. What a safe run of the block is, and the terms its claims use: an operation that meets no check, the result it parks, and
what a command leaves alone. -/
namespace Sys2Proof.Machine

/-- The block goes on from a state: its next step is neither a fault nor a refusal. -/
def Runs (s : State) : Prop := ∃ t, step s = .next t

/-- The memories of the block are in canonical form. -/
def MemoryWf (s : State) : Prop := Memory.wf s.hostMem ∧ Memory.wf s.bufMem

/-- A state whose next step is safe. -/
def Safe (s : State) : Prop := ∃ t, step s = .next t ∧ (MemoryWf s → MemoryWf t)

/-- The words of OTP that are burnt (17 R379). -/
def burnt (o : Otp) : Nat × Nat × Nat × Bytes × Option Bytes × Option Bytes × Option Bytes :=
  (o.pattern, o.ownerKill, o.identityKill, o.uid, o.ownerKeyHash, o.pubelV, o.ownerSeed)

/-! #### Operations that meet no check -/

/-- Operation `id` is of the opcode of `sp`, waits at stage 5 and meets none of its checks there; its operands, its random bits and its key
material come. -/
structure Clear (sp : OpSpec) (s : State) (id : Nat) (i : OpInput) (o : Op) : Prop where
  here : op? s id = some o
  opcode : o.desc.opcode = sp.opcode
  waits : atStage5 s o = true
  ready : sp.ready s o = true
  checks : stage5Fails sp s o i = []
  operands : dataFails (sp.uses o.desc) s o i = []
  random : sp.random s o = true → rngOk s.kv = true
  material : i.keyFault = false ∧ i.keyFaultB = false

/-- What a command's operation is to park: its slot, the failure found after dispatch if there is one, and otherwise its verdict, output,
OPDATA and what is left for the release. -/
structure Expect where
  cmd : Nat → OpInput → Instr
  sp : OpSpec
  slot : Nat
  fail : Option Status := none
  verdict : Verdict := .none
  out : Bytes := []
  opdata : Bytes := []
  /-- What is still to be made at the release. -/
  effects : List Effect := []

/-- The snooped digests an operation appends to its output (02 R29, 10 R218). -/
def digestsOf (sp : OpSpec) (s : State) (o : Op) (i : OpInput) : Bytes :=
  if snooping sp o.desc then maskOut o.desc.param ((inBytes s o i).drop (sp.msgFrom s o i)) else []

/-- How an operation ends whose unit checks its own result, where it would otherwise end with `st`: rejected where the key is at fault,
ENGINE_FAULT where the unit is (06 R116, 09 R184; the operand is log 148's). -/
def selfChecked (i : OpInput) (st : Option Status) : Option Status :=
  match i.selfCheck with
  | 0 => st
  | 1 => some .keyRejected
  | _ => some .engineFault

/-- Operation `id` runs: it was dispatched at this beat with its slot, and what it parks is as expected, where no direct output of it overlaps
its input (03 R67); a failure carries no verdict and no output. -/
def Ran (s t : State) (id : Nat) (e : Expect) : Prop :=
  ∃ x, op? t id = some x ∧ x.stage = .running ∧ x.dispatch = s.beat ∧ x.slot = e.slot
    ∧ (e.fail = none → x.parked.status = .ok ∧ x.parked.verdict = e.verdict ∧ x.parked.opdata = e.opdata ∧ x.parked.effects = e.effects
        ∧ ((directOut x e.out.length && overlaps x e.out.length) = false → x.parked.out = e.out)
        ∧ x.parked.out.length = e.out.length)
    ∧ (∀ st, e.fail = some st → x.parked.status = st ∧ x.parked.verdict = .none ∧ x.parked.out = [])

/-- The rows of classes 0x01 to 0x08 with their opcodes. -/
def engineRows : List ((Nat → OpInput → Instr) × OpSpec) :=
  [(.kemKeygen, kemKeygenSpec), (.kemEncaps, kemEncapsSpec), (.kemDecaps, kemDecapsSpec), (.mldsaKeygen, mldsaKeygenSpec),
   (.mldsaSign, mldsaSignSpec), (.mldsaVerify, mldsaVerifySpec), (.fndsaVerify, fndsaVerifySpec), (.slhKeygen, slhKeygenSpec),
   (.slhSign, slhSignSpec), (.slhVerify, slhVerifySpec), (.slhPin, slhPinSpec), (.slhUnpin, slhUnpinSpec), (.treeBuild, treeBuildSpec),
   (.treeReduced, treeReducedSpec), (.stfKeygen, stfKeygenSpec), (.stfSign, stfSignSpec), (.stfVerify, stfVerifySpec),
   (.stfSplit, stfSplitSpec), (.stfStatus, stfStatusSpec), (.cmKeygen, cmKeygenSpec), (.cmEncaps, cmEncapsSpec), (.cmDecaps, cmDecapsSpec),
   (.hqcKeygen, hqcKeygenSpec), (.hqcEncaps, hqcEncapsSpec), (.hqcDecaps, hqcDecapsSpec), (.ecKeygen, ecKeygenSpec),
   (.ecdsaSign, ecdsaSignSpec), (.ecdsaVerify, ecdsaVerifySpec), (.eddsaSign, eddsaSignSpec), (.eddsaVerify, eddsaVerifySpec),
   (.ecdh, ecdhSpec), (.rsaKeygen, rsaKeygenSpec), (.rsaSign, rsaSignSpec), (.rsaVerify, rsaVerifySpec), (.rsaEncrypt, rsaEncryptSpec),
   (.rsaDecrypt, rsaDecryptSpec), (.dsaVerify, dsaVerifySpec), (.streamOpen, streamOpenSpec), (.streamFeed, streamFeedSpec),
   (.streamTail, streamTailSpec), (.digest, digestSpec), (.digestCompare, digestCompareSpec), (.streamSave, streamSaveSpec),
   (.streamRestore, streamRestoreSpec), (.gcmEncrypt, gcmEncryptSpec), (.gcmDecrypt, gcmDecryptSpec), (.mac, macSpec),
   (.macCompare, macCompareSpec), (.keyImportWrapped, importWrappedSpec), (.keyImportPublic, importPublicSpec),
   (.keyGenerate, generateSpec), (.keyDerive, deriveSpec), (.keyExportWrapped, exportWrappedSpec), (.keyExportPublic, exportPublicSpec),
   (.keySetAttr, setAttrSpec), (.keyInvalidate, invalidateSpec), (.keyPersist, persistSpec), (.keyDestroy, destroySpec),
   (.random, randomSpec), (.bufCreate, bufCreateSpec), (.bufLoad, bufLoadSpec), (.bufFree, bufFreeSpec), (.reattest, reattestSpec),
   (.compositeSign, compositeSignSpec), (.compositeVerify, compositeVerifySpec)]

/-- The state of an operation's ring and group that a completion on its own needs: the ring is there, and the operation is in no batch and
no group. -/
def Alone (s : State) (o : Op) (r : Ring) : Prop :=
  ring? s o.ring = some r ∧ inGroup r o.id = false ∧ inBatch r o.id = false ∧ o.desc.group = false
    ∧ o.gen = (instOf s o.inst).gen

/-- Operation `id` has left the path and its completion stands last in its ring's queue. -/
def Completed (t : State) (o : Op) (r : Ring) (st : Status) (v : Verdict) (opdata : Bytes) : Prop :=
  op? t o.id = none ∧ ∃ c, (ring? t o.ring).map (·.outq) = some (r.outq ++ [c]) ∧ c.status = st ∧ c.verdict = v ∧ c.opdata = opdata
    ∧ c.tag = o.desc.tag ∧ c.sqIndex = o.sqIndex

/-- A management operation on its own that waits at stage 5 and meets none of its checks there.  It names no key (03 R44). -/
structure Managed (sp : OpSpec) (s : State) (id : Nat) (i : OpInput) (o : Op) (r : Ring) : Prop where
  clear : Clear sp s id i o
  alone : Alone s o r
  noKeys : o.desc.keyA = 0 ∧ o.desc.keyB = 0 ∧ o.held = []
  unique : (s.ops.map (·.id)).Nodup

/-- Beside the operation's own record, the end of its ring's queue and what waits for a management operation, `t` is `u`. -/
def Beside (u t : State) (o : Op) : Prop :=
  { t with ops := u.ops, qm := u.qm, im := { t.im with waits := u.im.waits } } = u
    ∧ (∀ j, j ≠ o.id → op? t j = op? u j) ∧ (∀ n, n ≠ o.ring → ring? t n = ring? u n)
    ∧ (∀ w ∈ t.im.waits, w.1 = o.id ∨ w ∈ u.im.waits)

/-- The operation completes, and beside that `t` is `u`. -/
def Closed (t : State) (o : Op) (r : Ring) (st : Status) (opdata : Bytes) (u : State) : Prop :=
  Completed t o r st .none opdata ∧ Beside u t o

/-- The operation waits for `w`, and beside that `t` is `u`. -/
def Waiting (t : State) (o : Op) (w : MgmtWait) (u : State) : Prop :=
  (op? t o.id).map (·.stage) = some .running ∧ lookup o.id t.im.waits = some w ∧ Beside u t o

/-! #### Messages of members (19 R443, R447, R459) -/

/-- The message is acted on: there is a session with its sender, its RSEQ is new, and the second's count has room; an excluded member is heard
only where `good` is false. -/
def Heard (s : State) (v : Via) (good : Bool) (x : Member) : Prop :=
  ∃ y, member? s v.src = some y ∧ y.keys.isSome = true ∧ (good = true → y.excluded = false) ∧ replayed y v.rseq = false
    ∧ admitMessage s.beat y = some x

/-- The state in which the message of a heard member is acted on. -/
def heardState (s : State) (v : Via) (x : Member) : State := updMember v.src (fun _ => x.heardAt v.rseq s.beat) s

/-! #### What a command leaves alone -/

/-- A state without what every dispatch may move on: the records of operations, the counts of draws, what a transaction group's member stages,
and the owner and the working store of a long-number unit. -/
def settled (s t : State) : State :=
  { t with
    ops := s.ops, fresh := s.fresh, qm := s.qm, kv := { t.kv with drbgs := s.kv.drbgs }
    eng := { t.eng with lnOwner := s.eng.lnOwner, lnWork := s.eng.lnWork } }

/-- Beside what every dispatch may move on, everything is as it was, save the cache of trees as given. -/
def Only (s t : State) (o : Op) (hf : Cache) : Prop :=
  { settled s t with hf := s.hf } = s
    ∧ t.hf = hf ∧ (∀ j, j ≠ o.id → op? t j = op? s j) ∧ (o.desc.group = false → t.qm = s.qm)

/-- Slot `n` is made and no other slot changes; beside the vault and the cache of trees as given, and what every dispatch may move on, everything
is as it was. -/
def MadeOnly (s t : State) (o : Op) (n : Nat) (k : KeySlot) (hf : Cache) : Prop :=
  slot? t.kv n = some k ∧ (∀ m, m ≠ n → slot? t.kv m = slot? s.kv m) ∧ t.kv.blobs = s.kv.blobs ∧ t.kv.epochs = s.kv.epochs
    ∧ { settled s t with kv := s.kv, hf := s.hf } = s
    ∧ t.hf = hf ∧ (∀ j, j ≠ o.id → op? t j = op? s j) ∧ (o.desc.group = false → t.qm = s.qm)

end Sys2Proof.Machine
end

