-- ==== Sys2Proof/Certificates/Slice0/Obligations.lean ====
section
/-! DEFINITION. The statements about the block, for the provers: what each row of commands does, and what every step keeps. -/
open Sys2Proof Sys2Proof.Machine

/-! #### The queue, reset and the whole machine -/

/-- The command at the front of the queue is what a step runs, with the queue's rest (O1). -/
def Obligations.StepRunsTheFrontCommand : Prop :=
  ∀ (c : Instr) (cs : List Instr) (s : State), step { s with pending := c :: cs } = exec c { s with pending := cs }

/-- After reset the queue is empty, both memories are in canonical form, and the beat is 0.

With no command waiting a step counts one beat of the metronome and changes nothing else: that an idle step is a beat is the model's
choice (log 1); that the count is of 64 bits is R70's. -/
def Obligations.ResetIsCanonical : Prop :=
  (
    State.reset.pending = [] ∧ Memory.wf State.reset.hostMem ∧ Memory.wf State.reset.bufMem ∧ State.reset.beat = 0)
  ∧ (
    ∀ s : State, s.pending = [] → step s = .next { s with beat := (s.beat + 1) % 2 ^ 64 })

/-! #### Doorbells and rings (13_rings) -/

/-- Doorbells that name an enabled ring and carry a value in range: a scan starts, the tail or the head moves, cached entries from a position
on are dropped, moderation is set; a narrow write is counted as stray.

A doorbell that names no enabled ring changes nothing but the stray counter and its record (R282), and moderation settings of no ring
change nothing. -/
def Obligations.DoorbellsAct : Prop :=
  (
    ∀ (s : State) (inst d n w l : Nat) (r : Ring), bar2Ok s inst d = true → ringAt s inst d = some (n, r) →
      (r.tailMode = false → linOf r.size w = some l → used r.size l r.sqHead ≤ r.size →
        exec (.sqDoorbellScan inst d (some w)) s
          = .next (updRing n (fun x => { x with scanning := true, redo := none, again := x.scanning, stopped := false, idxDirty := x.idxDirty || x.stopped }) s))
      ∧ (r.tailMode = true → linStrict r.size w = some l → used r.size l r.sqHead ≤ r.size →
          used r.size r.tail r.sqHead ≤ used r.size l r.sqHead →
        exec (.sqDoorbellTail inst d w) s
          = .next (updRing n (fun x => { x with tail := l }) (updRing n (fun x => { x with stopped := false, idxDirty := x.idxDirty || x.stopped }) s)))
      ∧ (linOf r.size w = some l → used r.size r.cqTail l ≤ used r.size r.cqTail r.cqHead →
        exec (.cqDoorbell inst d (some w)) s
          = .next (updRing n (fun x => { x with cqHead := l, idxDirty := true })
              (updRing n (fun x => { x with writeWaits := false, idxDirty := x.idxDirty || x.writeStopped }) s)))
      ∧ (linStrict r.size w = some l → used r.size l r.sqHead < r.size → used r.size l r.sqHead < used r.size r.fetchPos r.sqHead →
        exec (.sqInvalidate inst d w) s
          = .next (updRing n (fun x =>
              { x with
                cache := r.cache.filter (fun c => used r.size c.lin r.sqHead < used r.size l r.sqHead)
                fetchPos := l
                redo := if r.tailMode || r.scanning then r.redo else r.redo.or (some r.fetchPos)
                inval := { word := w % 131072, done := true, tooLate := false, seq := (x.inval.seq + 1) % 256 }
                idxDirty := true }) s))
      ∧ (bit w 31 = false →
        exec (.cqModWrite inst d w) s
          = .next (updRing n (fun x =>
              { x with countM1 := bits w 7 0, timerUs := clip 1 1000 (bits w 17 8), irqEn := false, pend := 0, timerStart := none }) s))
      ∧ (∀ off width, off % 0x1000 / 0x20 % 64 = d → width < 4 →
        exec (.doorbellStray inst off width) s
          = .next { s with qm := { s.qm with strayCount := min 0xFFFF (s.qm.strayCount + 1), strayInst := inst, strayIndex := d } }))
  ∧ (
    ∀ (s : State) (inst d w : Nat) (h : Option Nat), bar2Ok s inst d = true → ringAt s inst d = none →
      exec (.cqModWrite inst d w) s = .next s
      ∧ ∀ c ∈ [Instr.sqDoorbellScan inst d h, .sqDoorbellTail inst d w, .cqDoorbell inst d h, .sqInvalidate inst d w],
        exec c s = .next { s with qm := { s.qm with strayCount := min 0xFFFF (s.qm.strayCount + 1), strayInst := inst, strayIndex := d } })

/-- One fetched entry of a ring that may fetch: an owned entry, or any entry in TAIL mode, joins the cache and the position moves on by
one; an entry not owned ends a scan; a cached entry with a poisoned word is read again in its place. -/
def Obligations.FetchTakesOneEntry : Prop :=
  ∀ (s : State) (n : Nat) (e : Bytes) (r : Ring), ring? s n = some r → fetchOk s r = true →
    (r.cache.find? (·.bad) = none → r.cache.length < 8 → used r.size r.fetchPos r.sqHead < r.size →
      (decodeDesc e).phase = phaseOf r.size r.fetchPos ∨ r.tailMode = true →
      ∃ t, exec (.fetch n [e]) s = .next t
        ∧ (ring? t n).map (·.cache) = some (r.cache ++ [⟨r.fetchPos, decodeDesc e, decide ((decodeDesc e).phase = phaseOf r.size r.fetchPos), false⟩])
        ∧ (ring? t n).map (·.fetchPos) = some ((r.fetchPos + 1) % (2 * r.size)))
    ∧ (r.cache.find? (·.bad) = none → r.cache.length < 8 → used r.size r.fetchPos r.sqHead < r.size →
      (decodeDesc e).phase ≠ phaseOf r.size r.fetchPos → r.tailMode = false →
      ∃ t, exec (.fetch n [e]) s = .next t ∧ (ring? t n).map (·.cache) = some r.cache
        ∧ (ring? t n).map (·.scanning) = some r.again)
    ∧ (∀ c, r.cache.find? (·.bad) = some c → (decodeDesc e).phase = phaseOf r.size c.lin ∨ r.tailMode = true →
      ∃ t, exec (.fetch n [e]) s = .next t ∧ (ring? t n).map (·.fetchPos) = some r.fetchPos
        ∧ (ring? t n).map (·.cache) = some (r.cache.map (fun x => if x.lin = c.lin then
            ⟨x.lin, decodeDesc e, decide ((decodeDesc e).phase = phaseOf r.size c.lin), false⟩ else x)))

/-- A ring's fetch and write errors stop it, are counted and raise their events; an expired backlog timer whose head read failed does
too. -/
def Obligations.RingErrorsStopTheRing : Prop :=
  ∀ (s : State) (n : Nat) (r : Ring), ring? s n = some r →
    (fetchOk s r = true →
      exec (.ringFetchError n) s
        = .next (raise_ 130 n (setRing n { r with stopped := true, scanning := false, redo := none, again := false, idxDirty := true
                                                  fetchErrors := min 0xFF (r.fetchErrors + 1) } s)))
    ∧ (memoryOk s = true → r.outq ≠ [] → cqFull r = false → r.writeWaits = false → r.backlogAt = none →
      exec (.ringWriteError n) s
        = .next (raise_ 131 n (setRing n
            { r with
              writeStopped := true, writeWaits := true, writeErrors := min 0xFF (r.writeErrors + 1), idxDirty := true
              backlogAt := some (s.beat + beatsMs (setting s 0x020104 15 0)) } s)))
    ∧ (memoryOk s = true → r.idxDirty = true → r.outq = [] →
      exec (.ringWriteError n) s
        = .next (raise_ 131 n (setRing n { r with writeStopped := true, writeErrors := min 0xFF (r.writeErrors + 1), idxDirty := true } s)))
    ∧ (∀ t w l, r.backlogAt = some t → t ≤ s.beat → s.hp.d3hot = false → r.outq ≠ [] → linOf r.size w = some l →
        used r.size r.cqTail l ≤ used r.size r.cqTail r.cqHead →
      exec (.backlogTimer n (some w)) s
        = .next (updRing n (fun x => { x with cqHead := l })
            (raise_ 128 n (setRing n { r with backlog := true, idxDirty := true
                                              backlogAt := some (s.beat + beatsMs (setting s 0x020104 15 0)) } s))))

/-- A released completion is written at CQ_TAIL once its ring has room, whether it was held or not, and the tail moves on by one
position; the entry's 32 bytes are those the layout gives.

The device half of a changed index block is written, 32 bytes at its base + 0x20, and nothing else of either memory changes (R280). -/
def Obligations.CompletionIsWrittenAtTheTail : Prop :=
  (
    ∀ (s : State) (n : Nat) (r : Ring) (c : Completion) (rest : List Completion),
      ring? s n = some r → memoryOk s = true → r.writeWaits = false → r.outq = c :: rest → c.dataDone = true → cqFull r = false →
      Memory.wf s.hostMem →
      ∀ cmd, (cmd = Instr.commit n .done ∨ (cmd = .heldCompletionWrite n ∧ r.backlogAt ≠ none)) →
        ∃ t, exec cmd s = .next t
          ∧ (ring? t n).map (·.cqTail) = some ((r.cqTail + 1) % (2 * r.size))
          ∧ (ring? t n).map (·.outq) = some rest
          ∧ (∀ i < 32, memRead t.hostMem (hostKey (spaceOf s r.inst) (r.cqBase + 32 * (r.cqTail % r.size)) + i)
              = some ((entryBytes n (phaseOf r.size r.cqTail) c).getD i 0))
          ∧ (∀ a, (a < hostKey (spaceOf s r.inst) (r.cqBase + 32 * (r.cqTail % r.size))
                ∨ hostKey (spaceOf s r.inst) (r.cqBase + 32 * (r.cqTail % r.size)) + 32 ≤ a) →
              memRead t.hostMem a = memRead s.hostMem a))
  ∧ (
    ∀ (s : State) (n : Nat) (r : Ring), ring? s n = some r → memoryOk s = true → r.idxDirty = true →
      Memory.wf s.hostMem →
      ∃ t, exec (.indexBlockWrite n) s = .next t ∧ (ring? t n).map (·.idxDirty) = some false ∧ t.bufMem = s.bufMem
        ∧ (∀ i < 32, memRead t.hostMem (hostKey (spaceOf s r.inst) (r.idxBase + 0x20) + i) = some ((indexHalf (clearStop r)).getD i 0))
        ∧ (∀ a, (a < hostKey (spaceOf s r.inst) (r.idxBase + 0x20) ∨ hostKey (spaceOf s r.inst) (r.idxBase + 0x20) + 32 ≤ a) →
            memRead t.hostMem a = memRead s.hostMem a))

/-- An expired moderation timer fires the ring's event; a due message of an unmasked vector is sent; unmasking a vector sends its pending
message. -/
def Obligations.InterruptsAreSent : Prop :=
  (∀ (s : State) (n : Nat) (r : Ring), ring? s n = some r → r.timerStart.isSome = true → r.timerAt ≤ s.beat →
      ringVectorValid s n = false →
      exec (.moderationTimer n) s = .next (setRing n { r with pend := 0, timerStart := none } s))
  ∧ (∀ (s : State) (n : Nat) (r : Ring), n < 4096 → ring? s n = some r → memoryOk s = true → r.eventPending = true → r.idxDirty = false →
      s.hp.msixEnable = true → vectorMasked s (setting s (0x034000 + 4 * n) 10 0) = false →
      exec (.msixMessage n) s
        = .next (send (.msix (setting s (0x034000 + 4 * n) 10 0)) (setRing n { r with eventPending := false } s)))
  ∧ (∀ (s : State) (v : Nat), v < 2048 → s.hp.msixEnable = true → s.hp.functionMask = false → s.hp.pba = [v] → memoryOk s = true →
      bar0Ok s (0x018000 + 16 * v + 12) = true →
      ∃ t, exec (.msixUnmask v) s = .next t ∧ t.outbox = s.outbox ++ [.msix v] ∧ t.hp.pba = [] ∧ vectorMasked t v = false)

/-- Ring 0 is created from its registers, and removed by them; a ring being destroyed with nothing left to write is freed.

RING_CREATE binds the lowest free number to the record's fields; RING_DESTROY disables its ring, drops its unadmitted entries and waits;
RING_CANCEL cancels the ring's operations and reports how many; the refusals of R299 change nothing. -/
def Obligations.RingsComeAndGo : Prop :=
  (
    (∀ (s : State) (w size d sq cq idx : Nat) (tail : Bool), ring? s 0 = none → bar0Ok s 0x100000 = true →
        ringZeroFields (setReg 0x100000 (BitVec.ofNat 32 (bits w 13 8 * 256 + bits w 6 1 * 2)) s) = (size, d, sq, cq, idx, tail) →
        4 ≤ size → size ≤ 16 → baseBad 4096 sq = false → baseBad 4096 cq = false → baseBad 64 idx = false →
        ∃ t r, exec (.ringZeroEnable w) s = .next t ∧ ring? t 0 = some r ∧ r.enabled = true ∧ r.sizeLog2 = size ∧ r.dbIndex = d ∧ r.inst = 0
          ∧ r.sqBase = sq ∧ r.cqBase = cq ∧ r.idxBase = idx ∧ r.tailMode = tail ∧ r.sqHead = 2 ^ size ∧ r.cqTail = 2 ^ size
          ∧ r.cache = [] ∧ r.outq = [])
    ∧ (∀ (s : State) (r : Ring), ring? s 0 = some r → r.enabled = true → bar0Ok s 0x100000 = true →
        ∃ t, exec .ringZeroDisable s = .next t ∧ t.hostMem = s.hostMem ∧ (∀ x, ring? t 0 = some x → x.enabled = false)
          ∧ (ringOps s 0 = [] → r.outq = [] → r.batches = [] → r.groups = [] → ring? t 0 = none))
    ∧ (∀ (s : State) (n id dropped : Nat), s.im.waits = [(id, .destroy n dropped)] → ringOps s n = [] → ringIdle s n = true →
        ∃ t, exec (.ringDestroyDiscard n) s = .next t ∧ ring? t n = none ∧ t.im.waits = []))
  ∧ (
    ∀ (s : State) (op : Nat) (i : OpInput) (o : Op) (r : Ring),
      let b := inBytes s o i
      let n := bits (field b 0 4) 11 0
      (Managed ringCreateSpec s op i o r →
        let inst := bits (field b 0x18 2) 9 0
        let d := bits (field b 0x1C 1) 5 0
        (∀ m, ringCreateReasons s inst d = [] → firstFree 1 4096 s.qm.rings = some m →
          ∃ t, exec (.ringCreate op i) s = .next t ∧ Closed t o r .ok (leBytes 2 m)
            (setRing m (newRing s inst (field b 0x1A 1) d (field b 0 8) (field b 8 8) (field b 16 8) (bit (field b 0x1B 1) 0)) s))
        ∧ (∀ k ks, ringCreateReasons s inst d = k :: ks →
          ∃ t, exec (.ringCreate op i) s = .next t ∧ Closed t o r .instanceState (instReason k) s))
      ∧ (Managed ringDestroySpec s op i o r → ∀ x, ring? s n = some x →
        (ringTargetReasons s o n = [] →
          ∃ t, exec (.ringDestroy op i) s = .next t ∧ lookup op t.im.waits = some (.destroy n (unadmitted x))
            ∧ (ring? t n).map (fun y => (y.enabled, y.cache, y.scanning)) = some (false, [], false)
            ∧ (∀ y ∈ t.ops, y.ring = n → dispatched y = true ∧ y.cancel = true))
        ∧ (∀ k ks, ringTargetReasons s o n = k :: ks →
          ∃ t, exec (.ringDestroy op i) s = .next t ∧ Closed t o r .instanceState (instReason k) s))
      ∧ (Managed ringCancelSpec s op i o r →
        (ringTargetReasons s o n = [] → (∀ x ∈ s.ops, x.ring = n → dispatched x = false) → (ring? s n).map (·.groups) = some [] →
          ∃ t, exec (.ringCancel op i) s = .next t ∧ Completed t o r .ok .none (leBytes 4 (ringOps s n).length)
            ∧ (∀ x ∈ t.ops, x.ring ≠ n))
        ∧ (ringTargetReasons s o n = [] → (∃ x ∈ s.ops, x.ring = n ∧ dispatched x = true) →
          ∃ t, exec (.ringCancel op i) s = .next t ∧ lookup op t.im.waits = some (.cancel n (cancellable s n) (cancellable s n).length)
            ∧ (∀ x ∈ t.ops, x.ring = n → dispatched x = true ∧ x.cancel = true))
        ∧ (∀ k ks, ringTargetReasons s o n = k :: ks →
          ∃ t, exec (.ringCancel op i) s = .next t ∧ Closed t o r .instanceState (instReason k) s)))

/-! #### The path of an operation (01_architecture, 03_descriptors, 04_release_timing) -/

/-- Stages 3 and 4: the first operation that waits is granted its energy when the grants fit the budget; one whose class has lost its last
unit goes to its pre-dispatch outcome without a grant; banks and units are leased together; a long-number unit is wiped for its next
owner.

A stream that has held its lane for MIN_HOLD gives it to the operation that waits for one, and the yield is counted.

SCATTER_WALK of the main input: a list whose entries sum to IN_LEN is kept; one that does not sum fails the operation with
LENGTH_MISMATCH, and one that is malformed with BAD_SCATTER. -/
def Obligations.GatesBeforeDispatch : Prop :=
  (
    ∀ (s : State) (op : Nat) (o : Op), op? s op = some o → modeRuns s (opClass o.desc) = true →
      (o.stage = .admitted → (∀ k ∈ needs s o, liveUnits s k ≠ []) → firstWaiting s = some op →
          energyUsed s + opEnergy (needs s o) ≤ 64 * (effectiveBudget s - standing s) →
        exec (.energyGrant op) s = .next (updOp op (fun x => { x with stage := .energised, energy := opEnergy (needs s o) }) s))
      ∧ (o.stage = .admitted → (∃ k ∈ needs s o, liveUnits s k = []) →
        exec (.energyGrant op) s
          = .next (updOp op (fun x => { x with stage := .leased, preFail := x.preFail ++ [.engineEclipsed] }) s))
      ∧ (∀ n us bs, s.fx.yielded = [] → o.stage = .energised → o.desc.opcode ≠ 0x0711 → (∀ k ∈ needs s o, liveUnits s k ≠ []) →
          streamBlocked s o = false → sequencerWithheld s o = false →
          chooseUnits s o.inst (snooped o.desc) (needs s o) [] = some us → freeBanks s ((banks o.desc).getD n) = some bs →
        ∃ t, exec (.bankLease op n) s = .next t
          ∧ (op? t op).map (fun x => (x.stage, x.units, x.banks, x.since)) = some (.leased, us, bs, s.beat)
          ∧ (∀ b, b ∉ bs → t.mem.leases[b]? = s.mem.leases[b]?)))
  ∧ (
    ∀ (s : State) (op n : Nat) (o h : Op), op? s op = some o → o.stage = .energised → (needs s o).contains .lane = true →
      unitFor s o.inst (snooped o.desc) [] .lane = none → longestHolder s = some h →
      h.since + beatsUs (clip 10 1000 (setting s 0x080030 9 0)) ≤ s.beat → ownEntry h.desc.opcode = true →
      (op? (leaseNow needs banks op n (updOp h.id (fun x => { x with units := [], waiting := true }) s)) op).map (·.stage) = some .leased →
      ∃ t, exec (.laneYield op n) s = .next t ∧ (op? t op).map (·.stage) = some .leased ∧ h.id ∈ t.fx.yielded
        ∧ t.fx.yields = min 0xFFFFFFFF (s.fx.yields + 1))
  ∧ (
    ∀ (s : State) (op : Nat) (words : List Bytes) (o : Op), op? s op = some o → o.stage = .leased → refKind o.desc.inRef = .scatter →
      o.inPieces = [] →
      (∀ ps, walkScatter words 0 0 = some ps → scatterSum ps = o.desc.inLen →
        exec (.scatterWalk op 0 words false false) s = .next (updOp op (fun x => { x with inPieces := ps, preFail := x.preFail ++ [] }) s))
      ∧ (∀ ps, walkScatter words 0 0 = some ps → scatterSum ps ≠ o.desc.inLen →
        exec (.scatterWalk op 0 words false false) s
          = .next (updOp op (fun x => { x with inPieces := ps, preFail := x.preFail ++ [.lengthMismatch] }) s))
      ∧ (walkScatter words 0 0 = none →
        exec (.scatterWalk op 0 words false false) s
          = .next (updOp op (fun x => { x with preFail := x.preFail ++ [.badScatter], poisonSeen := x.poisonSeen || false }) s)))

/-- The unit of a dispatched operation finishes: the operation's stage, its beat and its banks; of a compound operation one unit after
another ends its part; a read that timed out is consumed as poison, unless a lower code already stands.

Wipes end: a bank returns to the pool, or leaves it where it has been withdrawn; a long-number unit is ready for its next owner, and the
wipe is counted. -/
def Obligations.UnitsFinishAndAreWiped : Prop :=
  (
    ∀ (s : State) (op : Nat) (o : Op), op? s op = some o → o.stage = .running → opClass o.desc ≠ 0x0F →
      (o.waiting = false → o.cancel = false → o.desc.opcode ≠ 0x0711 → s.fx.yielded = [] → stoppedEngine s o = false → o.selfFault = none →
        (opClass o.desc ≠ 8 ∨ o.units.length ≤ 1 →
          ∃ t, exec (.engineDone op) s = .next t
            ∧ (op? t op).map (fun x => (x.stage, x.doneBeat, x.banks, x.parked.status, x.parked.out))
              = some (.finished, s.beat, [], o.parked.status, o.parked.out)
            ∧ t.hostMem = (directWrite o s).hostMem ∧ t.bufMem = (directWrite o s).bufMem)
        ∧ (∀ u us, opClass o.desc = 8 → o.units = u :: us → us ≠ [] →
          ∃ t, exec (.engineDone op) s = .next t ∧ t.hostMem = s.hostMem
            ∧ (op? t op).map (fun x => (x.stage, x.units, x.energy)) = some (.running, us, o.energy - opEnergy [u.kind])))
      ∧ (∃ t, exec (.dmaReadTimeout op) s = .next t
          ∧ (op? t op).map (fun x => (x.stage, x.poisonSeen, x.parked.out)) = some (.running, true, [])
          ∧ (o.parked.status = .ok →
              (op? t op).map (fun x => (x.parked.status, x.parked.verdict)) = some (.poisonConsumed, .none))
          ∧ (o.parked.status = .truncated ∨ o.parked.status = .overrun →
              (op? t op).map (fun x => (x.parked.status, x.parked.verdict))
                = some (o.parked.status, if o.parked.verdict = .notEqual then .notEqual else .none)))
      ∧ (o.cancel = true →
        ∃ t, exec (.cancelCheckpoint op) s = .next t
          ∧ (op? t op).map (fun x => (x.stage, x.checkpoint, x.banks, x.parked.status, x.parked.out)) = some (.finished, true, [], .aborted, [])))
  ∧ (
    (∀ (s : State) (b : Nat), s.mem.leases[b]? = some .wiping →
        exec (.bankWipe b) s = .next { s with mem := { s.mem with leases := s.mem.leases.set b (if s.mem.lost.contains b then .withdrawn else .free) } })
    ∧ (∀ (s : State) (u : Nat) (o : Op), o ∈ s.ops → o.wipeWait = true → o.units.contains ⟨.ln, u⟩ = true →
        ∃ t, exec (.lnOwnerWipe u) s = .next t ∧ t.eng.lnWipes = min 0xFFFF (s.eng.lnWipes + 1)
          ∧ ∀ x ∈ t.ops, x.units.contains ⟨.ln, u⟩ = true → x.wipeWait = false))

/-- The completion an operation on its own gives is put at the end of its ring's queue, and the operation leaves the path: a release
at a multiple of the slot, the end of an aborted one at a multiple of 6,250 beats. -/
def Obligations.ReleaseGivesTheCompletion : Prop :=
  ∀ (s : State) (op : Nat) (o : Op) (r : Ring), op? s op = some o → ring? s o.ring = some r → o.stage = .finished →
    o.gen = (instOf s o.inst).gen → inGroup r o.id = false → inBatch r o.id = false → o.desc.group = false → s.im.waits = [] →
    (o.cancel = false → atMultiple s o = true → supplyOk s = true →
      ∃ t c, exec (.release op) s = .next t ∧ op? t op = none ∧ (ring? t o.ring).map (·.outq) = some (r.outq ++ [c])
        ∧ c.status = releaseStatus o ∧ c.tag = o.desc.tag ∧ c.sqIndex = o.sqIndex)
    ∧ (o.cancel = true → o.checkpoint = true → o.dispatch < s.beat → (s.beat - o.dispatch) % 6250 = 0 →
      ∃ t c, exec (.abortRelease op) s = .next t ∧ op? t op = none ∧ (ring? t o.ring).map (·.outq) = some (r.outq ++ [c])
        ∧ c.status = .aborted ∧ c.tag = o.desc.tag ∧ c.verdict = .none ∧ c.outLen = 0)

/-- A key generation unfinished at its multiple limit ends with RETRY_LIMIT, unless its operands met a lower code, and is counted; its unit
is not eclipsed.

A unit unfinished at the watchdog's multiple is eclipsed and its operation leaves the path. -/
def Obligations.LimitsEndOperations : Prop :=
  (
    ∀ (s : State) (op : Nat) (o : Op) (r : Ring), op? s op = some o → ring? s o.ring = some r → o.cancel = false →
      o.gen = (instOf s o.inst).gen → inGroup r o.id = false → inBatch r o.id = false → o.desc.group = false → s.im.waits = [] →
      (o.desc.opcode = 0x0401 → unfinishedAt s o (maxMult s 0x060020) = true →
        ∃ t c, exec (.cmRetryLimit op) s = .next t ∧ op? t op = none ∧ (ring? t o.ring).map (·.outq) = some (r.outq ++ [c])
          ∧ (o.parked.status = .ok → c.status = .retryLimit) ∧ c.outLen = 0 ∧ t.eng.cmLimits = min 0xFFFF (s.eng.cmLimits + 1) ∧ t.ecl = s.ecl)
      ∧ (o.desc.opcode = 0x0511 → unfinishedAt s o (maxMult s 0x070020) = true →
        ∃ t c, exec (.rsaRetryLimit op) s = .next t ∧ op? t op = none ∧ (ring? t o.ring).map (·.outq) = some (r.outq ++ [c])
          ∧ (o.parked.status = .ok → c.status = .retryLimit) ∧ c.outLen = 0 ∧ t.eng.lnLimits = min 0xFFFF (s.eng.lnLimits + 1) ∧ t.ecl = s.ecl))
  ∧ (
    ∀ (s : State) (op : Nat) (o : Op) (u : UnitRef) (us : List UnitRef), op? s op = some o → o.units = u :: us → o.cancel = false → retryLimited o.desc.opcode = false →
      sourceUnit (unitSource u) = some u → unfinishedAt s o (watchdogMult s) = true →
      ∃ t, exec (.watchdog op) s = .next t ∧ op? t op = none ∧ u ∈ t.ecl.units)

/-- A closed group all of whose members succeeded commits: their completions go to the ring in ring order; where the write of one member's
output fails the group rolls back, that member alone carrying the failure; in a group that broke every member is told GROUP_ERROR and
writes nothing; an open group whose closing entry is late breaks. -/
def Obligations.GroupsCommitOrBreak : Prop :=
  ∀ (s : State) (n : Nat) (r : Ring) (g : Group), ring? s n = some r → r.groups = [g] → s.im.waits = [] → memoryOk s = true →
    (g.closed = true → (∀ m ∈ g.members, m.done.map (·.status) = some .ok) → (∀ m ∈ g.members, m.effects = []) →
        g.failed = none → g.broken = false → g.inForce = false → revokedMember s g = none → revoking s g = false →
      ∃ t, exec (.groupCommit ⟨n, .done, 0⟩) s = .next t ∧ (ring? t n).map (·.groups) = some []
        ∧ (ring? t n).map (·.outq) = some (r.outq ++ (g.members.filterMap (·.done)).map (fun c => { c with dataDone := true })))
    ∧ (∀ k m c, g.closed = true → (∀ m ∈ g.members, m.done.map (·.status) = some .ok ∧ m.created = none) →
        g.failed = none → g.broken = false → g.inForce = false → revokedMember s g = none →
        g.members[k]? = some m → m.done = some c → c.writes ≠ [] → (g.members.map (·.op)).Nodup →
      ∃ t cs, exec (.groupCommit ⟨n, .poison, k⟩) s = .next t ∧ (ring? t n).map (·.groups) = some []
        ∧ (ring? t n).map (·.outq) = some (r.outq ++ cs) ∧ cs.length = g.members.length ∧ t.kv = s.kv
        ∧ (cs[k]?).map (·.status) = some .poisonConsumed ∧ (∀ j, j ≠ k → j < cs.length → (cs[j]?).map (·.status) = some .groupRolledBack)
        ∧ ∀ c ∈ cs, c.writes = [])
    ∧ (∀ c k, g.closed = true → g.broken = true → g.inForce = false →
        (∀ m ∈ g.members, m.created = none ∧ m.done.map (·.status) = some .ok) →
      ∃ t cs, exec (.groupCommit ⟨n, c, k⟩) s = .next t ∧ (ring? t n).map (·.groups) = some []
        ∧ (ring? t n).map (·.outq) = some (r.outq ++ cs) ∧ cs.length = g.members.length ∧ ∀ c ∈ cs, c.status = .groupError ∧ c.writes = [])
    ∧ (g.closed = false → g.opened + 125 * max 1 (setting s 0x020100 15 0) ≤ s.beat → r.cache = [] → r.batches = [] →
      ∃ t, exec (.assemblyTimeout n) s = .next t ∧ (ring? t n).map (fun x => x.groups.map (fun y => (y.closed, y.broken))) = some [(true, true)])

/-- The entry at the head of a ring is admitted where R316 holds and, where it passes through an arbiter, the arbiter's choice falls on
its ring: it becomes the newest operation and the ring's head moves past it; an entry whose status is decided completes with it. -/
def Obligations.AdmissionTakesTheHead : Prop :=
  ∀ (s : State) (n : Nat) (r : Ring) (c : Cached) (rest : List Cached), ring? s n = some r → r.cache = c :: rest → r.batches = [] →
    r.groups = [] → s.glb.halted = false → s.glb.perst = false → headOk s n r c = true → (entryDesc c).batch = false →
    (entryDesc c).group = false → (instOf s r.inst).share ≠ 0 → (∀ x ∈ s.ops, x.id < s.nextOp) →
    (decided s r c = none → (skipsArbiter s r c = true ∨ ∃ t', arbitrate (opClass (entryDesc c)) s = some (n, t')) →
      ∃ t, exec (.admission n) s = .next t ∧ t.ops = s.ops ++ [admittedOp s n r c] ∧ t.nextOp = s.nextOp + 1
        ∧ (ring? t n).map (fun x => (x.sqHead, x.cache)) = some ((c.lin + 1) % (2 * r.size), rest))
    ∧ (∀ st, decided s r c = some st →
      ∃ t x, exec (.admission n) s = .next t ∧ t.ops = s.ops ∧ (ring? t n).map (·.outq) = some (r.outq ++ [x]) ∧ x.status = st
        ∧ x.tag = c.desc.tag ∧ x.sqIndex = c.lin % r.size)

/-! #### The engines (02_operations, 05_lattice to 12_key_vault) -/

/-- Key pairs: each generating row parks the public key and makes the private slot its template asks for, STAGED, under the lowest free
number; a slot that is to be persisted and whose record cannot be committed is not made, and no more is a key whose own check fails. -/
def Obligations.KeyPairsAreGenerated : Prop :=
  ∀ (s : State) (op : Nat) (i : OpInput) (o : Op) (n : Nat),
    bit (templateAux s o i).dest destGroup = false → ordinaryNumber s.kv = some n →
    let e := s.eng.info
    let suite := o.desc.suite
    let set := setOf suite
    let l := classOf o.desc
    let t := templateAux s o i
    let free := fun len => (freeBytes len s).1
    let slh := free (3 * slhN set) ++ slhRoot set (free (3 * slhN set))
    let cm := algBytes .keyCheck (cmPrivLen set) [suite] [free 32]
    let bitsN := [2048, 3072, 4096].getD (bits o.desc.param 1 0) 0
    let half := ceilDiv bitsN 16
    let rsa := leBytes 2 bitsN ++ [0, 0] ++ leBytes 4 65537 ++ beBytes half (rsaPrimes bitsN (free 64)).1 ++ beBytes half (rsaPrimes bitsN (free 64)).2
    let ec := ecPriv suite (free (ecPrivLen suite))
    let lost : Option Status := if bit t.flags 0 && !i.commitOk then some .journalFailed else none
    ∀ row ∈ [
      (({ cmd := .kemKeygen, sp := kemKeygenSpec, slot := slotMlkem set 0, fail := lost, out := derivePub e suite (free 64) } : Expect),
        ({ t := t, suite := suite, priv := free 64, pub := derivePub e suite (free 64), publicOnly := false } : NewKey)),
      ({ cmd := .mldsaKeygen, sp := mldsaKeygenSpec, slot := slotMldsaKeygen set, fail := lost, out := derivePub e suite (free 32) },
        { t := t, suite := suite, priv := free 32, pub := derivePub e suite (free 32), publicOnly := false }),
      ({ cmd := .slhKeygen, sp := slhKeygenSpec, slot := slotSlhUnpinned set l, fail := lost, out := slice slh (2 * slhN set) (2 * slhN set) },
        { t := t, suite := suite, priv := slh, pub := slice slh (2 * slhN set) (2 * slhN set), publicOnly := false }),
      ({ cmd := .cmKeygen, sp := cmKeygenSpec, slot := slotCmKeygen set, fail := lost, out := algBytes .cmPublic (cmPubLen set) [set] [cm] },
        { t := t, suite := suite, priv := cm, pub := [], publicOnly := false }),
      ({ cmd := .hqcKeygen, sp := hqcKeygenSpec, slot := slotHqc set, fail := lost, out := derivePub e suite (free (hqcPrivLen e set)) },
        { t := t, suite := suite, priv := free (hqcPrivLen e set), pub := derivePub e suite (free (hqcPrivLen e set)), publicOnly := false
          hqcRev := e.hqcSpec }),
      ({ cmd := .ecKeygen, sp := ecKeygenSpec, slot := slotEcKeygen suite l, fail := selfChecked i lost, out := derivePub e suite ec },
        { t := t, suite := suite, priv := ec, pub := derivePub e suite ec, publicOnly := false }),
      ({ cmd := .rsaKeygen, sp := rsaKeygenSpec, slot := slotRsaKeygen (bits o.desc.param 1 0), fail := lost, out := derivePub e suite rsa },
        { t := t, suite := suite, priv := rsa, pub := derivePub e suite rsa, publicOnly := false })],
    Clear row.1.sp s op i o →
      ∃ u, exec (row.1.cmd op i) s = .next u ∧ Ran s u op { row.1 with opdata := leBytes 2 n, effects := [.slotLive n] }
        ∧ (row.1.fail = none →
            MadeOnly s u o n (row.2.record o.inst) (if row.1.sp.opcode = 0x0201 then (takeTop n set s).hf else s.hf))
        ∧ (row.1.fail ≠ none → u.kv.slots = s.kv.slots)

/-- Encapsulation, decapsulation and key agreement: the ciphertext and the shared secret are the output, or with a template the secret is a
new KMAC slot and the ciphertext alone is the output; a transient key, a peer's key, a stored key or a result that fails its check fails
the operation. -/
def Obligations.SecretsAreAgreed : Prop :=
  ∀ (s : State) (op : Nat) (i : OpInput) (o : Op),
    let e := s.eng.info
    let suite := o.desc.suite
    let set := setOf suite
    let m := inBytes s o i
    let ek := encapsKey s o i
    let k := keyPriv s o o.desc.keyA
    let r := (freeBytes 32 s).1
    let dk := keyExpanded s o o.desc.keyA
    let z := ecdhZ suite k m
    let peerBad := !(pubFails suite m).isEmpty || ecdhBad suite k m z
    let lost : Option Status := if bit (templateAux s o i).flags 0 && !i.commitOk then some .journalFailed else none
    -- Each row: what it parks apart from its output, the ciphertext, the secret, and the key field whose slot is the secret's parent.
    ∀ row ∈ [
      (({ cmd := .kemEncaps, sp := kemEncapsSpec, slot := slotMlkem set 1
          fail := if o.desc.keyA = 0 && !mlkemModulusOk set ek then some .invalidInput else none } : Expect),
        mlkemCipher set ek r, mlkemSecret ek r, o.desc.keyA),
      ({ cmd := .kemDecaps, sp := kemDecapsSpec, slot := slotMlkem set 2
         fail := if mlkemHashOk set dk then none else some .engineFault },
        [], mlkemDecaps set dk m, o.desc.keyA),
      ({ cmd := .cmEncaps, sp := cmEncapsSpec, slot := slotCmEncaps set (classOf o.desc) (refKind o.desc.inRef == .buffer)
         fail := if cmPaddingOk set m then none else some .invalidInput },
        algBytes .cmCiphertext (cmCtLen set) [set] [m, r], algBytes .cmShared 32 [set] [m, r], 0),
      ({ cmd := .cmDecaps, sp := cmDecapsSpec, slot := slotCmDecaps set },
        [], cmDecaps set k m, o.desc.keyA),
      ({ cmd := .hqcEncaps, sp := hqcEncapsSpec, slot := slotHqc set },
        algBytes .hqcCiphertext (hqcCtLen e set) [set, e.hqcSpec] [ek, r], algBytes .hqcShared (hqcSsLen e set) [set, e.hqcSpec] [ek, r],
        o.desc.keyA),
      ({ cmd := .hqcDecaps, sp := hqcDecapsSpec, slot := slotHqc set },
        [], algBytes .hqcShared (hqcSsLen e set) [set, e.hqcSpec, 1] [k, m], o.desc.keyA),
      ({ cmd := .ecdh, sp := ecdhSpec, slot := slotEcdh suite
         fail := if peerBad then some .invalidInput else selfChecked i none },
        [], z, o.desc.keyA)],
    Clear row.1.sp s op i o →
      (o.desc.auxLen = 0 →
        ∃ t, exec (row.1.cmd op i) s = .next t ∧ Ran s t op { row.1 with out := row.2.1 ++ row.2.2.1 }
          ∧ (row.1.fail = none → Only s t o s.hf))
      ∧ (∀ n, o.desc.auxLen ≠ 0 → bit (templateAux s o i).dest destGroup = false → ordinaryNumber s.kv = some n →
        ∃ t, exec (row.1.cmd op i) s = .next t ∧ Ran s t op { row.1 with fail := row.1.fail.or lost, out := row.2.1, opdata := leBytes 2 n, effects := [.slotLive n] }
          ∧ (row.1.fail.or lost = none → MadeOnly s t o n ((secretKey s o (templateAux s o i) row.2.2.1 row.2.2.2).record o.inst) s.hf))

/-- Signing: the signature and the snooped digests are the output; a signature whose own check fails is withheld, and the operation carries
KEY_REJECTED where the key is at fault and ENGINE_FAULT where the unit is. -/
def Obligations.SignaturesAreMade : Prop :=
  ∀ (s : State) (op : Nat) (i : OpInput) (o : Op),
    let suite := o.desc.suite
    let set := setOf suite
    let p := o.desc.param
    let m := inBytes s o i
    let ctx := auxBytes s o i
    let k := keyPriv s o o.desc.keyA
    let pub := keyPub s o o.desc.keyA
    let l := classOf o.desc
    let det := bit p 0
    let n := target s o
    let free := fun len => (freeBytes len s).1
    let checked := selfChecked i none
    let m' := framed (bit p 2) (pHash p) ctx m
    let rand := if det then slice k (2 * slhN set) (slhN set) else free (slhN set)
    let tree := slhTreeNo set k m' rand
    let c := consumeTrees o i n tree s
    let again := if suite != 0x0A02 && fromHost o.desc.inRef then fit o.desc.inLen i.again else m
    let a := signPart s o i (pairOf suite).1 (bits p 0 0) o.desc.keyA (compositeString suite ctx m)
    let b := signPart a.st o i (pairOf suite).2 (bits p 0 0) o.desc.keyB (compositeString suite ctx m)
    ∀ row ∈ [
      (({ cmd := .mldsaSign, sp := mldsaSignSpec, slot := slotMldsaSign set l
          out := mldsaSign set k (mldsaMu p pub ctx m) (if det then List.replicate 32 0 else free 32) } : Expect), s.hf),
      ({ cmd := .slhSign, sp := slhSignSpec, slot := if pinned s n then slotSlhPinned set l else slotSlhUnpinned set l
         fail := if !hasTop c n && slhRoot set (k.take (3 * slhN set)) != slice k (3 * slhN set) (slhN set) then some .keyRejected
           else if i.selfCheck = 0 then none else some .engineFault
         out := slhSign set k m' rand }, (storeTree n tree (takeTop n set c)).hf),
      ({ cmd := .ecdsaSign, sp := ecdsaSignSpec, slot := slotEcdsaSign set l, fail := checked
         out := ecdsaSign set k (ecdsaDigest p m) (if det then nonce6979 set p k (ecdsaDigest p m) else free 64) }, s.hf),
      ({ cmd := .eddsaSign, sp := eddsaSignSpec, slot := slotEddsaSign set l, fail := checked
         out := eddsaSign suite k ctx m again }, s.hf),
      ({ cmd := .rsaSign, sp := rsaSignSpec, slot := slotRsaPrivate (rsaBits pub) l, fail := checked
         out := algBytes .rsaSignature (rsaK (rsaBits pub)) [suite, pHash p] [k, m, free (pOpt p)] }, s.hf),
      ({ cmd := .compositeSign, sp := compositeSignSpec
         slot := (signSpec (pairOf suite).1).slot s (memberOp o (pairOf suite).1 0 o.desc.keyA) i
           + (signSpec (pairOf suite).2).slot s (memberOp o (pairOf suite).2 0 o.desc.keyB) i
         fail := firstSlot (if a.fails.isEmpty then b.fails else a.fails)
         out := container suite a.out b.out }, b.st.hf)],
    Clear row.1.sp s op i o →
      ∃ t, exec (row.1.cmd op i) s = .next t ∧ Ran s t op { row.1 with out := row.1.out ++ digestsOf row.1.sp s o i }
        ∧ (row.1.fail = none → Only s t o row.2)

/-- Verifying: RESULT is VALID or INVALID as the standard's verification of the key, the message and the signature says, and the snooped
digests are the only output; an edge check that fails on a key or a value fails the operation. -/
def Obligations.SignaturesAreVerified : Prop :=
  ∀ (s : State) (op : Nat) (i : OpInput) (o : Op),
    let suite := o.desc.suite
    let set := setOf suite
    let p := o.desc.param
    let a := auxBytes s o i
    let l := classOf o.desc
    let key := fun n => verifyKey s o i n
    let msg := fun n => verifyMsg s o i n
    let big := bigKey s o i
    let bigLen := bigKeyLen o big
    let bigPub := if o.desc.keyA != 0 then big else big.take bigLen
    let bad := fun b => if b then some Status.invalidInput else none
    let badKey := fun k => decide (o.desc.keyA = 0) && !(pubFails suite k).isEmpty
    let ec := ecPubLen suite
    let stfLen := pubLenOf s.eng.info suite []
    let stfPub := if o.desc.keyA != 0 then keyPub s o o.desc.keyA else inBytes s o i
    let half := ecSigLen (0x900 + set) / 2
    let nb := dsaN bigPub / 8
    let q := beNat (slice bigPub (8 + dsaL bigPub / 8) nb)
    ∀ row ∈ [
      ({ cmd := .mldsaVerify, sp := mldsaVerifySpec, slot := slotMldsaVerify set l
         verdict := verdictOf (algBool .mldsaVerify [set] [key (mldsaPubLen set),
           mldsaMu p (key (mldsaPubLen set)) (a.drop (mldsaSigLen set)) (msg (mldsaPubLen set)), a.take (mldsaSigLen set)]) } : Expect),
      { cmd := .fndsaVerify, sp := fndsaVerifySpec, slot := slotFndsaVerify set l, fail := bad !(algBool .keyCheck [suite] [key (fndsaPubLen set)])
        verdict := verdictOf (algBool .fndsaVerify [set, s.eng.info.fndsaSpec] [key (fndsaPubLen set), msg (fndsaPubLen set),
          slice a 2 (field a 0 2), a.drop (2 + field a 0 2)]) },
      { cmd := .slhVerify, sp := slhVerifySpec, slot := slotSlhVerify set l
        verdict := verdictOf (algBool .slhVerify [set] [key (slhPubLen set),
          framed (bit p 2) (pHash p) (a.drop (slhSigLen set)) (msg (slhPubLen set)), a.take (slhSigLen set)]) },
      { cmd := .stfVerify, sp := stfVerifySpec
        slot := if famOf suite = 5 then slotLmsVerify set (hssCode stfPub) (hssLevels stfPub) l
          else slotXmssVerify set (if o.desc.keyA = 0 then xmssLayers set stfPub
            else ((stf? s (stfSpecTarget s o)).map (·.levels)).getD (xmssLayers set stfPub)) l
        verdict := verdictOf (stfLenOk suite (key stfLen) a
          && algBool (if famOf suite = 5 then .lmsVerify else .xmssVerify) [suite] [key stfLen, msg stfLen, a]) },
      { cmd := .ecdsaVerify, sp := ecdsaVerifySpec, slot := slotEcdsaVerify set l, fail := bad (badKey (key ec))
        verdict := verdictOf ((0 < beNat (a.take half) && beNat (a.take half) < curveOrder set
            && 0 < beNat (a.drop half) && beNat (a.drop half) < curveOrder set)
          && algBool .ecdsaVerify [set] [key ec, ecdsaDigest p (msg ec), a]) },
      { cmd := .eddsaVerify, sp := eddsaVerifySpec, slot := slotEddsaVerify set l, fail := bad (badKey (key ec))
        verdict := verdictOf (edSigOk suite (a.take (ecSigLen suite))
          && algBool .eddsaVerify [set] [key ec, msg ec, a.take (ecSigLen suite), a.drop (ecSigLen suite)]) },
      { cmd := .rsaVerify, sp := rsaVerifySpec, slot := slotRsaPublic (rsaBits big) l
        fail := bad (badKey bigPub || decide (rsaN bigPub ≤ beNat a))
        verdict := verdictOf (algBool .rsaVerify [if isPss suite then 1 else 2, pHash p, pOpt p] [bigPub, msg bigLen, a]) },
      { cmd := .dsaVerify, sp := dsaVerifySpec, slot := slotDsaVerify (dsaL big) l, fail := bad (badKey bigPub)
        verdict := verdictOf (0 < beNat (a.take nb) && beNat (a.take nb) < q && 0 < beNat (a.drop nb) && beNat (a.drop nb) < q
          && algBool .dsaVerify [pHash p] [bigPub, msg bigLen, a]) }],
    Clear row.sp s op i o →
      ∃ t, exec (row.cmd op i) s = .next t ∧ Ran s t op { row with out := digestsOf row.sp s o i } ∧ Only s t o s.hf

/-- COMPOSITE_VERIFY verifies both members and answers VALID only where the container's header is right and both are valid; REATTEST
answers the old signature's verdict, and only for a valid one writes the statement and the new signature. -/
def Obligations.CompoundSignatures : Prop :=
  ∀ (s : State) (op : Nat) (i : OpInput) (o : Op),
    let suite := o.desc.suite
    let A := (pairOf suite).1
    let B := (pairOf suite).2
    let whole := inBytes s o i
    let ka := memberKeyLen s.eng.info A o.desc.keyA
    let kb := memberKeyLen s.eng.info B o.desc.keyB
    let c := auxBytes s o i
    let P := compositeString suite (c.drop (containerLen suite)) (whole.drop (ka + kb))
    let x := verifyPart s o i A o.desc.keyA (whole.take ka) P (slice c 16 (pairLens suite).1)
    let y := verifyPart s o i B o.desc.keyB (slice whole ka kb) P (slice c (16 + (pairLens suite).1) (pairLens suite).2)
    let old := (oldSpec suite).run s (oldOp o) i
    (Clear compositeVerifySpec s op i o →
      ∃ t, exec (.compositeVerify op i) s = .next t
        ∧ Ran s t op
          { cmd := .compositeVerify, sp := compositeVerifySpec
            slot := (verifySpec A).slot s (memberOp o A 0 o.desc.keyA) i + (verifySpec B).slot s (memberOp o B 0 o.desc.keyB) i
            fail := firstSlot (x.fails ++ y.fails), verdict := verdictOf (containerOk suite c && x.verdict == .valid && y.verdict == .valid)
            out := digestsOf compositeVerifySpec s o i }
        ∧ Only s t o s.hf)
    ∧ (Clear reattestSpec s op i o → statefulKey s o = false →
      ∃ t, exec (.reattest op i) s = .next t
        ∧ (old.fails ≠ [] ∨ old.verdict ≠ .valid →
            Ran s t op { cmd := .reattest, sp := reattestSpec, slot := reattestSpec.slot s o i
                         fail := firstSlot old.fails, verdict := old.verdict })
        ∧ (old.fails = [] → old.verdict = .valid →
            let det := bits o.desc.param 0 0
            let new := if o.desc.keyB = 0 then signPart old.st o i (newSuite s o o.desc.keyA) det o.desc.keyA (statement s o i)
              else compositeSign old.st o i ((newPair s o).getD 0) det [] (statement s o i)
            Ran s t op { cmd := .reattest, sp := reattestSpec, slot := reattestSpec.slot s o i, fail := firstSlot new.fails, verdict := .valid
                         out := statement s o i ++ new.out ++ digestsOf reattestSpec s o i }))
    ∧ (∀ k, Clear reattestSpec s op i o → statefulKey s o = true → stf? s (stfSpecTarget s o) = some k →
      ∃ t k', exec (.reattest op i) s = .next t ∧ stf? t (stfSpecTarget s o) = some k'
        ∧ (k.group = false ∨ isPrimary s = false → k.next < k'.next))

/-- Digests, MACs, AES-256-GCM, RSA-OAEP, random bits, exports, the status record of a stateful key and evidence trees: the output or the
verdict is what the operands give, and nothing else changes. -/
def Obligations.OutputsAreComputed : Prop :=
  ∀ (s : State) (op : Nat) (i : OpInput) (o : Op),
    let suite := o.desc.suite
    let set := setOf suite
    let p := o.desc.param
    let m := inBytes s o i
    let a := auxBytes s o i
    let k := keyPriv s o o.desc.keyA
    let pub := keyPub s o o.desc.keyA
    let l := classOf o.desc
    let free := fun len => (freeBytes len s).1
    let digest := if suite = 0x0D01 then maskOut p m else algBytes .shake o.desc.outCap [set] [m]
    let mac := if suite = 0x0E01 then algBytes .hmac (hashLen (pHash p)) [pHash p] [k, m] else algBytes .kmac 64 [] [k, m, a]
    let expected := fun len => expBytes s o i len
    let equal := fun b => if b then Verdict.equal else .notEqual
    let c := m.take (m.length - 16)
    let plain := algBytes .gcmPlain c.length [] [k, a.take 12, a.drop 12, c]
    let tagOk := m.drop (m.length - 16) == algBytes .gcmTag 16 [] [k, a.take 12, a.drop 12, plain]
    let big := bigKey s o i
    let bigPub := if o.desc.keyA != 0 then big else big.take (bigKeyLen o big)
    let decodes := decide (beNat m < rsaN pub) && algBool .rsaDecodeOk [pHash p] [k, m, a]
    let n := treeN o.desc
    let levels := levelsAbove (treeHashCode set) (treeLevels n) (leavesOf (treeD set) n m)
    let wrapSuite := ((keyOf s o o.desc.keyB).map (·.suite)).getD 0
    ∀ row ∈ [
      ({ cmd := .digest, sp := digestSpec, slot := slotFx l, out := digest } : Expect),
      { cmd := .digestCompare, sp := digestCompareSpec, slot := slotFx l, verdict := equal (digest == expected (maskLen p)) },
      { cmd := .mac, sp := macSpec, slot := slotFx l, out := mac },
      { cmd := .macCompare, sp := macCompareSpec, slot := slotFx l, verdict := equal (mac == expected (macLen o.desc)) },
      { cmd := .gcmEncrypt, sp := gcmEncryptSpec, slot := slotGcm l
        out := algBytes .gcmCipher m.length [] [k, a.take 12, a.drop 12, m] ++ algBytes .gcmTag 16 [] [k, a.take 12, a.drop 12, m] },
      { cmd := .gcmDecrypt, sp := gcmDecryptSpec, slot := slotGcm l, verdict := equal tagOk, out := if tagOk then plain else [] },
      { cmd := .rsaEncrypt, sp := rsaEncryptSpec, slot := slotRsaPublic (rsaBits big) l
        fail := if decide (o.desc.keyA = 0) && !(pubFails suite bigPub).isEmpty then some .invalidInput else none
        out := algBytes .rsaCiphertext (rsaK (rsaBits bigPub)) [pHash p]
          [bigPub, verifyMsg s o i (bigKeyLen o big), a, free (hashLen (pHash p))] },
      { cmd := .rsaDecrypt, sp := rsaDecryptSpec, slot := slotRsaPrivate (rsaBits pub) l
        fail := selfChecked i (if decodes then none else some .invalidInput)
        out := algBytes .rsaPlain (min (algNat .rsaPlain [pHash p] [k, m, a]) (oaepMax (rsaBits pub) p)) [pHash p] [k, m, a] },
      { cmd := .random, sp := randomSpec, slot := slotRandom (lengthClass (o.desc.inLen + o.desc.auxLen + o.desc.outCap))
        out := free o.desc.outCap },
      { cmd := .keyExportWrapped, sp := exportWrappedSpec, slot := 1250, out := wrapKey wrapSuite (keyPriv s o o.desc.keyB) k },
      { cmd := .keyExportPublic, sp := exportPublicSpec, slot := 1250, out := pub },
      { cmd := .stfStatus, sp := stfStatusSpec, slot := 1250, out := ((stf? s (stfSpecTarget s o)).map (stfStatus s)).getD [] },
      { cmd := .treeBuild, sp := treeBuildSpec, slot := slotTreeBuild set l, out := (levels.map List.flatten).flatten
        opdata := leBytes 4 n ++ [BitVec.ofNat 8 (treeLevels n)] }],
    Clear row.sp s op i o →
      ∃ t, exec (row.cmd op i) s = .next t ∧ Ran s t op row ∧ (row.fail = none → Only s t o s.hf)

/-- Streams: opened under the lowest free handle; fed and closed as R210 and R211 count; saved to a blob and restored from one whose tag and
fields are right. -/
def Obligations.StreamsAbsorb : Prop :=
  ∀ (s : State) (op : Nat) (i : OpInput) (o : Op),
    let h := streamHandle o
    let m := inBytes s o i
    let l := classOf o.desc
    (∀ f, Clear streamOpenSpec s op i o → freeHandle s = some f →
      ∃ t, exec (.streamOpen op i) s = .next t
        ∧ Ran s t op { cmd := .streamOpen, sp := streamOpenSpec, slot := 250, opdata := leBytes 2 f, effects := [.streamOpen f] }
        ∧ stream? t f = some ⟨o.inst, o.gen, o.desc.suite, o.desc.param,
            if field (auxBytes s o i) 0 8 = 2 ^ 64 - 1 then none else some (field (auxBytes s o i) 0 8), 0, none, [], false, false, false⟩
        ∧ (∀ g, g ≠ f → stream? t g = stream? s g))
    ∧ (∀ x, Clear streamFeedSpec s op i o → stream? s h = some x →
      ∃ t, exec (.streamFeed op i) s = .next t
        ∧ stream? t h = some (absorb m x) ∧ (∀ g, g ≠ h → stream? t g = stream? s g)
        ∧ Ran s t op { cmd := .streamFeed, sp := streamFeedSpec, slot := slotFx l, opdata := leBytes 8 (absorb m x).fed
                       fail := if (absorb m x).overrun then some .overrun else none })
    ∧ (∀ x, Clear streamTailSpec s op i o → stream? s h = some x →
      let y := absorb m x
      let short := match y.declared with | some d => decide (y.fed < d) | none => false
      ∃ t, exec (.streamTail op i) s = .next t
        ∧ stream? t h = some { y with closing := true } ∧ (∀ g, g ≠ h → stream? t g = stream? s g)
        ∧ (y.overrun = false → short = false → o.desc.expRef = 0 →
            Ran s t op { cmd := .streamTail, sp := streamTailSpec, slot := slotFx l, opdata := leBytes 8 y.fed
                         out := streamDigest y o.desc.outCap })
        ∧ (y.overrun = false → short = false → o.desc.expRef ≠ 0 →
            Ran s t op { cmd := .streamTail, sp := streamTailSpec, slot := slotFx l, opdata := leBytes 8 y.fed
                         verdict := equalVerdict (streamDigest y o.desc.outCap == expBytes s o i (maskLen o.desc.param)) })
        ∧ (y.overrun = true ∨ short = true →
            (op? t op).map (fun z => (z.stage, z.slot, z.parked.status, z.parked.out, z.parked.verdict))
              = some (.running, slotFx l, if y.overrun then .overrun else .truncated, [],
                  if o.desc.expRef = 0 then .none else .notEqual)))
    ∧ (∀ x, Clear streamSaveSpec s op i o → stream? s h = some x →
      ∃ t, exec (.streamSave op i) s = .next t ∧ Only s t o s.hf
        ∧ Ran s t op { cmd := .streamSave, sp := streamSaveSpec, slot := 1250, out := blobBody x ++ blobTag s (blobBody x) })
    ∧ (∀ f, Clear streamRestoreSpec s op i o → freeHandle s = some f →
      let body := m.take 0x250
      let bad := if slice m 0x250 16 != blobTag s body then some Status.wrapAuth
        else if blobBad o.desc m then some .invalidInput else none
      ∃ t, exec (.streamRestore op i) s = .next t
        ∧ Ran s t op { cmd := .streamRestore, sp := streamRestoreSpec, slot := 1250, fail := bad, opdata := leBytes 2 f
                       effects := [.streamOpen f] }
        ∧ (bad = none → (stream? t f).map (fun x => (x.owner, x.suite, x.param, x.fed, x.overrun, x.base))
            = some (o.inst, o.desc.suite, o.desc.param, field m 0x10 8, bit (field m 0x18 4) 0, some (slice m 0x20 0x230)))
        ∧ (bad ≠ none → t.fx = s.fx))

/-- The cache of trees: a pin is made once and reported again, an unpin takes effect at the release; a reduced tree's records are written
and its host memory is touched only where a level spills. -/
def Obligations.TreesAndPins : Prop :=
  ∀ (s : State) (op : Nat) (i : OpInput) (o : Op),
    let n := target s o
    let set := setOf o.desc.suite
    let l := classOf o.desc
    let blocks := slhLayerTrees set * slhTreeBlocks set
    (∀ k p, Clear slhPinSpec s op i o → pinOf s n = some (k, p) →
      ∃ t, exec (.slhPin op i) s = .next t ∧ Only s t o s.hf
        ∧ Ran s t op { cmd := .slhPin, sp := slhPinSpec, slot := slotSlhUnpinned set l, opdata := leBytes 2 k ++ [0, 0] ++ leBytes 4 p.blocks })
    ∧ (∀ k, Clear slhPinSpec s op i o → pinOf s n = none → firstFree 0 64 s.hf.pins = some k →
      ∃ t, exec (.slhPin op i) s = .next t
        ∧ Ran s t op { cmd := .slhPin, sp := slhPinSpec, slot := slotSlhUnpinned set l, opdata := leBytes 2 k ++ [0, 0] ++ leBytes 4 blocks
                       effects := [.pin k] }
        ∧ lookup k t.hf.pins = some ⟨n, blocks, slhLayerTrees set, [], false, false, []⟩
        ∧ (∀ j, j ≠ k → lookup j t.hf.pins = lookup j s.hf.pins))
    ∧ (Clear slhUnpinSpec s op i o →
      ∃ t, exec (.slhUnpin op i) s = .next t ∧ Only s t o s.hf
        ∧ Ran s t op { cmd := .slhUnpin, sp := slhUnpinSpec, slot := 1250, opdata := ((pinOf s n).map (fun e => leBytes 2 e.1)).getD []
                       effects := ((pinOf s n).map (fun e => [Effect.unpin e.1])).getD [] })
    ∧ (Clear treeReducedSpec s op i o →
      ∃ t, exec (.treeReduced op i) s = .next t
        ∧ Ran s t op { cmd := .treeReduced, sp := treeReducedSpec, slot := slotTreeReduced set l
                       out := reducedOut (treeHashCode set) (treeD set) (treeN o.desc) (leavesOf (treeD set) (treeN o.desc) (inBytes s o i)) }
        ∧ (spilled o.desc = [] → Only s t o s.hf))

/-- Stateful keys: generation makes a slot and its custody; a signature takes the index NEXT and waits for its reservation where that is not
committed; a split takes the top indices off, for a sealed range blob or a second local slot.

A sealed range blob is imported as a stateful key: its slot and its custody are made, or the failure found in it leaves both as they
were. -/
def Obligations.StatefulKeysAreCustodied : Prop :=
  (
    ∀ (s : State) (op : Nat) (i : OpInput) (o : Op),
      let suite := o.desc.suite
      let set := setOf suite
      let n := stfSpecTarget s o
      let params := stfParams suite o.desc.param
      let lv := params.1
      let h := params.2.1
      let w := params.2.2
      let t0 := templateAux s o i
      let count := field (inBytes s o i) 0 8
      (∀ m, Clear stfKeygenSpec s op i o → bit t0.dest destGroup = false → ordinaryNumber s.kv = some m →
        ∃ t, exec (.stfKeygen op i) s = .next t
          ∧ (i.commitOk = true → journalRoom s 1 = true →
              (op? t op).map (fun x => (x.stage, x.slot, x.parked.status, x.parked.opdata, x.parked.effects))
                = some (.running, slotStfKeygen set (List.replicate lv (h, if famOf suite = 5 then stfF100 w else 100)), .ok,
                    leBytes 2 m ++ [0, 0] ++ leBytes 8 (2 ^ (lv * h)), [.slotLive m, .stfLive m])
              ∧ (slot? t.kv m).map (fun k => (k.state, k.suite, k.persist, k.publicOnly)) = some (.staged, suite, true, false)
              ∧ (stf? t m).map (fun k => (k.rangeStart, k.rangeEnd, k.reservedEnd, k.next, k.group)) = some (0, 2 ^ (lv * h), 0, 0, false)
              ∧ lookup m t.hf.sets = some (setBlocks (stfN set) lv h))
          ∧ (i.commitOk = false ∨ journalRoom s 1 = false →
              (op? t op).map (fun x => (x.stage, x.parked.status, x.parked.out)) = some (.running, .journalFailed, [])
                ∧ t.stf = s.stf ∧ t.kv.slots = s.kv.slots))
      ∧ (∀ k, Clear stfSignSpec s op i o → stf? s n = some k →
        ∃ t k', exec (.stfSign op i) s = .next t ∧ stf? t n = some k' ∧ (k.group = false ∨ isPrimary s = false → k.next < k'.next)
          ∧ (op? t op).map (fun x => (x.stage, x.parked.status, x.parked.out, x.parked.opdata.take 8, x.waiting))
              = some (.running, .ok,
                  stfSign suite k (keyPriv s o o.desc.keyA) k.next (inBytes s o i) ++ digestsOf stfSignSpec s o i,
                  leBytes 8 k.next, o.waiting || decide (k.reservedEnd ≤ k.next))
          ∧ (k.group = false → k'.next = k.next + 1 ∧ k'.rangeEnd = k.rangeEnd ∧ k'.reservedEnd = k.reservedEnd
              ∧ (k.reservedEnd ≤ k.next → k.reserving = none → k.cap = none → k.reservedEnd < k.rangeEnd →
                  k'.reserving = some (min ((k.reservedEnd / 1024 + 1) * 1024) k.rangeEnd))))
      ∧ (∀ k, Clear stfSplitSpec s op i o → stf? s n = some k → i.commitOk = true → journalRoom s 2 = true →
        ∃ t, exec (.stfSplit op i) s = .next t
          ∧ (count % 1024 ≠ 0 ∨ count < 1024 →
              (op? t op).map (fun x => (x.stage, x.parked.status)) = some (.running, .invalidInput) ∧ t.stf = s.stf)
          ∧ (count % 1024 = 0 → 1024 ≤ count → signLimit k - max k.reservedEnd k.next < count →
              (op? t op).map (fun x => (x.stage, x.parked.status)) = some (.running, .keyExhausted) ∧ t.stf = s.stf)
          ∧ (count % 1024 = 0 → 1024 ≤ count → count ≤ signLimit k - max k.reservedEnd k.next →
              (o.desc.keyB ≠ 0 →
                  (stf? t n).map (·.cap) = some (some (signLimit k - count))
                  ∧ (op? t op).map (fun x => (x.stage, x.slot, x.parked.status, x.parked.opdata, x.parked.effects, x.parked.out.length))
                    = some (.running, 25000, .ok, [0, 0, 0, 0] ++ leBytes 8 (signLimit k - count),
                        [.stfSplit n (signLimit k - count) (signLimit k)],
                        (blobHeader suite k.keyId (signLimit k - count) (signLimit k)).length + 1568
                          + wrapLen 0x0E05 (keyPriv s o o.desc.keyA).length))
              ∧ (∀ m, o.desc.keyB = 0 → bit t0.dest destGroup = false → ordinaryNumber s.kv = some m → m ≠ n →
                  (stf? t n).map (·.cap) = some (some (signLimit k - count))
                  ∧ (op? t op).map (fun x => (x.stage, x.parked.status, x.parked.opdata, x.parked.effects))
                    = some (.running, .ok, leBytes 2 m ++ [0, 0] ++ leBytes 8 (signLimit k - count),
                        [.stfSplit n (signLimit k - count) (signLimit k), .slotLive m, .stfLive m])
                  ∧ (stf? t m).map (fun x => (x.keyId, x.rangeStart, x.rangeEnd)) = some (k.keyId, signLimit k - count, signLimit k)))))
  ∧ (
    ∀ (s : State) (op : Nat) (i : OpInput) (o : Op) (n : Nat), Clear importWrappedSpec s op i o → famOf o.desc.suite = 5 ∨ famOf o.desc.suite = 6 →
      ordinaryNumber s.kv = some n → bit (templateAux s o i).dest destGroup = false →
      let b := inBytes s o i
      let ss := mlkemDecaps 3 (keyExpanded s o o.desc.keyA) (slice b 40 1568)
      let kek := kmac ss (b.take 40) 32 "KLQ stateful range"
      let plain := unwrapKey 0x0E05 kek (b.drop 1608)
      let params := importedParams o.desc.suite plain
      let start := field b 24 8
      let stop := field b 32 8
      let rejected := field b 0 2 != 1 || field b 2 2 != o.desc.suite || field b 4 4 != 0 || plain.length != stfPrivLen o.desc.suite
          || slice plain 0 16 != slice b 8 16 || !importedSuiteOk o.desc.suite plain || decide (2 ^ (params.1 * params.2.1) < stop) || decide (stop ≤ start)
      let fail := if !unwrapOk 0x0E05 kek (b.drop 1608) then some Status.wrapAuth else if rejected then some .keyRejected
        else if !i.commitOk || !journalRoom s 2 then some .journalFailed else none
      40 ≤ b.length →
      ∃ t, exec (.keyImportWrapped op i) s = .next t
        ∧ Ran s t op { cmd := .keyImportWrapped, sp := importWrappedSpec, slot := 1250, fail := fail, opdata := leBytes 2 n }
        ∧ (fail ≠ none → t.stf = s.stf ∧ t.kv.slots = s.kv.slots)
        ∧ (fail = none → n ≠ stfSpecTarget s o →
            (slot? t.kv n).map (fun k => (k.suite, k.persist, k.publicOnly)) = some (o.desc.suite, true, false)
            ∧ (stf? t n).map (fun k => (k.keyId, k.rangeStart, k.rangeEnd, k.next)) = some (slice plain 0 16, start, stop, start)))

/-- Creation in class 0x07: the slot is made at once, LIVE outside a transaction group and STAGED inside one, persisted where its template
asks for it; a wrapped key that does not unwrap, or a key its checks turn away, makes none. -/
def Obligations.VaultSlotsAreMade : Prop :=
  ∀ (s : State) (op : Nat) (i : OpInput) (o : Op) (n : Nat), ordinaryNumber s.kv = some n →
    let suite := o.desc.suite
    let info := s.eng.info
    let m := inBytes s o i
    let t0 := templateAux s o i
    let wrapSuite := ((keyOf s o o.desc.keyA).map (·.suite)).getD 0
    let plain := unwrapKey wrapSuite (keyPriv s o o.desc.keyA) m
    let rev := if famOf suite = 8 then info.hqcSpec else 0
    let d0 := templateIn s o i
    let dSuite := if d0.suite = 0 then 0x0E02 else d0.suite
    let x := leBytes 2 dSuite ++ leBytes 2 d0.dest ++ leBytes 4 d0.usage ++ auxBytes s o i
    let lost := fun (t : Template) => if bit t.flags 0 && !i.commitOk then some Status.journalFailed else none
    let derived := if o.desc.keyA = 0 then kmac (rootInForce s) x 32 "KLQ root derive"
      else kmac (keyPriv s o o.desc.keyA) x 32 "KLQ host derive"
    ∀ row ∈ [
      (({ cmd := .keyImportWrapped, sp := importWrappedSpec, slot := 1250
          fail := if unwrapOk wrapSuite (keyPriv s o o.desc.keyA) m then (firstSlot (privFails info suite plain)).or (lost t0)
            else some .wrapAuth } : Expect),
        ({ t := t0, suite := suite, priv := plain, pub := derivePub info suite plain, publicOnly := false, hqcRev := rev } : NewKey)),
      ({ cmd := .keyImportPublic, sp := importPublicSpec, slot := 1250, fail := (firstSlot (pubFails suite m)).or (lost t0) },
        { t := t0, suite := suite, priv := [], pub := m, publicOnly := true, hqcRev := rev }),
      ({ cmd := .keyGenerate, sp := generateSpec, slot := 1250, fail := lost t0 },
        { t := t0, suite := suite, priv := (freeBytes 32 s).1, pub := [], publicOnly := false }),
      ({ cmd := .keyDerive, sp := deriveSpec, slot := 1250, fail := lost d0 },
        { t := d0, suite := dSuite, priv := derived, pub := [], publicOnly := false, fromRoot := decide (o.desc.keyA = 0)
          lineage := keyRefs s o o.desc.keyA })],
    (row.1.sp.opcode = 0x0701 → famOf suite ≠ 5 ∧ famOf suite ≠ 6) → bit row.2.t.dest destGroup = false → Clear row.1.sp s op i o →
      ∃ t, exec (row.1.cmd op i) s = .next t ∧ Ran s t op { row.1 with opdata := leBytes 2 n }
        ∧ (row.1.fail = none →
            slot? t.kv n = some { row.2.record o.inst with state := if o.desc.group then .staged else .live }
            ∧ (∀ j, j ≠ n → slot? t.kv j = slot? s.kv j) ∧ t.kv.epochs = s.kv.epochs
            ∧ (bit row.2.t.flags 0 = true → o.desc.group = false → (lookup n t.kv.blobs).isSome = true)
            ∧ { settled s t with kv := s.kv } = s)
        ∧ (row.1.fail ≠ none → t.kv.slots = s.kv.slots)

/-- Managing a slot outside a transaction group: attributes change, an epoch is counted up and the slot and its descendants are revoked, a
blob is written, a slot is destroyed; inside a group nothing of this happens before the commit. -/
def Obligations.VaultSlotsAreManaged : Prop :=
  ∀ (s : State) (op : Nat) (i : OpInput) (o : Op) (k : KeySlot),
    let n := target s o
    let t0 := templateIn s o i
    groupOf s o = none → slot? s.kv n = some k →
    (Clear setAttrSpec s op i o → (k.persist = true → i.commitOk = true) →
      ∃ t, exec (.keySetAttr op i) s = .next t ∧ Ran s t op { cmd := .keySetAttr, sp := setAttrSpec, slot := 1250 }
        ∧ (o.desc.group = false → k.state = .live →
            (slot? t.kv n).map (fun x => (x.dest, x.usage, x.hostTag, x.shared, x.owner))
              = some (t0.dest, t0.usage, t0.hostTag, k.shared && bit t0.flags 1, if bit t0.newOwner 15 then bits t0.newOwner 9 0 else k.owner))
        ∧ (o.desc.group = true → t.kv.slots = s.kv.slots))
    ∧ (Clear setAttrSpec s op i o → k.persist = true → i.commitOk = false →
      ∃ t, exec (.keySetAttr op i) s = .next t ∧ t.kv.slots = s.kv.slots
        ∧ Ran s t op { cmd := .keySetAttr, sp := setAttrSpec, slot := 1250, fail := some .journalFailed })
    ∧ (Clear invalidateSpec s op i o → o.desc.group = false → n < 15360 →
      ∃ t, exec (.keyInvalidate op i) s = .next t
        ∧ Ran s t op { cmd := .keyInvalidate, sp := invalidateSpec, slot := 1250, opdata := leBytes 4 (min 0xFFFFFFFF (epoch s.kv n + 1)) }
        ∧ epoch t.kv n = min 0xFFFFFFFF (epoch s.kv n + 1) ∧ lookup n t.kv.blobs = none
        ∧ (slot? t.kv n).map (·.state) = some (if epoch t.kv n = 0xFFFFFFFF then .retired else .revoked)
        ∧ (∀ j x, slot? t.kv j = some x → x.state = .live → ∀ a ∈ x.lineage, epoch t.kv a.1 = a.2))
    ∧ (Clear persistSpec s op i o → o.desc.group = false → statefulPrivate k = false → i.commitOk = true →
      ∃ t, exec (.keyPersist op i) s = .next t
        ∧ Ran s t op { cmd := .keyPersist, sp := persistSpec, slot := 12500
                       opdata := leBytes 2 (((lookup n s.kv.blobs).map (·.granules)).getD (blobGranules k)) }
        ∧ lookup n t.kv.blobs = some { slot := blobOf { k with persist := true }, granules := blobGranules k, sound := true })
    ∧ (Clear persistSpec s op i o → statefulPrivate k = false → i.commitOk = false →
      ∃ t, exec (.keyPersist op i) s = .next t ∧ t.kv.blobs = s.kv.blobs
        ∧ Ran s t op { cmd := .keyPersist, sp := persistSpec, slot := 12500, fail := some .journalFailed })
    ∧ (Clear destroySpec s op i o → o.desc.group = false → n < 15360 →
      ∃ t, exec (.keyDestroy op i) s = .next t ∧ Ran s t op { cmd := .keyDestroy, sp := destroySpec, slot := 1250 }
        ∧ epoch t.kv n = min 0xFFFFFFFF (epoch s.kv n + 1) ∧ lookup n t.kv.blobs = none
        ∧ (slot? t.kv n = none ∨ ∃ x, slot? t.kv n = some x ∧ (x.state = .wiping ∨ x.state = .retired) ∧ x.priv = [] ∧ x.pub = []))

/-- On-chip buffers: made with the banks leased for them and live from the release; loaded with host data at the release; freed at once. -/
def Obligations.BuffersAreMadeLoadedAndFreed : Prop :=
  ∀ (s : State) (op : Nat) (i : OpInput) (o : Op),
    (∀ h, Clear bufCreateSpec s op i o → ordinaryNumber s.kv = some h →
      ∃ t, exec (.bufCreate op i) s = .next t
        ∧ Ran s t op { cmd := .bufCreate, sp := bufCreateSpec, slot := 1250, opdata := leBytes 2 h, effects := [.bufLive h] }
        ∧ lookup h t.bufs = some { owner := o.inst, size := o.desc.inLen, banks := o.banks, live := false }
        ∧ (∀ j, j ≠ h → lookup j t.bufs = lookup j s.bufs) ∧ slot? t.kv h = some (blankSlot .buffer o.inst)
        ∧ (∀ b, b ∉ o.banks → t.mem.leases[b]? = s.mem.leases[b]?))
    ∧ (Clear bufLoadSpec s op i o →
      ∃ t, exec (.bufLoad op i) s = .next t ∧ Only s t o s.hf
        ∧ Ran s t op { cmd := .bufLoad, sp := bufLoadSpec, slot := slotBufLoad (classOf o.desc), out := inBytes s o i })
    ∧ (∀ b, Clear bufFreeSpec s op i o → lookup (bufHandle o.desc.inRef) s.bufs = some b →
      ∃ t, exec (.bufFree op i) s = .next t ∧ Ran s t op { cmd := .bufFree, sp := bufFreeSpec, slot := 1250 }
        ∧ lookup (bufHandle o.desc.inRef) t.bufs = some { b with live := false }
        ∧ (∀ j, j ≠ bufHandle o.desc.inRef → lookup j t.bufs = lookup j s.bufs))

/-- An operation of classes 0x01 to 0x08 that fails a check at stage 5 is not dispatched: it completes with the first failing check in
R39's order, without a verdict, and no epoch, no stateful key and no memory changes but the range of a BUF_LOAD.

DISPATCH does what the row of the operation's own opcode does, and a row does nothing to an operation of another opcode. -/
def Obligations.ChecksComeBeforeDispatch : Prop :=
  (
    ∀ (s : State) (op : Nat) (i : OpInput) (o : Op) (r : Ring) (st : Status), ∀ row ∈ engineRows,
      op? s op = some o → Alone s o r → o.desc.opcode = row.2.opcode → atStage5 s o = true →
      (o.preFail ≠ [] ∨ row.2.ready s o = true) → firstPre (stage5Fails row.2 s o i) = some st →
      ∃ t, exec (row.1 op i) s = .next t ∧ Completed t o r st .none []
        ∧ t.kv.epochs = s.kv.epochs ∧ t.stf = s.stf ∧ t.hostMem = s.hostMem
          ∧ (o.desc.opcode ≠ 0x0712 → t.bufMem = s.bufMem)
          ∧ (∀ a, (a < bufKey (bufHandle o.desc.outRef) (bufOffset o.desc.outRef)
                ∨ bufKey (bufHandle o.desc.outRef) (bufOffset o.desc.outRef + o.desc.outCap) ≤ a) →
              memRead t.bufMem a = memRead s.bufMem a))
  ∧ (
    ∀ (s : State) (op : Nat) (i : OpInput) (o : Op), op? s op = some o → ∀ row ∈ engineRows,
      (o.desc.opcode = row.2.opcode → exec (.dispatch op i) s = exec (row.1 op i) s)
      ∧ (o.desc.opcode = row.2.opcode → Clear row.2 s op i o → ∃ t, exec (.dispatch op i) s = .next t ∧ (op? t op).map (·.stage) = some .running)
      ∧ (o.desc.opcode ≠ row.2.opcode → exec (row.1 op i) s = .next s))

/-- Every operation of classes 0x01 to 0x08 that meets no check is dispatched by its command: it runs, at this beat, with its slot and with
references to the keys it uses, and it is still the same operation of the same ring. -/
def Obligations.EngineOperationsRun : Prop :=
  ∀ (s : State) (op : Nat) (i : OpInput) (o : Op), ∀ row ∈ engineRows, Clear row.2 s op i o →
    ∃ t x, exec (row.1 op i) s = .next t ∧ op? t op = some x ∧ x.stage = .running ∧ x.dispatch = s.beat ∧ x.since = s.beat
      ∧ (x.desc, x.ring, x.inst, x.gen, x.sqIndex) = (o.desc, o.ring, o.inst, o.gen, o.sqIndex)
      ∧ (∀ j y, j ≠ op → op? t j = some y → ∃ z, op? s j = some z ∧ y.stage = z.stage ∧ y.desc = z.desc)

/-! #### Management: instances, rings and modes (13_rings, 14_instances, 20_modes_resets) -/

/-- INST_CREATE binds the lowest free number with the record's shares and INST_SET_SHARE changes them; what R306 and R307 exclude is refused
with its reason and changes nothing.

INST_RESET takes the next generation, leaves the instance no operation that was not dispatched and none that is not cancelled, no key
slot and no entry of a ring that was not admitted, and reports what it dropped; while a completion still carries the generation it would take
it waits, and RESET_DEFERRAL_END does the same with DEFERRED.

INST_REMOVE leaves the instance REMOVING, with a new generation, no key slot and no operation that is not cancelled; once its operations
have gone and its completions are written, REMOVE_DRAIN_END frees its rings and its number. -/
def Obligations.InstancesComeAndGo : Prop :=
  (
    ∀ (s : State) (op : Nat) (i : OpInput) (o : Op) (r : Ring),
      let b := inBytes s o i
      (Managed instCreateSpec s op i o r →
        let pasid := bits (field b 0 4) 19 0
        (∀ n, instCreateReasons s pasid (field b 4 2) (field b 6 2) (field b 8 2) = [] → freeInst s = some n → o.inst ≠ n →
          ∃ t, exec (.instCreate op i) s = .next t ∧ Closed t o r .ok (leBytes 2 n)
            (setInst n { state := .bound, pasid := pasid, share := field b 4 2, reserve := field b 6 2, limit := field b 8 2
                         gen := if (instOf s n).everBound then (instOf s n).gen else 1, discards := (instOf s n).discards, everBound := true } s))
        ∧ (∀ k ks, instCreateReasons s pasid (field b 4 2) (field b 6 2) (field b 8 2) = k :: ks →
          ∃ t, exec (.instCreate op i) s = .next t ∧ Closed t o r .instanceState (instReason k) s))
      ∧ (Managed instSetShareSpec s op i o r →
        let n := bits (field b 0 2) 9 0
        (instSetShareReasons s n (field b 2 2) (field b 4 2) (field b 6 2) = [] →
          ∃ t, exec (.instSetShare op i) s = .next t ∧ Closed t o r .ok []
            (updInst n (fun x => { x with share := field b 2 2, reserve := field b 4 2, limit := field b 6 2 }) s))
        ∧ (∀ k ks, instSetShareReasons s n (field b 2 2) (field b 4 2) (field b 6 2) = k :: ks →
          ∃ t, exec (.instSetShare op i) s = .next t ∧ Closed t o r .instanceState (instReason k) s)))
  ∧ (
    (∀ (s : State) (op : Nat) (i : OpInput) (o : Op) (r : Ring), Managed instResetSpec s op i o r → o.inst = 0 → r.inst = 0 →
      let n := bits (field (inBytes s o i) 0 4) 9 0
      let g := ((instOf s n).gen + 1) % 256
      instTargetReasons s n = [] →
      (hasCarrier s n g = false →
        ∃ t, exec (.instReset op i) s = .next t
          ∧ Completed t o r .ok .none (leBytes 4 g ++ leBytes 4 (resetCounts n s).1 ++ leBytes 4 (resetCounts n s).2)
          ∧ (instOf t n).gen = g
          ∧ (∀ x ∈ t.ops, x.inst = n → dispatched x = true ∧ x.cancel = true)
          ∧ (∀ e ∈ t.kv.slots, e.2.owner ≠ n) ∧ (∀ e ∈ t.fx.streams, e.2.owner ≠ n)
          ∧ (∀ e ∈ t.qm.rings, e.2.inst = n → e.2.cache = [] ∧ e.2.fetchPos = e.2.sqHead ∧ e.2.groups = [] ∧ e.2.batches = []))
      ∧ (hasCarrier s n g = true →
        ∃ t, exec (.instReset op i) s = .next t ∧ Waiting t o (.deferral n) (updInst n (fun x => { x with state := .resetting }) (pauseFetch n s))))
    ∧ (∀ (s : State) (op : Nat) (i : OpInput) (o : Op) (r : Ring) (k : Nat) (ks : List Nat), Managed instResetSpec s op i o r →
      instTargetReasons s (bits (field (inBytes s o i) 0 4) 9 0) = k :: ks →
      ∃ t, exec (.instReset op i) s = .next t ∧ Closed t o r .instanceState (instReason k) s)
    ∧ (∀ (s : State) (n : Nat) (o : Op) (r : Ring), s.im.waits = [(o.id, .deferral n)] → op? s o.id = some o → Alone s o r → o.inst = 0 →
      n ≠ 0 → r.inst = 0 → (s.ops.map (·.id)).Nodup → hasCarrier s n (((instOf s n).gen + 1) % 256) = false →
      let g := ((instOf s n).gen + 1) % 256
      ∃ t, exec (.resetDeferralEnd n) s = .next t ∧ (instOf t n).gen = g ∧ (instOf t n).state = .bound ∧ t.im.waits = []
        ∧ Completed t o r .deferred .none (leBytes 4 g ++ leBytes 4 (resetCounts n s).1 ++ leBytes 4 (resetCounts n s).2)))
  ∧ (
    (∀ (s : State) (op : Nat) (i : OpInput) (o : Op) (r : Ring), Managed instRemoveSpec s op i o r → o.inst = 0 → r.inst = 0 →
      let n := bits (field (inBytes s o i) 0 4) 9 0
      (instTargetReasons s n = [] →
        ∃ t, exec (.instRemove op i) s = .next t ∧ lookup op t.im.waits = some (.removal n)
          ∧ (instOf t n).state = .removing ∧ (instOf t n).gen = ((instOf s n).gen + 1) % 256
          ∧ (∀ x ∈ t.ops, x.inst = n → dispatched x = true ∧ x.cancel = true) ∧ (∀ e ∈ t.kv.slots, e.2.owner ≠ n))
      ∧ (∀ k ks, instTargetReasons s n = k :: ks → ∃ t, exec (.instRemove op i) s = .next t ∧ Closed t o r .instanceState (instReason k) s))
    ∧ (∀ (s : State) (n : Nat) (o : Op) (r : Ring), s.im.waits = [(o.id, .removal n)] → op? s o.id = some o → Alone s o r → o.inst = 0 →
      n ≠ 0 → r.inst = 0 → (∀ x ∈ s.ops, x.inst ≠ n) → (∀ e ∈ ringsOf s n, e.2.outq = []) →
      ∃ t, exec (.removeDrainEnd n) s = .next t ∧ Completed t o r .ok .none (leBytes 2 (ringsOf s n).length)
        ∧ (instOf t n).state = .free ∧ (∀ e ∈ t.qm.rings, e.2.inst ≠ n) ∧ t.im.waits = [] ∧ t.kv = s.kv))

/-- MODE_SET to the mode in force does nothing; a transition that needs no drain is made at once; one from SERVICE or QUIESCE to DORMANT or
MAINTENANCE starts the drain and waits; what R466 excludes is refused with its reason and status and changes nothing.

The drain ends in its target once the operations it waits for have gone, and MODE_SET completes; at the limit dispatch stops and every
dispatched operation is cancelled; DORMANT turns off what links had powered. -/
def Obligations.ModesAreSet : Prop :=
  (
    ∀ (s : State) (op : Nat) (i : OpInput) (o : Op) (r : Ring),
      ∀ row ∈ [((Instr.modeSetService op i), 1), (.modeSetQuiesce op i, 2), (.modeSetDormant op i, 3), (.modeSetMaintenance op i, 5)],
      Managed (modeSetRow row.2) s op i o r →
      let w := field (inlineRecord s o) 0 4
      let m := modeOf (bits w 2 0)
      (m = s.glb.mode → ∃ t, exec row.1 s = .next t ∧ Closed t o r .ok (modeOpdata m 0) s)
      ∧ (∀ k st, m ≠ s.glb.mode → modeRefusal s m = some (k, st) → ∃ t, exec row.1 s = .next t ∧ Closed t o r st (instReason k) s)
      ∧ (m ≠ s.glb.mode → modeRefusal s m = none →
        (((s.glb.mode = .service ∨ s.glb.mode = .quiesce) ∧ (m = .dormant ∨ m = .maintenance)) → bits w 31 16 ≠ 0 →
          ∃ t, exec row.1 s = .next t ∧ Waiting t o (.modeSet m.code) (startDrain m (bits w 31 16) s)
            ∧ t.glb.draining = true ∧ t.glb.target = m ∧ t.glb.mode = .quiesce
            ∧ t.glb.drainAt = if bits w 31 16 = 0xFFFF then none else some (s.beat + beatsMs (bits w 31 16)))
        ∧ (¬((s.glb.mode = .service ∨ s.glb.mode = .quiesce) ∧ (m = .dormant ∨ m = .maintenance)) →
          ∃ t, exec row.1 s = .next t ∧ Completed t o r .ok .none (modeOpdata m 0) ∧ t.glb.mode = m ∧ t.glb.draining = false)))
  ∧ (
    (∀ (s : State) (o : Op) (r : Ring) (m : Nat), s.glb.draining = true → (∀ x ∈ s.ops, opClass x.desc = 0x0F) →
        s.im.waits = [(o.id, .modeSet m)] → op? s o.id = some o → Alone s o r →
      ∃ t, exec .drainEnd s = .next t ∧ t.glb.mode = s.glb.target ∧ t.glb.draining = false ∧ t.im.waits = []
        ∧ Completed t o r .ok .none (modeOpdata s.glb.target s.glb.drainCancelled))
    ∧ (∀ (s : State) (d : Nat), s.glb.draining = true → s.glb.drainAt = some d → d ≤ s.beat → (s.ops.map (·.id)).Nodup →
      ∃ t, exec .drainLimit s = .next t ∧ t.glb.drainPast = true ∧ t.glb.drainAt = none ∧ t.glb.drainCancelled = (runningOps s).length
        ∧ ∀ x ∈ t.ops, dispatched x = true → opClass x.desc ≠ 0x0F → x.cancel = true)
    ∧ (∀ s : State, s.glb.mode = .dormant →
      exec .dormantUnitPowerDown s = .next { s with grp := { s.grp with dormantUse := none } }))

/-! #### Faults, recovery and injections (15_memory, 16_faults_power) -/

/-- A listed message is recorded and acted on by its severity: a FATAL one halts the device, a DEVICE one sends it to SAFE, a CONTAINED one
eclipses its unit, whose operation is no longer running; a first NOTE or CORRECTED one opens the window with its record; a message of no listed
source or kind is a DEVICE fault of the collector's own.

The window of 8 beats closes with the record of the highest severity, of equal ones that of the lowest source, as FIRST; FAULT_N's minimum
time ends. -/
def Obligations.FaultsAreCollected : Prop :=
  (
    ∀ (s : State) (wire : Nat),
      let m := decodeFault wire
      let listed := m.severity ≤ 4 ∧ kindListed m.source m.kind = true ∧ (∀ q, lookup m.source s.sup.fc.sequences = some q → m.sequence = (q + 1) % 2048)
      (listed → m.severity = 4 → ∃ t, exec (.faultMessage wire) s = .next t ∧ t.glb.halted = true)
      ∧ (listed → m.severity = 3 → s.glb.mode ≠ .boot → (allRecs s.sup.fc).any (recMatches m.source m.kind) = false →
        ∃ t, exec (.faultMessage wire) s = .next t ∧ t.glb.mode = .safe)
      ∧ (∀ u, listed → m.severity = 2 → sourceUnit m.source = some u →
        ∃ t, exec (.faultMessage wire) s = .next t ∧ u ∈ t.ecl.units ∧ ∀ x ∈ t.ops, x.stage = .running → u ∉ x.units)
      ∧ (listed → m.severity ≤ 1 → s.sup.fc.first = none → s.sup.fc.window = none → (allRecs s.sup.fc).any (recMatches m.source m.kind) = false →
        (∀ i < 8, (s.sup.sensors[i]?).map (·.eclipsed) = some false) → (m.source = 0x110 → m.kind ≠ 1) → handingOver s = none →
        ∃ t, exec (.faultMessage wire) s = .next t
          ∧ t.sup.fc.window = some (s.beat, [{ recOf s m m.severity false with cleared := !lasting m.source m.kind }])
          ∧ t.sup.fc.log = (if lasting m.source m.kind then s.sup.fc.log
              else s.sup.fc.log.map (fun r => if r.source = m.source then { r with cleared := true } else r)))
      ∧ (listed → m.severity = 1 → m.source = 0x110 → m.kind = 1 →
        ∃ t, exec (.faultMessage wire) s = .next t ∧ t.mem.corrections = min 0xFFFF (s.mem.corrections + 1))
      ∧ ((5 ≤ m.severity ∨ kindListed m.source m.kind = false) → s.glb.mode ≠ .boot → (allRecs s.sup.fc).any (recMatches 0x17F 2) = false →
        ∃ t, exec (.faultMessage wire) s = .next t ∧ t.glb.mode = .safe))
  ∧ (
    (∀ (s : State) (w : Nat) (r : FaultRec) (rs : List FaultRec), s.sup.fc.window = some (w, r :: rs) → w + 8 ≤ s.beat →
      ∃ t f, exec .firstWindowClose s = .next t ∧ t.sup.fc.window = none ∧ t.sup.fc.first = some f ∧ f ∈ r :: rs
        ∧ ∀ x ∈ r :: rs, x.severity ≤ f.severity ∧ (x.severity = f.severity → f.source ≤ x.source))
    ∧ (∀ s : State, s.sup.fc.faultNHold ≤ s.beat →
      exec .faultnHoldEnd s = .next { s with sup := { s.sup with fc := { s.sup.fc with faultNHold := 0 } } }))

/-- FAULT_ACK marks the records it names, or removes them, and clears the recovery counts and the stop of its source; it changes nothing
else and reports how many records it named.

ENGINE_REINIT restores every eclipsed unit it covers whose self-test passes and leaves the others eclipsed; it reports both counts, and
ENGINE_FAULT where a unit failed.  A failure that repeats an earlier one escalates, and is taken here in SAFE, where it changes no mode.

After the quiet period a source's units are restored and the recovery is recorded; a failed self-test leaves its unit eclipsed; the ninth
recovery in an hour is not made; SAFE is left to SERVICE, or to MAINTENANCE in a state that permits no work, once no DEVICE condition is
present. -/
def Obligations.FaultsAreRecovered : Prop :=
  (
    ∀ (s : State) (op : Nat) (i : OpInput) (o : Op) (r : Ring), Managed faultAckSpec s op i o r →
      let w := field (inBytes s o i) 0 4
      let mine := fun x : Nat => bit w 10 || x == bits w 9 0
      let c := s.sup.fc
      let kept := if bit w 11 then mapRecs (fun x => if mine x.source then { x with acked := true } else x) c
        else { c with first := c.first.filter (!mine ·.source), window := c.window.map (fun v => (v.1, v.2.filter (!mine ·.source)))
                      log := c.log.filter (!mine ·.source) }
      ∃ t, exec (.faultAck op i) s = .next t
        ∧ Closed t o r .ok (leBytes 2 ((allRecs c).filter (mine ·.source)).length)
            { s with sup := { s.sup with fc := { kept with recoveries := kept.recoveries.filter (!mine ·.1)
                                                           stoppedNow := kept.stoppedNow.filter (!mine ·) } } })
  ∧ (
    ∀ (s : State) (op : Nat) (i : OpInput) (o : Op) (r : Ring), Managed reinitSpec s op i o r →
      let w := field (inlineRecord s o) 0 4
      let ts := coveredTargets s (bits w 7 0) (bits w 19 8) (bit w 20)
      let good := ts.filter (fun e => !i.fails.contains e.1)
      let bad := ts.filter (fun e => i.fails.contains e.1)
      let srcs := bad.map (fun e => targetSource s e.2)
      (s.glb.mode = .safe ∨ (srcs.Nodup ∧ ∀ x ∈ allRecs s.sup.fc, x.source ∉ srcs ∨ x.acked = true)) →
      ∃ t, exec (.engineReinit op i) s = .next t
        ∧ Completed t o r (if bad = [] then .ok else .engineFault) .none (leBytes 2 good.length ++ leBytes 2 bad.length)
        ∧ (∀ e ∈ good, targetEclipsed t e.2 = false) ∧ (∀ e ∈ bad, targetEclipsed t e.2 = true))
  ∧ (
    ∀ (s : State) (src : Nat), s.glb.halted = false → quiet s src = true →
      ((recentRecoveries s src).length < 8 → sourceTargets s src ≠ [] → sourceSafe s src = false → sourcePort s src = none →
        ∃ t, exec (.autoRecovery src true) s = .next t ∧ (∀ x ∈ sourceTargets s src, targetEclipsed t x = false)
          ∧ lookup src t.sup.fc.recoveries = some (recentRecoveries s src ++ [s.beat]) ∧ t.sup.fc.recovered = min 0xFFFF (s.sup.fc.recovered + 1))
      ∧ (∀ u, (recentRecoveries s src).length < 8 → sourceTargets s src = [.engine u] →
        ∃ t, exec (.autoRecovery src false) s = .next t ∧ u ∈ t.ecl.units)
      ∧ (∀ pass, 8 ≤ (recentRecoveries s src).length → (sourceTargets s src ≠ [] ∨ sourceSafe s src = true) → src ∉ s.sup.fc.stoppedNow →
        ∃ t, exec (.autoRecovery src pass) s = .next t ∧ t.sup.fc.stopped = some src ∧ src ∈ t.sup.fc.stoppedNow ∧ t.ecl = s.ecl
          ∧ t.glb = s.glb)
      ∧ ((recentRecoveries s src).length < 8 → sourceSafe s src = true → deviceLive s = false →
        ∃ t, exec (.autoRecovery src true) s = .next t ∧ t.glb.mode = afterSafe s ∧ t.sup.fc.safeByFault = false))

/-- FAULT_INJECT arms one injection at a checker in place of any there, or disarms it; the scrubber counts what it corrects, spends the
injection it meets, reports what it cannot correct, and ends a pass. -/
def Obligations.InjectionsMeetReads : Prop :=
  (∀ (s : State) (op : Nat) (i : OpInput) (o : Op) (r : Ring),
    let b := inlineRecord s o
    let rest := s.mem.injections.filter (·.checker != bits (field b 0 2) 8 0)
    (Managed injectArmSpec s op i o r →
      ∃ t, exec (.faultInjectArm op i) s = .next t
        ∧ Closed t o r .ok []
            { s with mem := { s.mem with injections := rest ++
                [{ checker := bits (field b 0 2) 8 0, mask := field b 2 2, onRead := field b 4 1 == 2, count := field b 5 1
                   weak := bit (field b 6 1) 0, anyWord := bit (field b 6 1) 1, word := field b 8 4 }] } })
    ∧ (Managed injectDisarmSpec s op i o r →
      ∃ t, exec (.faultInjectDisarm op i) s = .next t ∧ Closed t o r .ok [] { s with mem := { s.mem with injections := rest } }))
  ∧ (∀ (s : State) (addr : Nat), injectionAt s addr = none →
    (exec (.scrubRead addr 0 none none true) s
      = .next (strand needs { s with mem := { s.mem with passes := (s.mem.passes + 1) % 65536, behind := false } }))
    ∧ (∃ t, exec (.scrubRead addr 1 none none false) s = .next t ∧ t.mem.corrections = min 0xFFFF (s.mem.corrections + 1))
    ∧ (checkerOf addr ≠ 280 → ∃ t, exec (.scrubRead addr 2 none none false) s = .next t ∧ t.mem.lastUe = addr)
    ∧ (exec (.scrubRead addr 3 none none false) s = .next (strand needs s)))
  ∧ (∀ (s : State) (addr : Nat) (j : Injection), s.mem.injections = [j] → injectionAt s addr = some j → j.weak = false →
    (∀ d, maskSeen (isMram (checkerOf addr)) j.mask .clean d = .corrected) →
    ∃ t, exec (.scrubRead addr 0 none none false) s = .next t ∧ t.mem.corrections = min 0xFFFF (s.mem.corrections + 1)
      ∧ t.mem.injections = if j.count ≤ 1 then [] else [{ j with count := j.count - 1 }])
  ∧ (∀ s : State, s.mem.behind = false → ∃ t, exec .scrubBehind s = .next t ∧ t.mem.behind = true)

/-! #### Power, temperature and clocks (16_faults_power, 04_release_timing) -/

/-- A supply below its warning threshold is marked, and for VDD_CORE and VDD_SRAM the budget takes its floor; once both have recovered the
floor is lifted 1 ms later; a crossing of 0.65 V is kept for the release. -/
def Obligations.SuppliesAreWatched : Prop :=
  ∀ (s : State), s.sup.supplies.length = 6 →
    (∀ n mv, n < 6 → mv < warningMv s n → supplyWarns s n = false →
      ∃ t, exec (.vddWarn n mv) s = .next t ∧ supplyWarns t n = true ∧ (n ≤ 1 → t.sup.brownout = true ∧ t.sup.liftAt = none))
    ∧ (∀ n mv, n < 6 → recoveryMv n ≤ mv → supplyWarns s n = true →
      ∃ t, exec (.vddRestored n mv) s = .next t ∧ supplyWarns t n = false
        ∧ (n ≤ 1 → s.sup.brownout = true → supplyWarns s (1 - n) = false → t.sup.liftAt = some (s.beat + beatsMs 1)))
    ∧ (∀ b, s.sup.liftAt = some b → b ≤ s.beat →
      exec .brownoutLift s = .next { s with sup := { s.sup with brownout := false, liftAt := none } })
    ∧ (∀ mv, ∃ t, exec (.vddRange mv) s = .next t ∧ supplyBelow t 0 = decide (mv < 650)
        ∧ (t.sup.supplies[0]?).map (·.mv) = some mv)
    ∧ (s.sup.brownout = true → effectiveBudget s ≤ 80)

/-- The hottest sensor at the throttle threshold starts the thermal limit at the effective budget; it steps each millisecond; it is removed at
the power limit; THERM asserts its pin and clears at 105 °C; 115 °C halts the device and takes the link down.

The reference clock's loss and return are noted and neither moves the count of beats; without WY_REFCLK every port that is not eclipsed
is down. -/
def Obligations.TemperatureAndClocksAreWatched : Prop :=
  (
    ∀ (s : State) (n : Nat) (x : Int),
      let u := { s with sup := { s.sup with sensors := modAt s.sup.sensors n (fun y => { y with temp := x }) } }
      (throttleAt s ≤ hottest u → s.sup.thermal = none →
        ∃ t, exec (.throttle n x) s = .next t ∧ t.sup.thermal = some (effectiveBudget s) ∧ t.sup.thermalAt = s.beat + beatsMs 1)
      ∧ (∀ l, s.sup.thermal = some l → s.sup.thermalAt ≤ s.beat →
        exec (.thermalLimitStep n x) s
          = .next { u with sup := { u.sup with
              thermal := some (if throttleAt s ≤ hottest u then max 80 (l - 16)
                else if hottest u < throttleAt s - 8 then min (powerLimit s) (l + 16) else l)
              thermalAt := s.beat + beatsMs 1 } })
      ∧ (∀ l, s.sup.thermal = some l → powerLimit s ≤ l → hottest s < throttleAt s - 8 →
        ∃ t, exec .throttleOff s = .next t ∧ t.sup.thermal = none
          ∧ (s.sup.thermN = false →
            ∀ k < 8, (s.sup.sensors[k]?).map (·.eclipsed) = some false → dieShort s k = false → (0x148 + k) ∉ t.sup.fc.live))
      ∧ (thermAt s ≤ hottest u → s.sup.thermN = false →
        ∃ t, exec (.therm n x) s = .next t ∧ t.sup.thermN = true)
      ∧ (s.sup.thermN = true → hottest u ≤ 420 →
        ∃ t, exec (.thermClear n x) s = .next t ∧ t.sup.thermN = false
          ∧ (s.sup.thermal = none →
            ∀ k < 8, (s.sup.sensors[k]?).map (·.eclipsed) = some false → dieShort s k = false → (0x148 + k) ∉ t.sup.fc.live))
      ∧ (460 ≤ hottest u → s.sup.shutdown = false →
        ∃ t, exec (.thermalShutdown n x) s = .next t ∧ t.sup.shutdown = true ∧ t.glb.halted = true ∧ t.outbox.getLast? = some (.link false)))
  ∧ (
    (∀ s : State, s.sup.refclk = true → ∃ t, exec .refclkLost s = .next t ∧ t.sup.refclk = false ∧ t.beat = s.beat)
    ∧ (∀ s : State, s.sup.refclk = false → ∃ t, exec .refclkRestored s = .next t ∧ t.sup.refclk = true ∧ t.beat = s.beat)
    ∧ (∀ s : State, s.ports.length = 4 →
      ∃ t, exec (.wyRefclkLost false) s = .next t ∧ t.sup.wyRefclk = false
        ∧ ∀ p ∈ t.ports, p.state = .down ∨ p.state = .eclipsed)
    ∧ (∀ s : State, exec (.wyRefclkLost true) s = .next { s with sup := { s.sup with wyRefclk := true } }))

/-! #### Life cycle, debug and tamper (17_lifecycle) -/

/-- LC_TRANSITION refuses with the first reason that applies, counts an authentication failure and burns nothing; otherwise the pattern of the
target is burnt over what was there, the kill fields and the owner's hash with it, and a reset is due in 1 ms; a transition whose pattern is
already there burns nothing. -/
def Obligations.LifeCycleMoves : Prop :=
  ∀ (s : State) (op : Nat) (i : OpInput) (o : Op) (r : Ring), Managed lcTransitionSpec s op i o r → i.cut = none →
    let k := decodeToken (inBytes s o i)
    let otp := s.cus.otp
    ∃ t, exec (.lcTransition op i) s = .next t ∧
      match transitionReasons s o.desc.inLen k i.vddOtp with
      | (n, st) :: _ =>
        Completed t o r st .none (instReason n) ∧ t.cus.otp = otp ∧ t.cus.resetDue = s.cus.resetDue
          ∧ t.cus.authFails = if st = .authFailed then min 8 (s.cus.authFails + 1) else s.cus.authFails
      | [] =>
        if alreadyThere s k then Completed t o r .ok .none [BitVec.ofNat 8 k.target] ∧ t.cus.otp = otp
        else if drawsSeed k = true ∧ rngOk s.kv = false then Completed t o r .rngFail .none [] ∧ t.cus.otp = otp
        else
          Completed t o r .ok .none [BitVec.ofNat 8 k.target] ∧ t.cus.otp.pattern = otp.pattern ||| lcPattern k.target
            ∧ t.cus.otp.ownerKill = (if k.target = 5 ∨ k.target = 6 then killWord else otp.ownerKill)
            ∧ t.cus.otp.identityKill = (if k.target = 6 then killWord else otp.identityKill)
            ∧ (k.target = 3 → otp.ownerKeyHash = none → otp.bad = [] → t.cus.otp.ownerKeyHash = some k.data)
            ∧ t.cus.otp.uid = otp.uid ∧ t.cus.marker = none
            ∧ t.cus.resetDue = some (s.beat + beatsMs 1) ∧ ((k.target = 5 ∨ k.target = 6) → t.kv.blobs = [] ∧ t.bufs = [])

/-- ZEROISE leaves no live slot, no buffer, no persisted blob and no stateful key, burns nothing, and reports how many slots it wiped.

A filtered tamper input that asserts while it is enabled is latched and counted and acts by its ACTION: record only, wipe, or wipe and
SAFE; one that is not enabled only shows; the host clears what is latched. -/
def Obligations.KeysAreWiped : Prop :=
  (
    ∀ (s : State) (op : Nat) (i : OpInput) (o : Op) (r : Ring), Managed zeroiseSpec s op i o r →
      (i.cut ≠ some .early →
        ∃ t, exec (.zeroise op i) s = .next t ∧ Completed t o r .ok .none (leBytes 2 (slotsHeld s))
          ∧ (∀ e ∈ t.kv.slots, e.2.state = .retired ∨ e.2.state = .buffer) ∧ t.kv.blobs = [] ∧ t.bufs = [] ∧ t.stf.keys = []
          ∧ t.stf.half0 = [] ∧ t.stf.half1 = [] ∧ burnt t.cus.otp = burnt s.cus.otp)
      ∧ (i.cut = some .early → ∃ t, exec (.zeroise op i) s = .next t ∧ lookup op t.im.waits = some .interrupted ∧ t.cus.marker ≠ none))
  ∧ (
    ∀ (s : State) (n : Nat), n < 4 →
      (bit s.cus.tamperLive n = false → tamperOn s n = false →
        exec (.tamperAsserted n true) s = .next { s with cus := { s.cus with tamperLive := s.cus.tamperLive ||| 2 ^ n } })
      ∧ (exec (.tamperAsserted n false) s
          = .next { s with cus := { s.cus with tamperLive := s.cus.tamperLive - (s.cus.tamperLive &&& 2 ^ n) } })
      ∧ (bit s.cus.tamperLive n = false → tamperOn s n = true →
        ∃ t, exec (.tamperAsserted n true) s = .next t ∧ t.cus.tamperLatched = s.cus.tamperLatched ||| 2 ^ n
          ∧ t.cus.tamperCount = min 0xFF (s.cus.tamperCount + 1)
          ∧ (setting s 0x0C0140 (4 * n + 3) (4 * n + 2) = 0 → t.kv = s.kv ∧ t.bufs = s.bufs)
          ∧ (setting s 0x0C0140 (4 * n + 3) (4 * n + 2) ≠ 0 → t.bufs = [] ∧ t.cus.session = none)
          ∧ (2 ≤ setting s 0x0C0140 (4 * n + 3) (4 * n + 2) → s.glb.mode ≠ .boot → (allRecs s.sup.fc).any (recMatches 0x163 1) = false → t.glb.mode = .safe))
      ∧ (∀ mask, bar0Ok s 0x0C0144 = true →
        exec (.tamperLatchedClear mask) s
          = .next { s with cus := { s.cus with tamperLatched := s.cus.tamperLatched - (s.cus.tamperLatched &&& mask % 16) } }))

/-- A locked-out DEBUG_AUTH fails with reason 9.  Otherwise a challenge is outstanding for 10 s and is the output with the device's identifier;
a session opens for the time and scopes of a token that meets every check, and the challenge a token presents is used up; a session closes. -/
def Obligations.DebugSessionsOpenAndClose : Prop :=
  ∀ (s : State) (op : Nat) (i : OpInput) (o : Op) (r : Ring),
    let k := decodeToken ((inBytes s o i).drop 4)
    let ch := (freeBytes 32 s).1
    let used := s.cus.challenge.map (·.1) = some k.data
    (∀ row ∈ [(Instr.debugChallenge op i, 1), (.debugOpen op i, 2), (.debugClose op i, 3)], Managed (debugSpec row.2) s op i o r →
      debugMode s o i = row.2 → lockedOut s = true →
      ∃ t, exec row.1 s = .next t ∧ Completed t o r .authFailed .none (instReason 9) ∧ t.cus.session = s.cus.session)
    ∧ (Managed (debugSpec 1) s op i o r → debugMode s o i = 1 → lockedOut s = false → rngOk s.kv = true →
      ∃ t c, exec (.debugChallenge op i) s = .next t ∧ t.cus.challenge = some (ch, s.beat + beatsS 10)
        ∧ (ring? t o.ring).map (·.outq) = some (r.outq ++ [c]) ∧ c.status = .ok ∧ c.outLen = 32 + s.cus.otp.uid.length
        ∧ c.writes = outPiecesOf o (ch ++ s.cus.otp.uid))
    ∧ (Managed (debugSpec 2) s op i o r → debugMode s o i = 2 → lockedOut s = false →
      ∃ t, exec (.debugOpen op i) s = .next t ∧ t.cus.challenge = (if used then none else s.cus.challenge) ∧
        match debugReasons s k with
        | [] => Completed t o r .ok .none [] ∧ t.cus.session = some (k.scope, s.beat + beatsMs k.validMs)
        | (n, st) :: _ => Completed t o r st .none (instReason n) ∧ t.cus.session = s.cus.session
            ∧ t.cus.authFails = if st = .authFailed then min 8 (s.cus.authFails + 1) else s.cus.authFails)
    ∧ (Managed (debugSpec 3) s op i o r → debugMode s o i = 3 → lockedOut s = false →
      ∃ t, exec (.debugClose op i) s = .next t ∧ Completed t o r .ok .none [] ∧ t.cus.session = none)
    ∧ (∀ c b, s.cus.challenge = some (c, b) → b ≤ s.beat →
      exec .challengeExpiry s = .next { s with cus := { s.cus with challenge := none } })
    ∧ (∀ c b, s.cus.session = some (c, b) → b ≤ s.beat → ∃ t, exec .debugSessionExpiry s = .next t ∧ t.cus.session = none)

/-! #### Update and boot (18_boot_update) -/

/-- UPDATE_STAGE refuses while another is in progress, while a set is pending, and where the record cannot be committed; a set that meets every
check is staged in the other bank, and one that does not is refused with its first reason and leaves the bank empty.

UPDATE_ACTIVATE, hitless and by reset: the first reason of R420 refuses it; by reset the staged set is pending and a reset is due in 1 ms;
otherwise the standby core takes over and the staged set runs, or, where it does not in time, the hand-over waits; after 200 µs it is given up. -/
def Obligations.UpdatesAreStagedAndActivated : Prop :=
  (
    ∀ (s : State) (op : Nat) (i : OpInput) (o : Op) (r : Ring), Managed updateStageSpec s op i o r → i.cut = none →
      (∀ w ∈ s.im.waits, ∀ m, w.2 ≠ .modeSet m) →
      let a := record_ s
      let b := 1 - a.confirmedBank
      let found := checkSet s (bankSize s) a.minSvn a.ownerSetSeen (inBytes s o i)
      ∃ t, exec (.updateStage op i) s = .next t ∧
        if updateBusy s then Closed t o r .updateState (instReason 1) s
        else if a.isPending then Closed t o r .updateState (instReason 2) s
        else if !i.commitOk then Completed t o r .journalFailed .none (instReason 0x0C) ∧ t.cus.up = s.cus.up
        else if !i.flashOk then Completed t o r .updateState .none (instReason 0x0D) ∧ bankSet t b = none
        else match found.1 with
          | [] => Completed t o r .ok .none [] ∧ bankSet t b = some found.2 ∧ (record_ t).stageState = 3 ∧ (record_ t).stageBank = b
              ∧ (record_ t).stagedId = found.2.setId
          | k :: _ => Completed t o r .manifestInvalid .none (instReason k) ∧ bankSet t b = none ∧ (record_ t).stageState = 2)
  ∧ (
    (∀ (s : State) (op : Nat) (i : OpInput) (o : Op) (r : Ring), (∀ w ∈ s.im.waits, ∀ m, w.2 ≠ .modeSet m) →
      ∀ row ∈ [(Instr.updateActivate op i, activateHitless), (.updateActivateReset op i, activateReset)], Managed row.2 s op i o r →
      let a := record_ s
      let reset := byReset s o
      ∃ t, exec row.1 s = .next t ∧
        match activateReasons s reset with
        | (k, st) :: _ => Closed t o r st (instReason k) s
        | [] =>
          if !reset && !i.flashOk then Completed t o r .manifestInvalid .none (instReason 9) ∧ t.cus.up = s.cus.up
          else if !i.commitOk then Completed t o r .journalFailed .none (instReason 0x0C) ∧ t.cus.up = s.cus.up
          else (record_ t).isPending = true ∧ (record_ t).pendingBank = a.stageBank ∧ (record_ t).attempts = 0 ∧
            if reset then Completed t o r .ok .none [] ∧ t.cus.resetDue = some (s.beat + beatsMs 1)
            else if i.handover then
              Completed t o r .ok .none [] ∧ t.glb.activeCore = 1 - s.glb.activeCore ∧ t.cus.up.running = bankSet s a.stageBank
                ∧ t.cus.up.runningBank = a.stageBank
            else lookup op t.im.waits = some (.handover (s.beat + beatsUs 200)) ∧ t.glb.mode = .quiesce)
    ∧ (∀ (s : State) (o : Op) (r : Ring) (d : Nat), s.im.waits = [(o.id, .handover d)] → d ≤ s.beat → op? s o.id = some o → Alone s o r →
      s.glb.mode = .quiesce →
      ∃ t, exec .handoverTimeout s = .next t ∧ Completed t o r .updateState .none (instReason 5) ∧ t.glb.mode = .service
        ∧ (record_ t).isPending = false ∧ (record_ t).stageState = 3 ∧ t.im.waits = []))

/-- BOOT with every test passed runs the confirmed bank's set and ends in SERVICE, or in MAINTENANCE where the life-cycle state permits no
work; with no bank left to try it stops in recovery hold; a flash that does not answer asks for a reset; firmware that does not start does
too. -/
def Obligations.BootEndsInAMode : Prop :=
  (∀ (s : State) (b : BootInput), s.glb.mode = .boot → s.cus.up.step = 0 → s.cus.resetDue = none → s.glb.recoveryHold = false →
    s.glb.halted = false → s.cus.marker = none → s.sup.fc.liveDevice = [] → b.checkers = [] → b.otpMargin = [] → b.otpBad = [] →
    healthy b.src0 = true → healthy b.src1 = true →
    let a := record_ s
    (∀ x, b.sfdpOk = true → rangeIn 23 28 b.flashLog2 = true → b.recordFail = false → 2 ∉ measured x b.parts → b.readFail = none → b.kat = [] →
      b.fwStart = true → a.attempts < 3 → a.isPending = false → bankSet (bootFlash b s) a.confirmedBank = some x →
      capsuleKeyOk { s with cus := { s.cus with lc := decodeLc { s.cus.otp with marginBad := [] } false } } a.ownerSetSeen x.ownerSigned (!x.ownerSigned)
        = true → a.minSvn ≤ x.svn →
      ∃ t, exec (.boot b) s = .next t ∧ t.glb.mode = (if workAllowed (decodeLc { s.cus.otp with marginBad := [] } false) then .service else .maintenance)
        ∧ t.cus.lc = decodeLc { s.cus.otp with marginBad := [] } false ∧ t.cus.up.running = some x ∧ t.cus.up.result = 1 ∧ t.cus.up.step = 13
        ∧ (record_ t).attempts = 0 ∧ t.cus.resetDue = none)
    ∧ (b.sfdpOk = true → rangeIn 23 28 b.flashLog2 = true → 3 ≤ a.attempts → a.isPending = false → a.stageState ≠ 3 →
      ∃ t, exec (.boot b) s = .next t ∧ t.glb.mode = .boot ∧ t.glb.recoveryHold = true ∧ t.cus.up.result = 2)
    ∧ (b.sfdpOk = false →
      ∃ t, exec (.boot b) s = .next t ∧ t.glb.mode = .boot ∧ t.cus.resetDue = some (s.beat + beatsMs 1) ∧ t.cus.up.failCode = 8))
  ∧ (∀ s : State, s.glb.mode = .boot → s.cus.up.step = 11 → s.cus.resetDue = none →
    ∃ t, exec .fwStartTimeout s = .next t ∧ t.cus.resetDue = some (s.beat + beatsMs 1) ∧ t.cus.up.failCode = 7)

/-! #### Resets (20_modes_resets) -/

/-- What each reset leaves: cold resets restart the beat and forget the LOCK bits; warm resets keep both and count; the resets that custody, the
key of GLB_SYS_RESET and PERST# ask for are warm resets of their cause; all of them leave no operation, no ring and no slot that is not
retired, and host memory as it was but for the direct outputs of what ran.

An FLR leaves no operation, no ring, no stream and no buffer, every instance but 0 free, and the device in SERVICE or MAINTENANCE unless it
was in BOOT or SAFE; D3hot stops the backlog timers and D0 lets them run on; an ATS invalidation is answered. -/
def Obligations.ResetsClearTheBlock : Prop :=
  (
    let cleared := fun (s t : State) (cause : Nat) => t.glb.mode = .boot ∧ t.glb.cause = cause ∧ t.ops = [] ∧ t.qm.rings = [] ∧ t.bufs = [] ∧ t.bufMem = []
      ∧ (∀ e ∈ t.kv.slots, e.2.state = .retired) ∧ t.hostMem = (spoilRunning s).hostMem
      ∧ ((∀ x ∈ s.ops, x.stage = .running → directLen s x = 0) → t.hostMem = s.hostMem) ∧ burnt t.cus.otp = burnt s.cus.otp ∧ t.cus.session = none
    let warm := fun (s t : State) (cause : Nat) => cleared s t cause ∧ t.beat = s.beat ∧ t.regs = defaultRegs s.regs
      ∧ t.glb.warmCount = min 0xFF (s.glb.warmCount + 1) ∧ t.sup.fc.blackBox ≠ []
    let cold := fun (s t : State) (cause : Nat) => cleared s t cause ∧ t.beat = 0 ∧ t.regs = defaultRegs [] ∧ t.glb.warmCount = 0
    ∀ s : State,
      (∃ t, exec .coldReset s = .next t ∧ cold s t 0 ∧ t.sup.fc.blackBox = s.sup.fc.blackBox)
      ∧ (∀ n mv, n < 6 → mv < resetMv n → ∃ t, exec (.supplyResetTrip n mv) s = .next t ∧ cold s t 1
          ∧ (t.sup.fc.blackBox.head?).bind (·.first)
            = some (recOf s { source := 0x140 + n, kind := 3, severity := 4, sequence := nextSeq (0x140 + n) s, address := mv } 4 false))
      ∧ (∀ c, c = 2 ∨ c = 3 → ∃ t, exec (.warmReset c) s = .next t ∧ warm s t c ∧ t.glb.perst = (c == 2))
      ∧ (∀ b, s.cus.resetDue = some b → b ≤ s.beat → ∃ t, exec .custodyReset s = .next t ∧ warm s t 5)
      ∧ (bar0Ok s 0x000018 = true → ∃ t, exec (.glbSysReset 0xA5A5) s = .next t ∧ warm s t 4)
      ∧ (∀ w, w ≠ 0xA5A5 → exec (.glbSysReset w) s = .next s))
  ∧ (
    (∀ s : State, s.glb.perst = false →
      ∃ t, exec .flr s = .next t ∧ t.ops = [] ∧ t.qm.rings = [] ∧ t.fx.streams = [] ∧ t.bufs = [] ∧ t.hp.d3hot = false
        ∧ (∀ e ∈ t.im.insts, e.1 ≠ 0 → e.2.state = .free)
        ∧ t.glb.flrCount = min 0xFFFF (s.glb.flrCount + 1) ∧ t.glb.warmCount = s.glb.warmCount ∧ t.beat = s.beat
        ∧ t.glb.mode = (if s.glb.mode = .boot ∨ s.glb.mode = .safe then s.glb.mode else afterSafe s)
        ∧ ((∀ x ∈ s.ops, x.stage = .running → directLen s x = 0) → t.hostMem = s.hostMem))
    ∧ (∀ (s : State) (pme : Bool), s.hp.d3hot = false →
      ∃ t, exec (.d3hotEntry pme) s = .next t ∧ t.hp.d3hot = true ∧ t.hp.pmeEn = pme ∧ memoryOk t = false
        ∧ ∀ n r, ring? t n = some r → r.backlogAt = none ∧ r.backlogLeft = ((ring? s n).bind (·.backlogAt)).map (· - s.beat))
    ∧ (∀ (s : State) (bm : Bool), (∀ n r, ring? s n = some r → r.backlogAt = none) →
      ∃ t, exec (.d0Return bm) s = .next t ∧ t.hp.d3hot = false ∧ t.hp.busMaster = bm
        ∧ ∀ n r, ring? t n = some r → r.backlogAt = ((ring? s n).bind (·.backlogLeft)).map (· + s.beat))
    ∧ (∀ (s : State) (p : Nat),
      exec (.atsInvalidation p) s = .next { s with hp := { s.hp with ats := s.hp.ats.filter (· != p) }, outbox := s.outbox ++ [.atsDone p] }))

/-! #### Registers (00_scope, 21_register_index) -/

/-- A LOCK bit is set by a 1 and a locked register ignores writes of its fields; SETTING_WRITE writes a governed register under its mask and
reports it; selectors, the beat latch, the events and FAULT_N's state take what is written; a write outside the device's BARs is a fault. -/
def Obligations.RegistersAreWritten : Prop :=
  (∀ (s : State) (op : Nat) (i : OpInput) (o : Op) (r : Ring), Managed settingWriteSpec s op i o r →
    let x := settingRecord s o
    ∃ t g, exec (.settingWrite op i) s = .next t ∧ regAt x.1 = some g
      ∧ Closed t o r .ok (leBytes 4 (regWord t g.off).toNat) (writeGoverned g x.2.1 x.2.2 s))
  ∧ ∀ s : State,
    (∀ off g, regAt off = some g → g.lock = some off → bar0Ok s off = true →
      ∃ t, exec (.lockSet off) s = .next t ∧ bit (regWord t off).toNat 31 = true
        ∧ (∀ a, a ≠ off → regWord t a = regWord s a) ∧ ∀ k < 31, bit (regWord t off).toNat k = bit (regWord s off).toNat k)
    ∧ (∀ off g w, regAt off = some g → locked s g = true → bit w 31 = false → off ≠ 0x0B0620 →
      exec (.registerWrite 0 off 4 w) s = .next s)
    ∧ (∀ w, bar0Ok s 0x090010 = true → ∃ t, exec (.slotSelect w) s = .next t ∧ regWord t 0x090010 = BitVec.ofNat 32 (w % 2 ^ 14))
    ∧ (∀ w, bar0Ok s 0x0B0900 = true → ∃ t, exec (.calSelect w) s = .next t ∧ regWord t 0x0B0900 = BitVec.ofNat 32 (w % 256))
    ∧ (s.hp.d3hot = false → s.glb.perst = false →
      exec .beatLoRead s = .next { s with glb := { s.glb with beatHi := s.beat / 2 ^ 32 } })
    ∧ (∀ k e, lookup k s.im.events = some e → bar0Ok s (0x0B4000 + 4 * k) = true →
      ∃ t, exec (.eventPendingClear k) s = .next t ∧ lookup k t.im.events = some { e with pending := false, count := 0 })
    ∧ (bar0Ok s 0x0B0620 = true →
      exec .faultnStateClear s = .next { s with sup := { s.sup with fc := { s.sup.fc with faultNState := false } } })
    ∧ (∀ bar off w v, inBar bar off = false → exec (.registerWrite bar off w v) s = .fault .noSuchAddress)

/-! #### Links (19_wyrum_groups) -/

/-- A port trains to the lanes that work, or tries again in 1 s where they are fewer than its minimum; a failed lane narrows it or takes it down;
too many codewords beyond correction in a second retrain it; a port without load for 125,000 beats is idle.

A frame that is malformed is dropped and counted; a tag that fails and a repeated SEQ are counted and nothing is taken; a good frame's SEQ is
kept and the peer counts as heard. -/
def Obligations.PortsTrainAndTakeFrames : Prop :=
  (
    ∀ (s : State) (n : Nat) (p : Port), s.ports[n]? = some p →
      (∀ w, (p.state = .training ∨ (p.state = .down ∧ p.retryAt = none)) → portEnabled s n = true → s.sup.wyRefclk = true → s.glb.perst = false →
        s.glb.mode ≠ .boot →
        ∃ t, exec (.portTraining n w) s = .next t ∧ (t.ports[n]?).map (·.failed) = some (15 - bits w 3 0)
          ∧ (t.ports[n]?).map (·.state) = some (if laneCount (lanesFor (15 - bits w 3 0) false) < minLanes s n then .down else .up)
          ∧ (laneCount (lanesFor (15 - bits w 3 0) false) < minLanes s n → (t.ports[n]?).map (·.retryAt) = some (some (s.beat + beatsS 1))))
      ∧ (∀ l, l < 4 → p.trained = true → bit p.failed l = false →
        ∃ t, exec (.laneFail n l) s = .next t ∧ (t.ports[n]?).map (·.failed) = some (p.failed + 2 ^ l)
          ∧ (t.ports[n]?).map (·.state) = some (if laneCount (lanesFor (p.failed + 2 ^ l) false) < minLanes s n then .down else p.state))
      ∧ (∀ b, p.state = .down → p.retryAt = some b → b ≤ s.beat → portEnabled s n = true → s.sup.wyRefclk = true →
        exec (.trainingRetry n) s = .next (updPort n (fun x => { x with state := .training, retryAt := none }) s))
      ∧ (∀ c u, p.trained = true →
        ∃ t, exec (.fecThreshold n c u) s = .next t ∧ (t.ports[n]?).map (fun x => (x.fecCorrected, x.fecUncorr)) = some (min 0xFFFF c, min 0xFFFF (p.fecUncorr + u))
          ∧ (t.ports[n]?).map (·.state) = some (if max 1 (setting s 0x0D0800 27 20) < u then .training else p.state))
      ∧ (p.active = true → p.lastLoad + 125000 ≤ s.beat → exec (.portIdle n) s = .next (updPort n (fun x => { x with active := false }) s)))
  ∧ (
    ∀ (s : State) (n : Nat) (p : Port) (f : FrameIn), s.ports[n]? = some p → p.trained = true →
      (frameBad f = true → ∃ t, exec (.frameReceive n f) s = .next t ∧ (t.ports[n]?).map (·.dropped) = some (min 0xFF (p.dropped + 1))
        ∧ (t.ports[n]?).map (·.rxSeq) = some p.rxSeq)
      ∧ (frameBad f = false → f.prot = true → (p.keys = none ∨ f.tagOk = false) →
        ∃ t, exec (.frameReceive n f) s = .next t ∧ (t.ports[n]?).map (·.auth) = some (min 0xFF (p.auth + 1)))
      ∧ (∀ q, frameBad f = false → (f.prot = true → p.keys ≠ none ∧ f.tagOk = true ∧ f.old = false) → p.rxSeq = some q → f.seq ≤ q →
        ∃ t, exec (.frameReceive n f) s = .next t ∧ (t.ports[n]?).map (·.replay) = some (min 0xFF (p.replay + 1))
          ∧ (t.ports[n]?).map (·.rxSeq) = some (some q))
      ∧ (frameBad f = false → f.prot = true → p.keys ≠ none → f.tagOk = true → f.old = false → (∀ q, p.rxSeq = some q → q < f.seq) →
        ∃ t, exec (.frameReceive n f) s = .next t ∧ (t.ports[n]?).map (fun x => (x.rxSeq, x.lastHeard)) = some (some f.seq, s.beat))
      ∧ (frameBad f = false → f.prot = false → helloFrame p f = true → (∀ q, p.rxSeq = some q → q < f.seq) →
        ∃ t, exec (.frameReceive n f) s = .next t ∧ (t.ports[n]?).map (fun x => (x.rxSeq, x.lastHeard)) = some (some f.seq, s.beat)))

/-- A session that has sent nothing for 125,000 beats sends a heartbeat, and one with buffers to report a report, each a frame without payload
that carries the next SEQ; a channel without credit is reported, and after eight times as long, or a peer not heard, the port retrains and its
session is gone.

A hop handshake: HELLO_A is kept and answered with HELLO_B; HELLO_B opens a secure session with a member the charter names, a restricted one
where the peer's charter is newer, and is refused otherwise; sessions are renewed, and a refused or restricted one tries again later. -/
def Obligations.SessionsOpenAndStayAlive : Prop :=
  (
    ∀ (s : State) (n : Nat) (p : Port), s.ports[n]? = some p → p.keys ≠ none →
      (p.lastSent + 125000 ≤ s.beat →
        exec (.heartbeat n) s = .next { updPort n (sentFrame s.beat 0 0) s with outbox := s.outbox ++ [.frame n (frameOf p 0 [])] })
      ∧ (p.unreported ≠ none →
        exec (.creditReport n) s = .next { updPort n (sentFrame s.beat 0 0) s with outbox := s.outbox ++ [.frame n (frameOf p 0 [])] })
      ∧ (∀ v, starvedFor p v (starveBeats s) s.beat = true → (p.channels[v]?).map (·.raised) = some false →
        ∃ t, exec (.creditStarved n v) s = .next t ∧ (t.ports[n]?).map (·.starved) = some (min 0xFF (p.starved + 1))
          ∧ ((t.ports[n]?).bind (·.channels[v]?)).map (·.raised) = some true)
      ∧ (∀ v, starvedFor p v (8 * starveBeats s) s.beat = true →
        ∃ t, exec (.starveSessionEnd n v) s = .next t ∧ (t.ports[n]?).map (fun x => (x.state, x.keys)) = some (.training, none))
      ∧ (p.lastHeard + beatsMs (clip 1 1000 (setting s 0x0D0800 9 0)) ≤ s.beat →
        ∃ t, exec (.peerTimeout n) s = .next t ∧ (t.ports[n]?).map (fun x => (x.state, x.keys)) = some (.training, none)))
  ∧ (
    ∀ (s : State) (n : Nat) (p : Port), s.ports[n]? = some p →
      (∀ h m, p.state = .up → p.keys = none → p.helloMine = some m → inDeviceGroup s = true → h.length = 4260 → field h 0 1 = 1 →
        helloUid h ≠ fit 16 s.cus.otp.uid →
        ∃ t f, exec (.helloA n h) s = .next t ∧ (t.ports[n]?).map (fun x => (x.helloMine, x.helloPeer, x.ctMine))
            = some (some m, some h, some (freeBytes 1568 s).1) ∧ t.outbox = s.outbox ++ [.frame n f])
      ∧ (∀ b m h c, p.trained = true → p.helloMine = some m → p.helloPeer = some h → p.ctMine = some c → b.length = 6199 → field b 0 1 = 2 →
        ∃ t, exec (.helloB n b) s = .next t ∧
          match judge s m h c (slice b 4 1568) (slice b 1572 4627) with
          | .accepted e => (t.ports[n]?).map (fun x => (x.state, x.peer, x.keys))
              = some (.secure, e, some (sessionKeys "KLQ wyrum session" m h c (slice b 4 1568)))
          | .restricted => (t.ports[n]?).map (fun x => (x.state, x.peer)) = some (.restricted, 0x3FF)
          | .refused => (t.ports[n]?).map (fun x => (x.state, x.keys, x.retryAt)) = some (.up, none, some (s.beat + beatsS (max 1 p.backoff))))
      ∧ (p.state = .restricted → p.keysAt + beatsS 1 ≤ s.beat →
        ∃ t, exec (.restrictedTimeout n) s = .next t
          ∧ (t.ports[n]?).map (fun x => (x.state, x.keys, x.retryAt)) = some (.up, none, some (s.beat + beatsS (max 1 p.backoff))))
      ∧ (∀ b, p.state = .up → p.keys = none → p.retryAt = some b → b ≤ s.beat → inDeviceGroup s = true →
        ∃ t f, exec (.peerRetry n) s = .next t ∧ (t.ports[n]?).map (fun x => (x.helloMine.isSome, x.helloPeer, x.retryAt)) = some (true, none, none)
          ∧ t.outbox = s.outbox ++ [.frame n f])
      ∧ (p.state = .secure → p.rekeying = false → p.keysAt + 7500000000 * max 1 (setting s 0x0D0804 7 0) ≤ s.beat →
        ∃ t, exec (.rekey n) s = .next t ∧ (t.ports[n]?).map (fun x => (x.state, x.rekeying, x.helloMine.isSome)) = some (.secure, true, true)))

/-- A neighbour's ROUTE makes what it lists one hop further, and withdraws what it does not list; routes are sent each second; a member without
a route for 3 s is lost.

A charter comes in fragments: those that agree are kept until all have come, one that does not is dropped with the assembly and counted; a
complete one is committed where the owner signed it and it follows the charter in force; an assembly is given up after 1 s. -/
def Obligations.RoutesAndChartersAreLearned : Prop :=
  (
    (∀ (s : State) (n m h : Nat) (p : Port), s.ports[n]? = some p → p.state = .secure →
      (m < 1024 → h < 62 → some m ≠ selfMember s → m ≠ p.peer →
        (s.grp.charter.map (fun c => c.entries.any (·.number == m))).getD false = true →
        ∃ t x, exec (.route n [(m, h)]) s = .next t ∧ member? t m = some x ∧ (n, h + 1, s.beat) ∈ x.routes)
      ∧ (∃ t, exec (.route n []) s = .next t ∧ ∀ k x, k ≠ p.peer → member? t k = some x → ∀ r ∈ x.routes, r.1 ≠ n))
    ∧ (∀ s : State, s.grp.lastRoute + beatsS 1 ≤ s.beat → securePorts s ≠ [] →
      ∃ t, exec .routeSend s = .next t ∧ t.grp.lastRoute = s.beat)
    ∧ (∀ (s : State) (m b : Nat) (x : Member), member? s m = some x → x.routeless = some b → x.lost = false → x.routes = [] → b + beatsS 3 ≤ s.beat →
      ∃ t, exec (.memberLost m) s = .next t ∧ (member? t m).map (·.lost) = some true))
  ∧ (
    ∀ (s : State) (n : Nat) (p : Port) (f : CharterFrag), s.ports[n]? = some p → p.state = .secure ∨ p.state = .restricted →
      (p.assembly = none → 2 ≤ f.count → f.count ≤ 9 → f.frag < f.count →
        exec (.charter n f) s = .next (updPort n (fun x =>
          { x with assembly := some { seq := f.seq, count := f.count, total := f.total, started := s.beat, parts := [(f.frag, f.data.take 8000)] } }) s))
      ∧ (f.count = 0 ∨ 9 < f.count ∨ f.count ≤ f.frag →
        ∃ t, exec (.charter n f) s = .next t ∧ (t.ports[n]?).map (fun x => (x.assembly, x.dropped)) = some (none, min 0xFF (p.dropped + 1))
          ∧ t.grp = s.grp)
      ∧ (p.assembly = none → f.count = 1 → f.frag = 0 →
        let b := f.data.take 8000
        ∃ t, exec (.charter n f) s = .next t ∧ t.grp.charter
          = if b.length = f.total ∧ f.total = charterLen b ∧ s.grp.charter.map (·.raw) ≠ some b ∧ charterOk false s b = true then some (parseCharter b)
            else s.grp.charter)
      ∧ (∀ a, p.assembly = some a → a.started + beatsS 1 ≤ s.beat →
        ∃ t, exec (.charterAssemblyTimeout n) s = .next t
          ∧ (t.ports[n]?).map (fun x => (x.assembly, x.dropped)) = some (none, min 0xFF (p.dropped + 1))))

/-! #### The device group (19_wyrum_groups, 12_key_vault R269, R270) -/

/-- Routed handshakes: R_HELLO_A is kept and answered; R_HELLO_B opens the session with the member it comes from where the charter names it, and
the session opens with an attestation.

ATTEST_REQ is answered on the session it came by; a good ATTEST_RESP attests its member and any other excludes it; members are asked each
interval, and one that does not answer within 1 s is excluded. -/
def Obligations.MembersAreMetAndAttested : Prop :=
  (
    ∀ (s : State) (v : Via) (x : Member), member? s v.src = some x →
      (∀ h y, h.length = 4260 → field h 0 1 = 1 → admitMessage s.beat x = some y →
        ∃ t, exec (.rHelloA v h) s = .next t ∧ (member? t v.src).map (fun m => (m.helloPeer, m.ctMine.isSome)) = some (some h, true))
      ∧ (∀ b m h c, x.helloMine = some m → x.helloPeer = some h → x.ctMine = some c → b.length = 6199 → field b 0 1 = 2 →
        ∃ t, exec (.rHelloB v b) s = .next t
          ∧ (member? t v.src).map (fun y => (y.keys, y.asked.isSome, y.helloMine))
            = some (if judge s m h c (slice b 4 1568) (slice b 1572 4627) = .accepted v.src then
                  (some (sessionKeys "KLQ wyrum routed" m h c (slice b 4 1568)), true, none)
                else (x.keys, x.asked.isSome, none))))
  ∧ (
    (∀ (s : State) (v : Via) (x : Member) (nonce : Bytes) (n : Nat), Heard s v true x → nextHop s v.src = some n →
      ∃ t, exec (.attestReq v nonce) s = .next t ∧ (member? t v.src).map (·.txSeq) = some (x.txSeq + 1))
    ∧ (∀ (s : State) (v : Via) (x : Member) (a : AttestMsg) (nonce : Bytes) (b : Nat), Heard s v false x → x.asked = some (nonce, b) →
      ∃ t, exec (.attestResp v a) s = .next t
        ∧ (member? t v.src).map (fun m => (m.attested, m.excluded, m.keys.isSome, m.asked))
          = some (if attestGood s x nonce a then (true, false, true, none) else (false, true, false, none)))
    ∧ (∀ (s : State) (m : Nat) (x : Member), member? s m = some x → x.nextAttest ≤ s.beat → x.keys ≠ none →
      ∃ t, exec (.attestInterval m) s = .next t
        ∧ (member? t m).map (fun y => (y.asked, y.nextAttest)) = some (some ((freeBytes 32 s).1, s.beat), s.beat + attestHours s))
    ∧ (∀ (s : State) (m b : Nat) (x : Member) (nonce : Bytes), member? s m = some x → x.asked = some (nonce, b) → b + beatsS 1 ≤ s.beat →
      ∃ t, exec (.attestTimeout m) s = .next t ∧ (member? t m).map (fun y => (y.excluded, y.keys.isSome, y.asked)) = some (true, false, none)))

/-- A higher role epoch of the charter's primary or standby is learned and makes its sender the primary, and a primary that hears it is a
satellite; ROLE is sent to the standby; a standby that has not heard the primary for the charter's time takes over, alone.

CHARTER_LOAD takes a charter that R449 lets in; JOIN completes at once on the primary and waits on a member; LEAVE erases the group's keys;
the standby takes the primary's role; a lease is ended; what is not permitted changes nothing; a JOIN not done in its time says so. -/
def Obligations.TheGroupIsControlled : Prop :=
  (
    (∀ (s : State) (v : Via) (x : Member) (e : Nat) (c : Charter), Heard s v true x → s.grp.charter = some c →
      ∃ t, exec (.role v e) s = .next t ∧ t.beat = s.beat ∧
        (if s.grp.epoch < e ∧ (v.src = c.primary ∨ some v.src = c.standby) then
          t.grp.epoch = e ∧ t.grp.primary = v.src ∧ t.stf.role = (if s.stf.role = 2 then 1 else s.stf.role)
        else t.grp.epoch = s.grp.epoch ∧ t.grp.primary = s.grp.primary ∧ t.stf = s.stf))
    ∧ (∀ (s : State) (c : Charter) (b : Nat), s.grp.charter = some c → s.grp.standby = some b → isPrimary s = true →
      s.grp.lastRole + beatsMs c.takeoverMs / 8 ≤ s.beat →
      ∃ t, exec .roleSend s = .next t ∧ t.grp.lastRole = s.beat)
    ∧ (∀ (s : State) (m : Nat), takeoverDue s = true → selfMember s = some m →
      ∃ t, exec .takeover s = .next t ∧ t.stf.role = 2 ∧ t.stf.sole = true ∧ t.stf.epoch = s.grp.epoch + 1 ∧ t.grp.epoch = s.grp.epoch + 1
        ∧ t.grp.primary = m ∧ t.grp.standby = none))
  ∧ (
    (∀ (s : State) (op : Nat) (i : OpInput) (o : Op) (r : Ring), (∀ w ∈ s.im.waits, ∀ d, w.2 ≠ .joining d) →
      let b := inBytes s o i
      let rec_ := inlineRecord s o
      let n := field rec_ 2 2
      let number := field rec_ 4 4
      (Managed charterLoadSpec s op i o r →
        ∃ t, exec (.charterLoad op i) s = .next t ∧
          if s.grp.charter.map (·.raw) = some b then Closed t o r .ok [] s
          else if !charterOk true s b then Closed t o r .charterInvalid [] s
          else if !i.commitOk then Closed t o r .journalFailed [] s
          else Completed t o r .ok .none [] ∧ t.grp.charter = some (parseCharter b))
      ∧ (Managed (groupRow 1) s op i o r →
        ∃ t, exec (.groupJoin op i) s = .next t ∧
          if s.grp.joined then Completed t o r .ok .none []
          else if isPrimary s then Completed t o r .ok .none [] ∧ t.grp.joined = true
          else lookup op t.im.waits = some (.joining (s.beat + beatsS 10)) ∧ t.grp.joining = true)
      ∧ (Managed (groupRow 2) s op i o r →
        ∃ t, exec (.groupLeave op i) s = .next t ∧
          if isPrimary s ∨ isStandby s then Closed t o r .notPermitted [] s
          else Completed t o r .ok .none [] ∧ t.grp.charter = none ∧ t.grp.joined = false ∧ t.stf.role = 0
            ∧ ∀ e ∈ t.kv.slots, 15360 ≤ e.1 → e.2.state = .retired ∨ e.2.state = .buffer)
      ∧ (Managed (groupRow 3) s op i o r → ∀ m, selfMember s = some m →
        ∃ t, exec (.takePrimary op i) s = .next t ∧
          if isStandby s then Completed t o r .ok .none [] ∧ t.stf.role = 2 ∧ t.stf.sole = true ∧ t.grp.primary = m
          else Closed t o r .notPermitted [] s)
      ∧ (Managed (groupRow 4) s op i o r →
        (∀ k l, stf? s n = some k → k.leases = [l] → l.number = number →
          ∃ t, exec (.endLease op i) s = .next t ∧ Completed t o r .ok .none []
            ∧ (isPrimary s = false → (stf? t n).map (·.leases) = some []))
        ∧ (((stf? s n).map (fun k => k.leases.any (·.number == number))).getD false = false →
          ∃ t, exec (.endLease op i) s = .next t ∧ Closed t o r .keyEmpty [] s)))
    ∧ (∀ (s : State) (o : Op) (r : Ring) (d : Nat), s.im.waits = [(o.id, .joining d)] → d ≤ s.beat → op? s o.id = some o → Alone s o r →
      ∃ t, exec .joinTimeout s = .next t ∧ Completed t o r .primaryUnreachable .none [] ∧ t.im.waits = []))

/-- Group numbers are reserved by the primary for 1 s and staged by the member they were asked for; a replica comes in fragments and is LIVE,
persisted and instance 0's when all have come; commits are confirmed, and a revocation is applied. -/
def Obligations.GroupKeysAreReplicated : Prop :=
  (∀ (s : State) (v : Via) (x : Member), Heard s v true x →
    let u := heardState s v x
    (∀ ref n, isPrimary u = true → freeGroupNumber u = some n →
      ∃ t, exec (.numberReq v ref) s = .next t ∧ lookup n t.grp.numbers = some { sat := v.src, due := s.beat + beatsS 1 })
    ∧ (∀ n c, v.src = s.grp.primary → 15360 ≤ n → n ≤ 16383 → slot? s.kv n = none → s.grp.creating = [c] → c.number = none →
      ∃ t, exec (.numberAssign v c.op n) s = .next t ∧ slot? t.kv n = some { c.key with owner := 0, persist := true, state := .staged })
    ∧ (∀ f, 2 ≤ f.count → f.frag < f.count → s.grp.incoming = [] →
      ∃ t, exec (.keyReplicate v f) s = .next t ∧ t.kv = s.kv ∧ t.grp.incoming
        = [{ slot := f.slot, from_ := v.src, count := f.count, total := f.total, started := s.beat
             template := if f.frag = 0 then f.template else [], lineage := if f.frag = 0 then f.lineage else []
             parts := [(f.frag, f.data.take 8000)] }])
    ∧ (∀ f, f.count = 1 → f.frag = 0 → s.grp.incoming = [] → 15360 ≤ f.slot → f.slot ≤ 16383 → slot? s.kv f.slot = none →
      (f.data.take 8000).length = f.total →
      replicaRoom u { slot := f.slot, from_ := v.src, count := 1, total := f.total, started := s.beat, template := f.template, lineage := f.lineage
                      parts := [(0, f.data.take 8000)] } (f.data.take 8000) = true →
      ∃ t, exec (.keyReplicate v f) s = .next t ∧ (slot? t.kv f.slot).map (fun k => (k.state, k.persist, k.owner)) = some (.live, true, 0))
    ∧ (∀ n c o, s.grp.creating = [c] → s.grp.revoking = [] → c.number = some n → (keepers u).all (c.acks ++ [v.src]).contains = true →
      s.beat < c.due → op? s c.op = some o →
      ∃ t, exec (.keyCommitAck v n) s = .next t ∧ t.grp.creating = [] ∧ (op? t c.op).map (·.waiting) = some false)
    ∧ (∀ n d, 15360 ≤ n → n ≤ 16383 → (slot? s.kv n).map (·.state) = some .live →
      ∃ t, exec (.keyRevoke v n d) s = .next t ∧ ∀ k, slot? t.kv n = some k → k.state ≠ .live))
  ∧ (∀ (s : State) (n : Nat) (h : NumberHeld), lookup n s.grp.numbers = some h → h.due ≤ s.beat →
    ∃ t, exec (.numberUnconfirmed n) s = .next t ∧ lookup n t.grp.numbers = none ∧ t.kv = s.kv)
  ∧ (∀ (s : State) (n : Nat),
    exec (.keyReplicateTimeout n) s
      = .next { s with grp := { s.grp with incoming := s.grp.incoming.filter (fun x => !(x.slot == n && x.started + beatsS 1 ≤ s.beat)) } })
  ∧ (∀ (s : State) (n : Nat) (c : Creating) (o : Op), s.grp.creating = [c] → s.grp.revoking = [] → c.number = some n → c.due ≤ s.beat →
    op? s c.op = some o →
    ∃ t, exec (.replicationTimeout c.op) s = .next t ∧ t.grp.creating = [] ∧ slot? t.kv n = none
      ∧ (op? t c.op).map (fun x => (x.waiting, x.parked.status)) = some (false, .replicationFailed))

/-- Lease messages below the highest role epoch are dropped; the primary grants within the range and refuses where it is not primary; a
satellite holds what it is granted; grants are acknowledged, mirrored, confirmed, and given back. -/
def Obligations.LeasesAreKept : Prop :=
  ∀ (s : State) (v : Via) (m : LeaseMsg) (x : Member), Heard s v true x →
    let u := heardState s v x
    let w := learnEpoch v.src m.epoch u
    (m.epoch < s.grp.epoch →
      ∀ c ∈ [Instr.leaseRequest v m, .leaseGrant v m, .mirror v m, .mirrorAck v m], exec c s = .next (dropCount v.port 1 u))
    ∧ (s.grp.epoch ≤ m.epoch →
      (∀ k, isPrimary w = true → leaseKey w m = some k → k.grants.find? (fun g => g.sat == v.src && g.reqNo == m.reqNo && !g.acked) = none →
        liveGrants w k v.src < 2 → k.granted < k.rangeEnd → journalRoom w 1 = true →
        ∃ t, exec (.leaseRequest v m) s = .next t
          ∧ (stf? t m.slot).map (fun y => (y.granted, y.nextLease)) = some (min (k.granted + leaseSize w) k.rangeEnd, k.nextLease + 1))
      ∧ (isPrimary w = false → ∃ t, exec (.leaseRequest v m) s = .next t ∧ t.stf = w.stf)
      ∧ (∀ c k, w.grp.charter = some c → leaseKey w m = some k → (v.src = c.primary ∨ some v.src = c.standby) →
        k.leases.any (·.number == m.leaseNo) = false → k.leases.length < 2 → journalRoom w 1 = true →
        let l : LeaseHeld := { start := m.start, stop := m.stop, number := m.leaseNo, deadline := some (s.beat + m.deadline) }
        ∃ t y, exec (.leaseGrant v m) s = .next t ∧ stf? t m.slot = some y
          ∧ ((∀ h ∈ k.leases.head?, h.start < m.start) → y.leases = k.leases ++ [l])
          ∧ (∀ h, k.leases = [h] → m.start ≤ h.start → y.next = m.start
            ∧ y.leases = [l, { h with start := max h.start (max k.next (max k.reservedEnd (k.reserving.getD 0))) }]))
      ∧ (∀ k, isStandby w = true → (∀ e, w.grp.deafTo = some e → e < m.epoch) → v.src = w.grp.primary → leaseKey w m = some k →
        journalRoom w 1 = true →
        ∃ t, exec (.mirror v m) s = .next t
          ∧ (stf? t m.slot).map (fun y => (y.granted, y.nextLease)) = some (max k.granted m.stop, max k.nextLease m.leaseNo))
      ∧ (∀ k, isPrimary w = true → some v.src = w.grp.standby → w.stf.sole = true → leaseKey w m = some k →
        ∃ t, exec (.mirrorAck v m) s = .next t
          ∧ if m.stop = k.granted then m.slot ∈ t.grp.mirrored else t.grp.mirrored = w.grp.mirrored ∧ t.stf.sole = true)
      ∧ (∀ k g, isPrimary w = true → some v.src = w.grp.standby → w.stf.sole = false → leaseKey w m = some k →
        k.grants.find? (fun g => g.number == m.leaseNo && mirroring w g) = some g →
        ∃ t y, exec (.mirrorAck v m) s = .next t ∧ stf? t m.slot = some y ∧ ∀ h ∈ y.grants, h.number = m.leaseNo → h.mirrorAt = none))
    ∧ (∀ k, leaseKey u m = some k →
      (isPrimary u = true →
        exec (.leaseAck v m) s = .next (updGrant m.slot v.src m.leaseNo (fun g => some { g with acked := true }) u)
        ∧ exec (.leaseReturn v m) s = .next (updGrant m.slot v.src m.leaseNo (fun _ => none) u)
        ∧ (∀ n, nextHop u v.src = some n →
          ∃ t, exec (.leaseQuery v m) s = .next t ∧ t.stf = s.stf ∧ (member? t v.src).map (·.txSeq) = some (x.txSeq + 1)))
      ∧ (∀ b, k.asking = some (m.reqNo, b) →
        ∃ t, exec (.leaseRefuse v m) s = .next t ∧ (stf? t m.slot).map (fun y => (y.asking, y.lastRefused)) = some (none, true))
      ∧ (∀ l, v.src = s.grp.primary → isPrimary u = false → k.leases = [l] → l.number = m.leaseNo → l.deadline = none →
        ∃ t, exec (.leaseState v m) s = .next t
          ∧ (stf? t m.slot).map (·.leases) = some (if m.code = 0 then [{ l with deadline := some (s.beat + m.deadline) }] else [])))

/-- An unanswered request for a lease is repeated with its number after 250 ms; a lease whose deadline passes ends; a grant the standby does not
acknowledge within 100 ms is not made. -/
def Obligations.LeaseTimersRun : Prop :=
  ∀ (s : State) (n : Nat) (k : StfKey), stf? s n = some k →
    (∀ q b, k.asking = some (q, b) → b + beatsMs 250 ≤ s.beat →
      ∃ t, exec (.leaseRequestRepeat n) s = .next t ∧ (stf? t n).map (·.asking) = some (some (q, s.beat)))
    ∧ (∀ l b, isPrimary s = false → k.leases = [l] → l.deadline = some b → b ≤ s.beat →
      ∃ t, exec (.leaseDeadline n l.number) s = .next t ∧ (stf? t n).map (·.leases) = some [])
    ∧ (∀ g b, k.grants = [g] → g.mirrorAt = some b → b + beatsMs 100 ≤ s.beat →
      ∃ t, exec (.standbyAckTimeout n g.number) s = .next t ∧ (stf? t n).map (·.grants) = some [])

/-! #### The work of the block itself, and the two ports no driver reaches -/

/-- A freed buffer nothing names any more is wiped: its handle, every byte of it and its banks' contents go, and no other byte does; a missing
tree of a pin and a working set are filled; a DRBG instance that is due is reseeded; a persisted slot that was damaged is read again. -/
def Obligations.TheBlockTendsItself : Prop :=
  (∀ (s : State) (h : Nat) (b : Buffer), (s.bufs.map (·.1)).Nodup → lookup h s.bufs = some b → b.live = false →
    (∀ o ∈ s.ops, h ∉ o.bufs) → bufAwaited s h = false →
    ∃ t, exec (.bufWipe h) s = .next t ∧ lookup h t.bufs = none
      ∧ (∀ i < b.size, memRead t.bufMem (bufKey h i) = none)
      ∧ (∀ a, (a < bufKey h 0 ∨ bufKey h 0 + ceilDiv b.size 4 * 4 ≤ a) → memRead t.bufMem a = memRead s.bufMem a)
      ∧ t.hostMem = s.hostMem)
  ∧ (∀ (s : State) (k x : Nat) (p : Pin), lookup k s.hf.pins = some p → p.live = true → p.closing = false →
    bit (regWord s 0x050200).toNat 13 = true → x < p.trees → x ∉ p.present → (∀ y < x, y ∈ p.present) →
    exec (.fillJob k) s = .next { s with hf := { s.hf with pins := put k { p with present := p.present ++ [x] } s.hf.pins } })
  ∧ (∀ (s : State) (n : Nat) (k : StfKey), stf? s n = some k → k.setReady = false →
    ∃ t y, exec (.workingSetFill n) s = .next t ∧ stf? t n = some y ∧ y.setReady = true ∧ k.builtTo ≤ y.builtTo
      ∧ { y with setReady := false, builtTo := k.builtTo } = k)
  ∧ (∀ (s : State) (k : Nat) (d : Drbg), s.kv.drbgs[k]? = some d → rngOk s.kv = true →
    (d.seeded = false ∨ 65536 ≤ d.requests ∨ d.lastReseed + beatsMs (setting s 0x090040 9 0) ≤ s.beat) →
    exec (.drbgReseed k) s
      = .next { s with kv := { s.kv with drbgs := s.kv.drbgs.set k { seeded := true, requests := 0, lastReseed := s.beat } } })
  ∧ (∀ (s : State) (n : Nat) (k : KeySlot) (b : Blob), slot? s.kv n = some k → k.state = .damaged → lookup n s.kv.blobs = some b →
    b.sound = true →
    ∃ t, exec (.slotReload n) s = .next t ∧ slot? t.kv n = some { rebuilt s.eng.info b.slot with state := .live, owner := k.owner }
      ∧ ∀ y, stf? s n = some y → (stf? t n).map (·.next) = some y.reservedEnd)

/-- A reservation that commits raises RESERVED_END and is journalled before anything is signed with it; one that does not leaves the slot
DAMAGED and the signs that waited without an index; the journal's compaction begins a fresh half with every key's custody and a HALF_SWITCH, and erases the old one; a sign whose
lease does not come in its time ends. -/
def Obligations.IndicesAreReserved : Prop :=
  (∀ (s : State) (n e : Nat) (k : StfKey), stf? s n = some k → k.reserving = some e →
    (journalRoom s 1 = true →
      ∃ t, exec (.reservationCommit n true) s = .next t ∧ (stf? t n).map (·.reservedEnd) = some (max k.reservedEnd e)
        ∧ (activeHalf t.stf).getLast?
          = some { type := 2, slot := n, seq := s.stf.seq + 1, keyId := k.keyId, a := e, b := 0, c := 0 } ∧ t.kv = s.kv)
    ∧ (∀ x, slot? s.kv n = some x →
      ∃ t, exec (.reservationCommit n false) s = .next t ∧ (stf? t n).map (fun y => (y.reservedEnd, y.reserving)) = some (k.reservedEnd, none)
        ∧ (slot? t.kv n).map (·.state) = some .damaged))
  ∧ (∀ s : State, ((s.sup.supplies[0]?).map (·.warn)).getD false = false →
    (16384 - (activeHalf s.stf).length < 4200 → (if s.stf.active = 0 then s.stf.half1 else s.stf.half0) = [] →
      ∃ t, exec .journalCompaction s = .next t ∧ t.stf.keys = s.stf.keys ∧ t.stf.active = (if s.stf.active = 0 then 1 else 0)
        ∧ (if s.stf.active = 0 then t.stf.half0 = s.stf.half0 else t.stf.half1 = s.stf.half1)
        ∧ (∀ e ∈ s.stf.keys, (slot? s.kv e.1).map (·.state) ≠ some .staged →
          ∃ q, { checkpoint (s.stf.role == 2) e with seq := q } ∈ activeHalf t.stf)
        ∧ ((activeHalf t.stf).getLast?).map (·.type) = some 8 ∧ (activeHalf t.stf).map (·.seq) = (List.range (activeHalf t.stf).length).map (s.stf.seq + 1 + ·))
    ∧ ((if s.stf.active = 0 then s.stf.half1 else s.stf.half0) ≠ [] →
      exec .journalCompaction s = .next { s with stf :=
        (if s.stf.active = 0 then { s.stf with half1 := [] } else { s.stf with half0 := [] }) }))
  ∧ (∀ (s : State) (op : Nat) (o : Op) (r : Ring) (k : StfKey), op? s op = some o → Alone s o r → atStage5 s o = true → signing o = true →
    stf? s (stfSpecTarget s o) = some k → k.group = true → usableLease s.beat k = none →
    o.since + beatsMs (max 1 (setting s 0x050800 23 16)) ≤ s.beat →
    ∃ t, exec (.leaseWaitExpiry op) s = .next t ∧ Completed t o r (if k.lapsed then .leaseExpired else .keyExhausted) .none [])

/-- SPDM requests that reach the device are answered and sessions counted; the TAP shifts out its identifier, 44 cells, or its data one bit late
for what it does not list, and the mailbox does DEBUG_AUTH's work where a session can be opened. -/
def Obligations.OutsidePortsAnswer : Prop :=
  (∀ (s : State) (doe pec : Bool) (n : Nat), s.glb.perst = false → s.glb.halted = false → (s.glb.mode ≠ .boot ∨ s.glb.recoveryHold = true) →
    (doe = true ∨ pec = true) →
    ∃ t b, exec (.spdmRequest doe pec n) s = .next t ∧ t.outbox = s.outbox ++ [.spdm b]
      ∧ t.hp.spdmDoe = (if doe then (if n = 1 then s.hp.spdmDoe + 1 else if n = 2 then s.hp.spdmDoe - 1 else s.hp.spdmDoe) else s.hp.spdmDoe))
  ∧ (∀ (s : State) (d : Bytes),
    exec (.tapAccess 1 d) s = .next { s with hp := { s.hp with tapIr := 1 }, outbox := s.outbox ++ [.tap (leBytes 4 0x1910047B)] }
    ∧ (∃ t b, exec (.tapAccess 0 d) s = .next t ∧ t.outbox = s.outbox ++ [.tap b] ∧ b.length = 6 ∧ leNat b < 2 ^ 44)
    ∧ (∀ c, 4 < c → c ≠ 0x10 →
      exec (.tapAccess c d) s
        = .next { s with hp := { s.hp with tapIr := 0xFF }, outbox := s.outbox ++ [.tap (leBytes d.length (2 * leNat d))] })
    ∧ (debugReachable s = true → d = [3, 0, 0, 0] → lockedOut s = false →
      ∃ t, exec (.tapAccess 0x10 d) s = .next t ∧ t.cus.session = none ∧ t.hp.tapIr = 0x10))

/-! #### What every command and every step keeps, and what only some do -/

/-- Every step keeps the host memory and the buffer memory in canonical form. -/
def Obligations.StepKeepsTheMemoriesCanonical : Prop :=
  ∀ s t : State, Memory.wf s.hostMem → Memory.wf s.bufMem → step s = .next t → Memory.wf t.hostMem ∧ Memory.wf t.bufMem

/-- No command takes another from the queue or puts one into it. -/
def Obligations.CommandsLeaveTheQueue : Prop :=
  ∀ (c : Instr) (s t : State), exec c s = .next t → t.pending = s.pending

/-- The metronome never goes back but by a cold reset: a command leaves the beat as it is, or it is COLD_RESET or SUPPLY_RESET_TRIP and the
beat is 0.

No command but LC_TRANSITION burns a word of OTP: if the burnt words change, the command dispatched an LC_TRANSITION. -/
def Obligations.BeatAndOtpAreKept : Prop :=
  (
    ∀ (c : Instr) (s t : State), exec c s = .next t →
      t.beat = s.beat ∨ (t.beat = 0 ∧ (c = .coldReset ∨ ∃ n mv, c = .supplyResetTrip n mv)))
  ∧ (
    ∀ (c : Instr) (s t : State), exec c s = .next t → burnt t.cus.otp ≠ burnt s.cus.otp →
      ∃ op inp o, (c = .lcTransition op inp ∨ c = .dispatch op inp) ∧ op? s op = some o ∧ o.desc.opcode = 0x0F0B)

/-- A LOCK bit that is set stays set under every command but a cold reset, and a cold reset clears it (R8). -/
def Obligations.LockBitsClearOnlyOnColdReset : Prop :=
  ∀ (s : State) (off : Nat) (g : Reg), regAt off = some g → g.lock = some off → bit (regWord s off).toNat 31 = true →
    (∀ (c : Instr) (t : State), exec c s = .next t →
      bit (regWord t off).toNat 31 = true ∨ c = .coldReset ∨ ∃ n mv, c = .supplyResetTrip n mv)
    ∧ ∃ t, exec .coldReset s = .next t ∧ bit (regWord t off).toNat 31 = false

/-- An operation is released at no other beat than a whole multiple of its slot after its dispatch. -/
def Obligations.ReleaseOnlyAtMultiples : Prop :=
  ∀ (s t : State) (op : Nat) (o : Op), op? s op = some o → exec (.release op) s = .next t → op? t op = none →
    o.stage = .finished ∧ ∃ k, 0 < k ∧ s.beat = o.dispatch + k * o.slot

/-- AUTH_FAILED completions of LC_TRANSITION and DEBUG_AUTH are counted together; after eight, both opcodes complete with AUTH_FAILED and reason
9, and no command but a cold reset ends that (R388). -/
def Obligations.EightFailuresLockTokensOut : Prop :=
  (∀ (s : State) (op : Nat) (i : OpInput) (o : Op) (r : Ring), lockedOut s = false →
    (Managed lcTransitionSpec s op i o r → ∀ n l, transitionReasons s o.desc.inLen (decodeToken (inBytes s o i)) i.vddOtp = (n, .authFailed) :: l →
      ∃ t, exec (.lcTransition op i) s = .next t ∧ Completed t o r .authFailed .none (instReason n) ∧ t.cus.authFails = s.cus.authFails + 1)
    ∧ (Managed (debugSpec 2) s op i o r → debugMode s o i = 2 → ∀ n l, debugReasons s (decodeToken ((inBytes s o i).drop 4)) = (n, .authFailed) :: l →
      ∃ t, exec (.debugOpen op i) s = .next t ∧ Completed t o r .authFailed .none (instReason n) ∧ t.cus.authFails = s.cus.authFails + 1))
  ∧ (∀ s : State, lockedOut s = true ↔ 8 ≤ s.cus.authFails)
  ∧ (∀ s : State, lockedOut s = true →
    (∀ (op : Nat) (i : OpInput) (o : Op) (r : Ring),
      (Managed lcTransitionSpec s op i o r →
        ∃ t, exec (.lcTransition op i) s = .next t ∧ Completed t o r .authFailed .none (instReason 9) ∧ t.cus.otp = s.cus.otp)
      ∧ ∀ row ∈ [(Instr.debugChallenge op i, 1), (.debugOpen op i, 2), (.debugClose op i, 3)], Managed (debugSpec row.2) s op i o r →
        debugMode s o i = row.2 →
        ∃ t, exec row.1 s = .next t ∧ Completed t o r .authFailed .none (instReason 9) ∧ t.cus.session = s.cus.session)
    ∧ (∀ (c : Instr) (t : State), exec c s = .next t → lockedOut t = true ∨ c = .coldReset ∨ ∃ n mv, c = .supplyResetTrip n mv)
    ∧ ∃ t, exec .coldReset s = .next t ∧ t.cus.authFails = 0)

/-- A frame whose delimited length is wrong, whose LEN is above 8,192, whose VC is 3 or with a reserved bit set is dropped, counted in DROPPED,
and raises FRAME_DROPPED; nothing is taken from it (R434). -/
def Obligations.MalformedFramesAreDropped : Prop :=
  ∀ (s : State) (n : Nat) (p : Port) (f : FrameIn), s.ports[n]? = some p → p.trained = true → f.vc < 4 →
    (f.delimited ≠ 24 + f.len + (if f.prot then 16 else 0) ∨ 8192 < f.len ∨ f.vc = 3 ∨ f.reserved = true) →
    ∃ t, exec (.frameReceive n f) s = .next t ∧ t.ports[n]? = some { p with dropped := min 0xFF (p.dropped + 1) }
      ∧ (∀ k, k ≠ n → t.ports[k]? = s.ports[k]?) ∧ (lookup (192 + 8 * n + 5) t.im.events).map (·.pending) = some true
      ∧ { t with ports := s.ports, im := { t.im with events := s.im.events }, hp := s.hp, outbox := s.outbox } = s
end

