-- ==== Sys2Proof/Laws/Memory.lean ====
section
/-! SUPPORT. Tables by number and the two memories: what a read gives after a write or an erasure, and that every operation keeps the
canonical form. -/
namespace Sys2Proof.Machine

/-! #### Tables by number -/

@[simp] theorem lookup_put_self {α : Type} (k : Nat) (v : α) : ∀ l : List (Nat × α), lookup k (put k v l) = some v
  | [] => by simp [put, lookup]
  | e :: l => by
    simp only [put]; split
    · rw [lookup, if_neg (by omega)]; exact lookup_put_self k v l
    · split <;> simp [lookup]

theorem lookup_put_ne {α : Type} (k j : Nat) (v : α) (h : j ≠ k) : ∀ l : List (Nat × α), lookup j (put k v l) = lookup j l
  | [] => by simp [put, lookup, Ne.symm h]
  | e :: l => by
    simp only [put]; split
    · simp only [lookup]; rw [lookup_put_ne k j v h l]
    · split
      · rename_i h2; simp [lookup, h2, Ne.symm h]
      · simp [lookup, Ne.symm h]

theorem lookup_adjust {α : Type} (k j : Nat) (f : α → α) : ∀ l : List (Nat × α),
    lookup j (adjust k f l) = if j = k then (lookup j l).map f else lookup j l
  | [] => by simp [adjust, lookup]
  | e :: l => by
    have ih := lookup_adjust k j f l
    simp only [adjust] at ih
    simp only [adjust, List.map_cons, lookup]
    by_cases h : e.1 = j
    · subst h; by_cases h2 : e.1 = k <;> simp [h2]
    · by_cases h2 : e.1 = k
      · simp [h2, ih, (h2 ▸ h : k ≠ j)]
      · simp [h2, h, ih]

theorem lookup_filter {α : Type} (j : Nat) (p : Nat × α → Bool) (hp : ∀ v w, p (j, v) = p (j, w)) : ∀ l : List (Nat × α),
    lookup j (l.filter p) = (lookup j l).bind (fun v => if p (j, v) then some v else none)
  | [] => rfl
  | e :: l => by
    have ih := lookup_filter j p hp l
    by_cases h : e.1 = j
    · subst h
      by_cases h2 : p e = true
      · simp [h2, lookup]
      · have h3 : ∀ v, p (e.1, v) = false := fun v => by rw [hp v e.2]; simpa using h2
        simp [h2, lookup, h3, ih]
    · by_cases h2 : p e = true
      · simp [h2, lookup, h, ih]
      · simp [h2, lookup, h, ih]

@[simp] theorem lookup_del_self {α : Type} (k : Nat) (l : List (Nat × α)) : lookup k (del k l) = none := by
  rw [del, lookup_filter k _ (fun _ _ => rfl)]; simp

theorem lookup_del_ne {α : Type} (k j : Nat) (h : j ≠ k) (l : List (Nat × α)) : lookup j (del k l) = lookup j l := by
  rw [del, lookup_filter j _ (fun _ _ => rfl)]; simp [h]

/-- The numbers of a table after a `put`. -/
theorem mem_put {α : Type} (k : Nat) (v : α) (e : Nat × α) : ∀ l : List (Nat × α), e ∈ put k v l → e = (k, v) ∨ e ∈ l
  | [], h => by simp [put] at h; exact .inl h
  | x :: l, h => by
    simp only [put] at h
    split at h
    · rcases List.mem_cons.1 h with h | h
      · exact .inr (h ▸ List.mem_cons_self)
      · exact (mem_put k v e l h).imp id (List.mem_cons_of_mem _)
    · split at h
      · rcases List.mem_cons.1 h with h | h
        · exact .inl h
        · exact .inr (List.mem_cons_of_mem _ h)
      · rcases List.mem_cons.1 h with h | h
        · exact .inl h
        · exact .inr h

/-! #### The memories keep their canonical form -/

theorem memWrite_wf (a : Nat) (b : Byte) : ∀ m : List Host.Cell, Memory.wf m → Memory.wf (memWrite m a b)
  | [], _ => by simp [memWrite, put, Memory.wf]
  | c :: m, h => by
    have hm : Memory.wf m := (List.pairwise_cons.1 h).2
    have hc := (List.pairwise_cons.1 h).1
    simp only [memWrite, put]
    split
    · rename_i h1
      refine List.pairwise_cons.2 ⟨fun e he => ?_, memWrite_wf a b m hm⟩
      rcases mem_put a b e m he with rfl | he
      · exact h1
      · exact hc e he
    · rename_i h1
      split
      · rename_i h2
        exact List.pairwise_cons.2 ⟨fun e he => h2 ▸ hc e he, hm⟩
      · rename_i h2
        have h3 : a < c.1 := by omega
        exact List.pairwise_cons.2 ⟨fun e he => by
          rcases List.mem_cons.1 he with rfl | he
          · exact h3
          · exact Nat.lt_trans h3 (hc e he), h⟩

theorem memWrites_wf : ∀ (bs : Bytes) (a : Nat) (m : List Host.Cell), Memory.wf m → Memory.wf (memWrites m a bs)
  | [], _, _, h => h
  | b :: bs, a, m, h => memWrites_wf bs (a + 1) _ (memWrite_wf a b m h)

theorem memErase_wf (a n : Nat) (m : List Host.Cell) (h : Memory.wf m) : Memory.wf (memErase m a n) := List.Pairwise.filter _ h

/-! #### Reads -/

@[simp] theorem memRead_memWrite_self (m : List Host.Cell) (a : Nat) (b : Byte) : memRead (memWrite m a b) a = some b := lookup_put_self a b m

theorem memRead_memWrite_ne (m : List Host.Cell) (a x : Nat) (b : Byte) (h : x ≠ a) : memRead (memWrite m a b) x = memRead m x :=
  lookup_put_ne a x b h m

/-- A byte read after bytes have been written from `a` on: the byte written there, or what stood there. -/
theorem memRead_memWrites : ∀ (bs : Bytes) (m : List Host.Cell) (a x : Nat),
    memRead (memWrites m a bs) x = if a ≤ x ∧ x < a + bs.length then bs[x - a]? else memRead m x
  | [], m, a, x => by simp only [memWrites, List.length_nil]; rw [if_neg (by omega)]
  | b :: bs, m, a, x => by
    rw [memWrites, memRead_memWrites bs, List.length_cons]
    by_cases h : x = a
    · subst h; simp
    · rw [memRead_memWrite_ne _ _ _ _ h]
      by_cases h2 : a + 1 ≤ x ∧ x < a + 1 + bs.length
      · rw [if_pos h2, if_pos (by omega), show x - a = (x - (a + 1)) + 1 by omega, List.getElem?_cons_succ]
      · rw [if_neg h2, if_neg (by omega)]

/-- A byte read after a range has been erased. -/
theorem memRead_memErase (m : List Host.Cell) (a n x : Nat) :
    memRead (memErase m a n) x = if a ≤ x ∧ x < a + n then none else memRead m x := by
  rw [memErase, memRead, lookup_filter x _ (fun _ _ => rfl)]
  by_cases h : a ≤ x ∧ x < a + n
  · have : (decide (x < a) || decide (a + n ≤ x)) = false := by simp; omega
    simp [h, this]
  · have : (decide (x < a) || decide (a + n ≤ x)) = true := by simp; omega
    simp only [this, if_true, if_neg h]; rw [memRead]; cases lookup x m <;> rfl

/-! #### The operations on State -/

@[simp] theorem writeHost_hostMem (space iova : Nat) (bs : Bytes) (s : State) :
    (writeHost space iova bs s).hostMem = memWrites s.hostMem (hostKey space iova) bs := rfl

theorem writeHost_wf (space iova : Nat) (bs : Bytes) (s : State) (h : Memory.wf s.hostMem) : Memory.wf (writeHost space iova bs s).hostMem :=
  memWrites_wf bs _ _ h

@[simp] theorem writeHost_bufMem (space iova : Nat) (bs : Bytes) (s : State) : (writeHost space iova bs s).bufMem = s.bufMem := rfl

/-- Gaps filled with zeros keep the form. -/
theorem fill_wf (key : Nat → Nat) : ∀ (l : List Nat) (m : List Host.Cell), Memory.wf m →
    Memory.wf (l.foldl (fun m i => if (memRead m (key i)).isNone then memWrite m (key i) 0 else m) m)
  | [], _, h => h
  | i :: l, m, h => by
    refine fill_wf key l _ ?_
    dsimp only
    split
    · exact memWrite_wf _ _ m h
    · exact h

@[simp] theorem writeBuf_hostMem (h off : Nat) (bs : Bytes) (s : State) : (writeBuf h off bs s).hostMem = s.hostMem := by
  simp only [writeBuf]; split <;> rfl

theorem writeBuf_wf (h off : Nat) (bs : Bytes) (s : State) (hw : Memory.wf s.bufMem) : Memory.wf (writeBuf h off bs s).bufMem := by
  simp only [writeBuf]; split
  · exact hw
  · exact memWrites_wf _ _ _ (fill_wf _ _ _ hw)

theorem unwriteBuf_wf (h off n : Nat) (s : State) (hw : Memory.wf s.bufMem) : Memory.wf (unwriteBuf h off n s).bufMem := memErase_wf _ _ _ hw

theorem writePiece_wf (space : Nat) (p : OutPiece) (s : State) (hw : Memory.wf s.hostMem ∧ Memory.wf s.bufMem) :
    Memory.wf (writePiece space p s).hostMem ∧ Memory.wf (writePiece space p s).bufMem := by
  simp only [writePiece]; split
  · exact ⟨by simpa using hw.1, writeBuf_wf _ _ _ _ hw.2⟩
  · exact ⟨writeHost_wf _ _ _ _ hw.1, by simpa using hw.2⟩

/-- What a direct output gives back keeps the form of both memories. -/
theorem takeBack_wf (space : Nat) (u : Undo) (s : State) (hw : Memory.wf s.hostMem ∧ Memory.wf s.bufMem) :
    Memory.wf (takeBack space u s).hostMem ∧ Memory.wf (takeBack space u s).bufMem := by
  have edges : ∀ (es : List (Nat × Option Byte)) (m : List Host.Cell), Memory.wf m →
      Memory.wf (es.foldl (fun m e => match e.2 with | some b => memWrite m e.1 b | none => memErase m e.1 1) m) := by
    intro es
    induction es with
    | nil => exact fun _ h => h
    | cons e es ih =>
      intro m h
      refine ih _ ?_
      dsimp only
      split
      · exact memWrite_wf _ _ m h
      · exact memErase_wf _ _ _ h
  have areas : ∀ (l : List (Option Nat × Nat × Nat)) (t : State), Memory.wf t.hostMem ∧ Memory.wf t.bufMem →
      let t' := l.foldl (fun t a => writePiece space { buf := a.1, addr := a.2.1, data := (List.range a.2.2).map (freeByte t.fresh) }
        { t with fresh := t.fresh + 1 }) t
      Memory.wf t'.hostMem ∧ Memory.wf t'.bufMem := by
    intro l
    induction l with
    | nil => exact fun _ h => h
    | cons a l ih => exact fun t h => ih _ (writePiece_wf _ _ _ h)
  refine areas _ _ ⟨hw.1, edges _ _ ?_⟩
  split
  · exact hw.2
  · exact memErase_wf _ _ _ hw.2

/-! #### Operations in flight -/

theorem op?_id {s : State} {id : Nat} {o : Op} (h : op? s id = some o) : o.id = id := by
  have := List.find?_some h; simpa using this

theorem op?_updOp (s : State) (id j : Nat) (f : Op → Op) (hf : ∀ o, (f o).id = o.id) :
    op? (updOp id f s) j = if j = id then (op? s j).map f else op? s j := by
  simp only [op?, updOp]
  generalize s.ops = l
  induction l with
  | nil => simp
  | cons o l ih =>
    simp only [List.map_cons, List.find?_cons]
    by_cases h : o.id = j
    · subst h
      by_cases h2 : o.id = id
      · simp [h2, hf]
      · simp [h2]
    · have h3 : ((if o.id = id then f o else o).id == j) = false := by
        have : (if o.id = id then f o else o).id = o.id := by split <;> simp [hf]
        simpa [this] using h
      have h4 : (o.id == j) = false := by simpa using h
      simp only [h3, h4, ih]

@[simp] theorem op?_dropOp_self (s : State) (id : Nat) : op? (dropOp id s) id = none := by
  simp [op?, dropOp, List.find?_eq_none]

theorem op?_dropOp_ne (s : State) (id j : Nat) (h : j ≠ id) : op? (dropOp id s) j = op? s j := by
  simp only [op?, dropOp]
  induction s.ops with
  | nil => rfl
  | cons o l ih =>
    by_cases h2 : o.id = id
    · simp [h2, Ne.symm h, ih] at *
    · simp only [List.filter_cons, h2, ne_eq, not_false_eq_true, bne_iff_ne, if_true, List.find?_cons, ih]

/-- Everything but the number of draws and the operations. -/
theorem updOp_with_ops (s : State) (id : Nat) (f : Op → Op) : { updOp id f s with ops := s.ops } = s := rfl

/-! #### Rings -/

theorem ring?_updRing (s : State) (n m : Nat) (f : Ring → Ring) :
    ring? (updRing n f s) m = if m = n then (ring? s m).map f else ring? s m := lookup_adjust n m f _

end Sys2Proof.Machine
end

