-- ==== Sys2Proof/Laws/State.lean ====
section
/-! SUPPORT. What each update of State leaves as it was and what it writes, one lemma per field, so that no proof unfolds a record
update. -/
namespace Sys2Proof.Machine

/-! `updKv` writes `kv`. -/
@[simp] theorem updKv_beat (f : Vault → Vault) (s : State) : (updKv f s).beat = s.beat := rfl
@[simp] theorem updKv_fresh (f : Vault → Vault) (s : State) : (updKv f s).fresh = s.fresh := rfl
@[simp] theorem updKv_glb (f : Vault → Vault) (s : State) : (updKv f s).glb = s.glb := rfl
@[simp] theorem updKv_regs (f : Vault → Vault) (s : State) : (updKv f s).regs = s.regs := rfl
@[simp] theorem updKv_hp (f : Vault → Vault) (s : State) : (updKv f s).hp = s.hp := rfl
@[simp] theorem updKv_qm (f : Vault → Vault) (s : State) : (updKv f s).qm = s.qm := rfl
@[simp] theorem updKv_im (f : Vault → Vault) (s : State) : (updKv f s).im = s.im := rfl
@[simp] theorem updKv_ops (f : Vault → Vault) (s : State) : (updKv f s).ops = s.ops := rfl
@[simp] theorem updKv_nextOp (f : Vault → Vault) (s : State) : (updKv f s).nextOp = s.nextOp := rfl
@[simp] theorem updKv_kv (f : Vault → Vault) (s : State) : (updKv f s).kv = f s.kv := rfl
@[simp] theorem updKv_bufs (f : Vault → Vault) (s : State) : (updKv f s).bufs = s.bufs := rfl
@[simp] theorem updKv_ecl (f : Vault → Vault) (s : State) : (updKv f s).ecl = s.ecl := rfl
@[simp] theorem updKv_mem (f : Vault → Vault) (s : State) : (updKv f s).mem = s.mem := rfl
@[simp] theorem updKv_sup (f : Vault → Vault) (s : State) : (updKv f s).sup = s.sup := rfl
@[simp] theorem updKv_eng (f : Vault → Vault) (s : State) : (updKv f s).eng = s.eng := rfl
@[simp] theorem updKv_ports (f : Vault → Vault) (s : State) : (updKv f s).ports = s.ports := rfl
@[simp] theorem updKv_hf (f : Vault → Vault) (s : State) : (updKv f s).hf = s.hf := rfl
@[simp] theorem updKv_stf (f : Vault → Vault) (s : State) : (updKv f s).stf = s.stf := rfl
@[simp] theorem updKv_cus (f : Vault → Vault) (s : State) : (updKv f s).cus = s.cus := rfl
@[simp] theorem updKv_grp (f : Vault → Vault) (s : State) : (updKv f s).grp = s.grp := rfl
@[simp] theorem updKv_fx (f : Vault → Vault) (s : State) : (updKv f s).fx = s.fx := rfl
@[simp] theorem updKv_hostMem (f : Vault → Vault) (s : State) : (updKv f s).hostMem = s.hostMem := rfl
@[simp] theorem updKv_bufMem (f : Vault → Vault) (s : State) : (updKv f s).bufMem = s.bufMem := rfl
@[simp] theorem updKv_outbox (f : Vault → Vault) (s : State) : (updKv f s).outbox = s.outbox := rfl
@[simp] theorem updKv_pending (f : Vault → Vault) (s : State) : (updKv f s).pending = s.pending := rfl

/-! `updHf` writes `hf`. -/
@[simp] theorem updHf_beat (f : Cache → Cache) (s : State) : (updHf f s).beat = s.beat := rfl
@[simp] theorem updHf_fresh (f : Cache → Cache) (s : State) : (updHf f s).fresh = s.fresh := rfl
@[simp] theorem updHf_glb (f : Cache → Cache) (s : State) : (updHf f s).glb = s.glb := rfl
@[simp] theorem updHf_regs (f : Cache → Cache) (s : State) : (updHf f s).regs = s.regs := rfl
@[simp] theorem updHf_hp (f : Cache → Cache) (s : State) : (updHf f s).hp = s.hp := rfl
@[simp] theorem updHf_qm (f : Cache → Cache) (s : State) : (updHf f s).qm = s.qm := rfl
@[simp] theorem updHf_im (f : Cache → Cache) (s : State) : (updHf f s).im = s.im := rfl
@[simp] theorem updHf_ops (f : Cache → Cache) (s : State) : (updHf f s).ops = s.ops := rfl
@[simp] theorem updHf_nextOp (f : Cache → Cache) (s : State) : (updHf f s).nextOp = s.nextOp := rfl
@[simp] theorem updHf_kv (f : Cache → Cache) (s : State) : (updHf f s).kv = s.kv := rfl
@[simp] theorem updHf_bufs (f : Cache → Cache) (s : State) : (updHf f s).bufs = s.bufs := rfl
@[simp] theorem updHf_ecl (f : Cache → Cache) (s : State) : (updHf f s).ecl = s.ecl := rfl
@[simp] theorem updHf_mem (f : Cache → Cache) (s : State) : (updHf f s).mem = s.mem := rfl
@[simp] theorem updHf_sup (f : Cache → Cache) (s : State) : (updHf f s).sup = s.sup := rfl
@[simp] theorem updHf_eng (f : Cache → Cache) (s : State) : (updHf f s).eng = s.eng := rfl
@[simp] theorem updHf_ports (f : Cache → Cache) (s : State) : (updHf f s).ports = s.ports := rfl
@[simp] theorem updHf_hf (f : Cache → Cache) (s : State) : (updHf f s).hf = f s.hf := rfl
@[simp] theorem updHf_stf (f : Cache → Cache) (s : State) : (updHf f s).stf = s.stf := rfl
@[simp] theorem updHf_cus (f : Cache → Cache) (s : State) : (updHf f s).cus = s.cus := rfl
@[simp] theorem updHf_grp (f : Cache → Cache) (s : State) : (updHf f s).grp = s.grp := rfl
@[simp] theorem updHf_fx (f : Cache → Cache) (s : State) : (updHf f s).fx = s.fx := rfl
@[simp] theorem updHf_hostMem (f : Cache → Cache) (s : State) : (updHf f s).hostMem = s.hostMem := rfl
@[simp] theorem updHf_bufMem (f : Cache → Cache) (s : State) : (updHf f s).bufMem = s.bufMem := rfl
@[simp] theorem updHf_outbox (f : Cache → Cache) (s : State) : (updHf f s).outbox = s.outbox := rfl
@[simp] theorem updHf_pending (f : Cache → Cache) (s : State) : (updHf f s).pending = s.pending := rfl

/-! `updFx` writes `fx`. -/
@[simp] theorem updFx_beat (f : Fixity → Fixity) (s : State) : (updFx f s).beat = s.beat := rfl
@[simp] theorem updFx_fresh (f : Fixity → Fixity) (s : State) : (updFx f s).fresh = s.fresh := rfl
@[simp] theorem updFx_glb (f : Fixity → Fixity) (s : State) : (updFx f s).glb = s.glb := rfl
@[simp] theorem updFx_regs (f : Fixity → Fixity) (s : State) : (updFx f s).regs = s.regs := rfl
@[simp] theorem updFx_hp (f : Fixity → Fixity) (s : State) : (updFx f s).hp = s.hp := rfl
@[simp] theorem updFx_qm (f : Fixity → Fixity) (s : State) : (updFx f s).qm = s.qm := rfl
@[simp] theorem updFx_im (f : Fixity → Fixity) (s : State) : (updFx f s).im = s.im := rfl
@[simp] theorem updFx_ops (f : Fixity → Fixity) (s : State) : (updFx f s).ops = s.ops := rfl
@[simp] theorem updFx_nextOp (f : Fixity → Fixity) (s : State) : (updFx f s).nextOp = s.nextOp := rfl
@[simp] theorem updFx_kv (f : Fixity → Fixity) (s : State) : (updFx f s).kv = s.kv := rfl
@[simp] theorem updFx_bufs (f : Fixity → Fixity) (s : State) : (updFx f s).bufs = s.bufs := rfl
@[simp] theorem updFx_ecl (f : Fixity → Fixity) (s : State) : (updFx f s).ecl = s.ecl := rfl
@[simp] theorem updFx_mem (f : Fixity → Fixity) (s : State) : (updFx f s).mem = s.mem := rfl
@[simp] theorem updFx_sup (f : Fixity → Fixity) (s : State) : (updFx f s).sup = s.sup := rfl
@[simp] theorem updFx_eng (f : Fixity → Fixity) (s : State) : (updFx f s).eng = s.eng := rfl
@[simp] theorem updFx_ports (f : Fixity → Fixity) (s : State) : (updFx f s).ports = s.ports := rfl
@[simp] theorem updFx_hf (f : Fixity → Fixity) (s : State) : (updFx f s).hf = s.hf := rfl
@[simp] theorem updFx_stf (f : Fixity → Fixity) (s : State) : (updFx f s).stf = s.stf := rfl
@[simp] theorem updFx_cus (f : Fixity → Fixity) (s : State) : (updFx f s).cus = s.cus := rfl
@[simp] theorem updFx_grp (f : Fixity → Fixity) (s : State) : (updFx f s).grp = s.grp := rfl
@[simp] theorem updFx_fx (f : Fixity → Fixity) (s : State) : (updFx f s).fx = f s.fx := rfl
@[simp] theorem updFx_hostMem (f : Fixity → Fixity) (s : State) : (updFx f s).hostMem = s.hostMem := rfl
@[simp] theorem updFx_bufMem (f : Fixity → Fixity) (s : State) : (updFx f s).bufMem = s.bufMem := rfl
@[simp] theorem updFx_outbox (f : Fixity → Fixity) (s : State) : (updFx f s).outbox = s.outbox := rfl
@[simp] theorem updFx_pending (f : Fixity → Fixity) (s : State) : (updFx f s).pending = s.pending := rfl

/-! `updStf` writes `stf`. -/
@[simp] theorem updStf_beat (f : Stateful → Stateful) (s : State) : (updStf f s).beat = s.beat := rfl
@[simp] theorem updStf_fresh (f : Stateful → Stateful) (s : State) : (updStf f s).fresh = s.fresh := rfl
@[simp] theorem updStf_glb (f : Stateful → Stateful) (s : State) : (updStf f s).glb = s.glb := rfl
@[simp] theorem updStf_regs (f : Stateful → Stateful) (s : State) : (updStf f s).regs = s.regs := rfl
@[simp] theorem updStf_hp (f : Stateful → Stateful) (s : State) : (updStf f s).hp = s.hp := rfl
@[simp] theorem updStf_qm (f : Stateful → Stateful) (s : State) : (updStf f s).qm = s.qm := rfl
@[simp] theorem updStf_im (f : Stateful → Stateful) (s : State) : (updStf f s).im = s.im := rfl
@[simp] theorem updStf_ops (f : Stateful → Stateful) (s : State) : (updStf f s).ops = s.ops := rfl
@[simp] theorem updStf_nextOp (f : Stateful → Stateful) (s : State) : (updStf f s).nextOp = s.nextOp := rfl
@[simp] theorem updStf_kv (f : Stateful → Stateful) (s : State) : (updStf f s).kv = s.kv := rfl
@[simp] theorem updStf_bufs (f : Stateful → Stateful) (s : State) : (updStf f s).bufs = s.bufs := rfl
@[simp] theorem updStf_ecl (f : Stateful → Stateful) (s : State) : (updStf f s).ecl = s.ecl := rfl
@[simp] theorem updStf_mem (f : Stateful → Stateful) (s : State) : (updStf f s).mem = s.mem := rfl
@[simp] theorem updStf_sup (f : Stateful → Stateful) (s : State) : (updStf f s).sup = s.sup := rfl
@[simp] theorem updStf_eng (f : Stateful → Stateful) (s : State) : (updStf f s).eng = s.eng := rfl
@[simp] theorem updStf_ports (f : Stateful → Stateful) (s : State) : (updStf f s).ports = s.ports := rfl
@[simp] theorem updStf_hf (f : Stateful → Stateful) (s : State) : (updStf f s).hf = s.hf := rfl
@[simp] theorem updStf_stf (f : Stateful → Stateful) (s : State) : (updStf f s).stf = f s.stf := rfl
@[simp] theorem updStf_cus (f : Stateful → Stateful) (s : State) : (updStf f s).cus = s.cus := rfl
@[simp] theorem updStf_grp (f : Stateful → Stateful) (s : State) : (updStf f s).grp = s.grp := rfl
@[simp] theorem updStf_fx (f : Stateful → Stateful) (s : State) : (updStf f s).fx = s.fx := rfl
@[simp] theorem updStf_hostMem (f : Stateful → Stateful) (s : State) : (updStf f s).hostMem = s.hostMem := rfl
@[simp] theorem updStf_bufMem (f : Stateful → Stateful) (s : State) : (updStf f s).bufMem = s.bufMem := rfl
@[simp] theorem updStf_outbox (f : Stateful → Stateful) (s : State) : (updStf f s).outbox = s.outbox := rfl
@[simp] theorem updStf_pending (f : Stateful → Stateful) (s : State) : (updStf f s).pending = s.pending := rfl

/-! `updCus` writes `cus`. -/
@[simp] theorem updCus_beat (f : Custody → Custody) (s : State) : (updCus f s).beat = s.beat := rfl
@[simp] theorem updCus_fresh (f : Custody → Custody) (s : State) : (updCus f s).fresh = s.fresh := rfl
@[simp] theorem updCus_glb (f : Custody → Custody) (s : State) : (updCus f s).glb = s.glb := rfl
@[simp] theorem updCus_regs (f : Custody → Custody) (s : State) : (updCus f s).regs = s.regs := rfl
@[simp] theorem updCus_hp (f : Custody → Custody) (s : State) : (updCus f s).hp = s.hp := rfl
@[simp] theorem updCus_qm (f : Custody → Custody) (s : State) : (updCus f s).qm = s.qm := rfl
@[simp] theorem updCus_im (f : Custody → Custody) (s : State) : (updCus f s).im = s.im := rfl
@[simp] theorem updCus_ops (f : Custody → Custody) (s : State) : (updCus f s).ops = s.ops := rfl
@[simp] theorem updCus_nextOp (f : Custody → Custody) (s : State) : (updCus f s).nextOp = s.nextOp := rfl
@[simp] theorem updCus_kv (f : Custody → Custody) (s : State) : (updCus f s).kv = s.kv := rfl
@[simp] theorem updCus_bufs (f : Custody → Custody) (s : State) : (updCus f s).bufs = s.bufs := rfl
@[simp] theorem updCus_ecl (f : Custody → Custody) (s : State) : (updCus f s).ecl = s.ecl := rfl
@[simp] theorem updCus_mem (f : Custody → Custody) (s : State) : (updCus f s).mem = s.mem := rfl
@[simp] theorem updCus_sup (f : Custody → Custody) (s : State) : (updCus f s).sup = s.sup := rfl
@[simp] theorem updCus_eng (f : Custody → Custody) (s : State) : (updCus f s).eng = s.eng := rfl
@[simp] theorem updCus_ports (f : Custody → Custody) (s : State) : (updCus f s).ports = s.ports := rfl
@[simp] theorem updCus_hf (f : Custody → Custody) (s : State) : (updCus f s).hf = s.hf := rfl
@[simp] theorem updCus_stf (f : Custody → Custody) (s : State) : (updCus f s).stf = s.stf := rfl
@[simp] theorem updCus_cus (f : Custody → Custody) (s : State) : (updCus f s).cus = f s.cus := rfl
@[simp] theorem updCus_grp (f : Custody → Custody) (s : State) : (updCus f s).grp = s.grp := rfl
@[simp] theorem updCus_fx (f : Custody → Custody) (s : State) : (updCus f s).fx = s.fx := rfl
@[simp] theorem updCus_hostMem (f : Custody → Custody) (s : State) : (updCus f s).hostMem = s.hostMem := rfl
@[simp] theorem updCus_bufMem (f : Custody → Custody) (s : State) : (updCus f s).bufMem = s.bufMem := rfl
@[simp] theorem updCus_outbox (f : Custody → Custody) (s : State) : (updCus f s).outbox = s.outbox := rfl
@[simp] theorem updCus_pending (f : Custody → Custody) (s : State) : (updCus f s).pending = s.pending := rfl

/-! `updGrp` writes `grp`. -/
@[simp] theorem updGrp_beat (f : DeviceGroup → DeviceGroup) (s : State) : (updGrp f s).beat = s.beat := rfl
@[simp] theorem updGrp_fresh (f : DeviceGroup → DeviceGroup) (s : State) : (updGrp f s).fresh = s.fresh := rfl
@[simp] theorem updGrp_glb (f : DeviceGroup → DeviceGroup) (s : State) : (updGrp f s).glb = s.glb := rfl
@[simp] theorem updGrp_regs (f : DeviceGroup → DeviceGroup) (s : State) : (updGrp f s).regs = s.regs := rfl
@[simp] theorem updGrp_hp (f : DeviceGroup → DeviceGroup) (s : State) : (updGrp f s).hp = s.hp := rfl
@[simp] theorem updGrp_qm (f : DeviceGroup → DeviceGroup) (s : State) : (updGrp f s).qm = s.qm := rfl
@[simp] theorem updGrp_im (f : DeviceGroup → DeviceGroup) (s : State) : (updGrp f s).im = s.im := rfl
@[simp] theorem updGrp_ops (f : DeviceGroup → DeviceGroup) (s : State) : (updGrp f s).ops = s.ops := rfl
@[simp] theorem updGrp_nextOp (f : DeviceGroup → DeviceGroup) (s : State) : (updGrp f s).nextOp = s.nextOp := rfl
@[simp] theorem updGrp_kv (f : DeviceGroup → DeviceGroup) (s : State) : (updGrp f s).kv = s.kv := rfl
@[simp] theorem updGrp_bufs (f : DeviceGroup → DeviceGroup) (s : State) : (updGrp f s).bufs = s.bufs := rfl
@[simp] theorem updGrp_ecl (f : DeviceGroup → DeviceGroup) (s : State) : (updGrp f s).ecl = s.ecl := rfl
@[simp] theorem updGrp_mem (f : DeviceGroup → DeviceGroup) (s : State) : (updGrp f s).mem = s.mem := rfl
@[simp] theorem updGrp_sup (f : DeviceGroup → DeviceGroup) (s : State) : (updGrp f s).sup = s.sup := rfl
@[simp] theorem updGrp_eng (f : DeviceGroup → DeviceGroup) (s : State) : (updGrp f s).eng = s.eng := rfl
@[simp] theorem updGrp_ports (f : DeviceGroup → DeviceGroup) (s : State) : (updGrp f s).ports = s.ports := rfl
@[simp] theorem updGrp_hf (f : DeviceGroup → DeviceGroup) (s : State) : (updGrp f s).hf = s.hf := rfl
@[simp] theorem updGrp_stf (f : DeviceGroup → DeviceGroup) (s : State) : (updGrp f s).stf = s.stf := rfl
@[simp] theorem updGrp_cus (f : DeviceGroup → DeviceGroup) (s : State) : (updGrp f s).cus = s.cus := rfl
@[simp] theorem updGrp_grp (f : DeviceGroup → DeviceGroup) (s : State) : (updGrp f s).grp = f s.grp := rfl
@[simp] theorem updGrp_fx (f : DeviceGroup → DeviceGroup) (s : State) : (updGrp f s).fx = s.fx := rfl
@[simp] theorem updGrp_hostMem (f : DeviceGroup → DeviceGroup) (s : State) : (updGrp f s).hostMem = s.hostMem := rfl
@[simp] theorem updGrp_bufMem (f : DeviceGroup → DeviceGroup) (s : State) : (updGrp f s).bufMem = s.bufMem := rfl
@[simp] theorem updGrp_outbox (f : DeviceGroup → DeviceGroup) (s : State) : (updGrp f s).outbox = s.outbox := rfl
@[simp] theorem updGrp_pending (f : DeviceGroup → DeviceGroup) (s : State) : (updGrp f s).pending = s.pending := rfl

/-! `updSup` writes `sup`. -/
@[simp] theorem updSup_beat (f : Supervisor → Supervisor) (s : State) : (updSup f s).beat = s.beat := rfl
@[simp] theorem updSup_fresh (f : Supervisor → Supervisor) (s : State) : (updSup f s).fresh = s.fresh := rfl
@[simp] theorem updSup_glb (f : Supervisor → Supervisor) (s : State) : (updSup f s).glb = s.glb := rfl
@[simp] theorem updSup_regs (f : Supervisor → Supervisor) (s : State) : (updSup f s).regs = s.regs := rfl
@[simp] theorem updSup_hp (f : Supervisor → Supervisor) (s : State) : (updSup f s).hp = s.hp := rfl
@[simp] theorem updSup_qm (f : Supervisor → Supervisor) (s : State) : (updSup f s).qm = s.qm := rfl
@[simp] theorem updSup_im (f : Supervisor → Supervisor) (s : State) : (updSup f s).im = s.im := rfl
@[simp] theorem updSup_ops (f : Supervisor → Supervisor) (s : State) : (updSup f s).ops = s.ops := rfl
@[simp] theorem updSup_nextOp (f : Supervisor → Supervisor) (s : State) : (updSup f s).nextOp = s.nextOp := rfl
@[simp] theorem updSup_kv (f : Supervisor → Supervisor) (s : State) : (updSup f s).kv = s.kv := rfl
@[simp] theorem updSup_bufs (f : Supervisor → Supervisor) (s : State) : (updSup f s).bufs = s.bufs := rfl
@[simp] theorem updSup_ecl (f : Supervisor → Supervisor) (s : State) : (updSup f s).ecl = s.ecl := rfl
@[simp] theorem updSup_mem (f : Supervisor → Supervisor) (s : State) : (updSup f s).mem = s.mem := rfl
@[simp] theorem updSup_sup (f : Supervisor → Supervisor) (s : State) : (updSup f s).sup = f s.sup := rfl
@[simp] theorem updSup_eng (f : Supervisor → Supervisor) (s : State) : (updSup f s).eng = s.eng := rfl
@[simp] theorem updSup_ports (f : Supervisor → Supervisor) (s : State) : (updSup f s).ports = s.ports := rfl
@[simp] theorem updSup_hf (f : Supervisor → Supervisor) (s : State) : (updSup f s).hf = s.hf := rfl
@[simp] theorem updSup_stf (f : Supervisor → Supervisor) (s : State) : (updSup f s).stf = s.stf := rfl
@[simp] theorem updSup_cus (f : Supervisor → Supervisor) (s : State) : (updSup f s).cus = s.cus := rfl
@[simp] theorem updSup_grp (f : Supervisor → Supervisor) (s : State) : (updSup f s).grp = s.grp := rfl
@[simp] theorem updSup_fx (f : Supervisor → Supervisor) (s : State) : (updSup f s).fx = s.fx := rfl
@[simp] theorem updSup_hostMem (f : Supervisor → Supervisor) (s : State) : (updSup f s).hostMem = s.hostMem := rfl
@[simp] theorem updSup_bufMem (f : Supervisor → Supervisor) (s : State) : (updSup f s).bufMem = s.bufMem := rfl
@[simp] theorem updSup_outbox (f : Supervisor → Supervisor) (s : State) : (updSup f s).outbox = s.outbox := rfl
@[simp] theorem updSup_pending (f : Supervisor → Supervisor) (s : State) : (updSup f s).pending = s.pending := rfl

/-! `updMem` writes `mem`. -/
@[simp] theorem updMem_beat (f : Fabric → Fabric) (s : State) : (updMem f s).beat = s.beat := rfl
@[simp] theorem updMem_fresh (f : Fabric → Fabric) (s : State) : (updMem f s).fresh = s.fresh := rfl
@[simp] theorem updMem_glb (f : Fabric → Fabric) (s : State) : (updMem f s).glb = s.glb := rfl
@[simp] theorem updMem_regs (f : Fabric → Fabric) (s : State) : (updMem f s).regs = s.regs := rfl
@[simp] theorem updMem_hp (f : Fabric → Fabric) (s : State) : (updMem f s).hp = s.hp := rfl
@[simp] theorem updMem_qm (f : Fabric → Fabric) (s : State) : (updMem f s).qm = s.qm := rfl
@[simp] theorem updMem_im (f : Fabric → Fabric) (s : State) : (updMem f s).im = s.im := rfl
@[simp] theorem updMem_ops (f : Fabric → Fabric) (s : State) : (updMem f s).ops = s.ops := rfl
@[simp] theorem updMem_nextOp (f : Fabric → Fabric) (s : State) : (updMem f s).nextOp = s.nextOp := rfl
@[simp] theorem updMem_kv (f : Fabric → Fabric) (s : State) : (updMem f s).kv = s.kv := rfl
@[simp] theorem updMem_bufs (f : Fabric → Fabric) (s : State) : (updMem f s).bufs = s.bufs := rfl
@[simp] theorem updMem_ecl (f : Fabric → Fabric) (s : State) : (updMem f s).ecl = s.ecl := rfl
@[simp] theorem updMem_mem (f : Fabric → Fabric) (s : State) : (updMem f s).mem = f s.mem := rfl
@[simp] theorem updMem_sup (f : Fabric → Fabric) (s : State) : (updMem f s).sup = s.sup := rfl
@[simp] theorem updMem_eng (f : Fabric → Fabric) (s : State) : (updMem f s).eng = s.eng := rfl
@[simp] theorem updMem_ports (f : Fabric → Fabric) (s : State) : (updMem f s).ports = s.ports := rfl
@[simp] theorem updMem_hf (f : Fabric → Fabric) (s : State) : (updMem f s).hf = s.hf := rfl
@[simp] theorem updMem_stf (f : Fabric → Fabric) (s : State) : (updMem f s).stf = s.stf := rfl
@[simp] theorem updMem_cus (f : Fabric → Fabric) (s : State) : (updMem f s).cus = s.cus := rfl
@[simp] theorem updMem_grp (f : Fabric → Fabric) (s : State) : (updMem f s).grp = s.grp := rfl
@[simp] theorem updMem_fx (f : Fabric → Fabric) (s : State) : (updMem f s).fx = s.fx := rfl
@[simp] theorem updMem_hostMem (f : Fabric → Fabric) (s : State) : (updMem f s).hostMem = s.hostMem := rfl
@[simp] theorem updMem_bufMem (f : Fabric → Fabric) (s : State) : (updMem f s).bufMem = s.bufMem := rfl
@[simp] theorem updMem_outbox (f : Fabric → Fabric) (s : State) : (updMem f s).outbox = s.outbox := rfl
@[simp] theorem updMem_pending (f : Fabric → Fabric) (s : State) : (updMem f s).pending = s.pending := rfl

/-! `updFc` writes `sup`. -/
@[simp] theorem updFc_beat (f : Collector → Collector) (s : State) : (updFc f s).beat = s.beat := rfl
@[simp] theorem updFc_fresh (f : Collector → Collector) (s : State) : (updFc f s).fresh = s.fresh := rfl
@[simp] theorem updFc_glb (f : Collector → Collector) (s : State) : (updFc f s).glb = s.glb := rfl
@[simp] theorem updFc_regs (f : Collector → Collector) (s : State) : (updFc f s).regs = s.regs := rfl
@[simp] theorem updFc_hp (f : Collector → Collector) (s : State) : (updFc f s).hp = s.hp := rfl
@[simp] theorem updFc_qm (f : Collector → Collector) (s : State) : (updFc f s).qm = s.qm := rfl
@[simp] theorem updFc_im (f : Collector → Collector) (s : State) : (updFc f s).im = s.im := rfl
@[simp] theorem updFc_ops (f : Collector → Collector) (s : State) : (updFc f s).ops = s.ops := rfl
@[simp] theorem updFc_nextOp (f : Collector → Collector) (s : State) : (updFc f s).nextOp = s.nextOp := rfl
@[simp] theorem updFc_kv (f : Collector → Collector) (s : State) : (updFc f s).kv = s.kv := rfl
@[simp] theorem updFc_bufs (f : Collector → Collector) (s : State) : (updFc f s).bufs = s.bufs := rfl
@[simp] theorem updFc_ecl (f : Collector → Collector) (s : State) : (updFc f s).ecl = s.ecl := rfl
@[simp] theorem updFc_mem (f : Collector → Collector) (s : State) : (updFc f s).mem = s.mem := rfl
@[simp] theorem updFc_sup (f : Collector → Collector) (s : State) : (updFc f s).sup = { s.sup with fc := f s.sup.fc } := rfl
@[simp] theorem updFc_eng (f : Collector → Collector) (s : State) : (updFc f s).eng = s.eng := rfl
@[simp] theorem updFc_ports (f : Collector → Collector) (s : State) : (updFc f s).ports = s.ports := rfl
@[simp] theorem updFc_hf (f : Collector → Collector) (s : State) : (updFc f s).hf = s.hf := rfl
@[simp] theorem updFc_stf (f : Collector → Collector) (s : State) : (updFc f s).stf = s.stf := rfl
@[simp] theorem updFc_cus (f : Collector → Collector) (s : State) : (updFc f s).cus = s.cus := rfl
@[simp] theorem updFc_grp (f : Collector → Collector) (s : State) : (updFc f s).grp = s.grp := rfl
@[simp] theorem updFc_fx (f : Collector → Collector) (s : State) : (updFc f s).fx = s.fx := rfl
@[simp] theorem updFc_hostMem (f : Collector → Collector) (s : State) : (updFc f s).hostMem = s.hostMem := rfl
@[simp] theorem updFc_bufMem (f : Collector → Collector) (s : State) : (updFc f s).bufMem = s.bufMem := rfl
@[simp] theorem updFc_outbox (f : Collector → Collector) (s : State) : (updFc f s).outbox = s.outbox := rfl
@[simp] theorem updFc_pending (f : Collector → Collector) (s : State) : (updFc f s).pending = s.pending := rfl

/-! `updUp` writes `cus`. -/
@[simp] theorem updUp_beat (f : Update → Update) (s : State) : (updUp f s).beat = s.beat := rfl
@[simp] theorem updUp_fresh (f : Update → Update) (s : State) : (updUp f s).fresh = s.fresh := rfl
@[simp] theorem updUp_glb (f : Update → Update) (s : State) : (updUp f s).glb = s.glb := rfl
@[simp] theorem updUp_regs (f : Update → Update) (s : State) : (updUp f s).regs = s.regs := rfl
@[simp] theorem updUp_hp (f : Update → Update) (s : State) : (updUp f s).hp = s.hp := rfl
@[simp] theorem updUp_qm (f : Update → Update) (s : State) : (updUp f s).qm = s.qm := rfl
@[simp] theorem updUp_im (f : Update → Update) (s : State) : (updUp f s).im = s.im := rfl
@[simp] theorem updUp_ops (f : Update → Update) (s : State) : (updUp f s).ops = s.ops := rfl
@[simp] theorem updUp_nextOp (f : Update → Update) (s : State) : (updUp f s).nextOp = s.nextOp := rfl
@[simp] theorem updUp_kv (f : Update → Update) (s : State) : (updUp f s).kv = s.kv := rfl
@[simp] theorem updUp_bufs (f : Update → Update) (s : State) : (updUp f s).bufs = s.bufs := rfl
@[simp] theorem updUp_ecl (f : Update → Update) (s : State) : (updUp f s).ecl = s.ecl := rfl
@[simp] theorem updUp_mem (f : Update → Update) (s : State) : (updUp f s).mem = s.mem := rfl
@[simp] theorem updUp_sup (f : Update → Update) (s : State) : (updUp f s).sup = s.sup := rfl
@[simp] theorem updUp_eng (f : Update → Update) (s : State) : (updUp f s).eng = s.eng := rfl
@[simp] theorem updUp_ports (f : Update → Update) (s : State) : (updUp f s).ports = s.ports := rfl
@[simp] theorem updUp_hf (f : Update → Update) (s : State) : (updUp f s).hf = s.hf := rfl
@[simp] theorem updUp_stf (f : Update → Update) (s : State) : (updUp f s).stf = s.stf := rfl
@[simp] theorem updUp_cus (f : Update → Update) (s : State) : (updUp f s).cus = { s.cus with up := f s.cus.up } := rfl
@[simp] theorem updUp_grp (f : Update → Update) (s : State) : (updUp f s).grp = s.grp := rfl
@[simp] theorem updUp_fx (f : Update → Update) (s : State) : (updUp f s).fx = s.fx := rfl
@[simp] theorem updUp_hostMem (f : Update → Update) (s : State) : (updUp f s).hostMem = s.hostMem := rfl
@[simp] theorem updUp_bufMem (f : Update → Update) (s : State) : (updUp f s).bufMem = s.bufMem := rfl
@[simp] theorem updUp_outbox (f : Update → Update) (s : State) : (updUp f s).outbox = s.outbox := rfl
@[simp] theorem updUp_pending (f : Update → Update) (s : State) : (updUp f s).pending = s.pending := rfl

/-! `updPort` writes `ports`. -/
@[simp] theorem updPort_beat (p : Nat) (f : Port → Port) (s : State) : (updPort p f s).beat = s.beat := rfl
@[simp] theorem updPort_fresh (p : Nat) (f : Port → Port) (s : State) : (updPort p f s).fresh = s.fresh := rfl
@[simp] theorem updPort_glb (p : Nat) (f : Port → Port) (s : State) : (updPort p f s).glb = s.glb := rfl
@[simp] theorem updPort_regs (p : Nat) (f : Port → Port) (s : State) : (updPort p f s).regs = s.regs := rfl
@[simp] theorem updPort_hp (p : Nat) (f : Port → Port) (s : State) : (updPort p f s).hp = s.hp := rfl
@[simp] theorem updPort_qm (p : Nat) (f : Port → Port) (s : State) : (updPort p f s).qm = s.qm := rfl
@[simp] theorem updPort_im (p : Nat) (f : Port → Port) (s : State) : (updPort p f s).im = s.im := rfl
@[simp] theorem updPort_ops (p : Nat) (f : Port → Port) (s : State) : (updPort p f s).ops = s.ops := rfl
@[simp] theorem updPort_nextOp (p : Nat) (f : Port → Port) (s : State) : (updPort p f s).nextOp = s.nextOp := rfl
@[simp] theorem updPort_kv (p : Nat) (f : Port → Port) (s : State) : (updPort p f s).kv = s.kv := rfl
@[simp] theorem updPort_bufs (p : Nat) (f : Port → Port) (s : State) : (updPort p f s).bufs = s.bufs := rfl
@[simp] theorem updPort_ecl (p : Nat) (f : Port → Port) (s : State) : (updPort p f s).ecl = s.ecl := rfl
@[simp] theorem updPort_mem (p : Nat) (f : Port → Port) (s : State) : (updPort p f s).mem = s.mem := rfl
@[simp] theorem updPort_sup (p : Nat) (f : Port → Port) (s : State) : (updPort p f s).sup = s.sup := rfl
@[simp] theorem updPort_eng (p : Nat) (f : Port → Port) (s : State) : (updPort p f s).eng = s.eng := rfl
@[simp] theorem updPort_ports (p : Nat) (f : Port → Port) (s : State) : (updPort p f s).ports = modAt s.ports p f := rfl
@[simp] theorem updPort_hf (p : Nat) (f : Port → Port) (s : State) : (updPort p f s).hf = s.hf := rfl
@[simp] theorem updPort_stf (p : Nat) (f : Port → Port) (s : State) : (updPort p f s).stf = s.stf := rfl
@[simp] theorem updPort_cus (p : Nat) (f : Port → Port) (s : State) : (updPort p f s).cus = s.cus := rfl
@[simp] theorem updPort_grp (p : Nat) (f : Port → Port) (s : State) : (updPort p f s).grp = s.grp := rfl
@[simp] theorem updPort_fx (p : Nat) (f : Port → Port) (s : State) : (updPort p f s).fx = s.fx := rfl
@[simp] theorem updPort_hostMem (p : Nat) (f : Port → Port) (s : State) : (updPort p f s).hostMem = s.hostMem := rfl
@[simp] theorem updPort_bufMem (p : Nat) (f : Port → Port) (s : State) : (updPort p f s).bufMem = s.bufMem := rfl
@[simp] theorem updPort_outbox (p : Nat) (f : Port → Port) (s : State) : (updPort p f s).outbox = s.outbox := rfl
@[simp] theorem updPort_pending (p : Nat) (f : Port → Port) (s : State) : (updPort p f s).pending = s.pending := rfl

/-! `updRing` writes `qm`. -/
@[simp] theorem updRing_beat (n : Nat) (f : Ring → Ring) (s : State) : (updRing n f s).beat = s.beat := rfl
@[simp] theorem updRing_fresh (n : Nat) (f : Ring → Ring) (s : State) : (updRing n f s).fresh = s.fresh := rfl
@[simp] theorem updRing_glb (n : Nat) (f : Ring → Ring) (s : State) : (updRing n f s).glb = s.glb := rfl
@[simp] theorem updRing_regs (n : Nat) (f : Ring → Ring) (s : State) : (updRing n f s).regs = s.regs := rfl
@[simp] theorem updRing_hp (n : Nat) (f : Ring → Ring) (s : State) : (updRing n f s).hp = s.hp := rfl
@[simp] theorem updRing_qm (n : Nat) (f : Ring → Ring) (s : State) : (updRing n f s).qm = { s.qm with rings := adjust n f s.qm.rings } := rfl
@[simp] theorem updRing_im (n : Nat) (f : Ring → Ring) (s : State) : (updRing n f s).im = s.im := rfl
@[simp] theorem updRing_ops (n : Nat) (f : Ring → Ring) (s : State) : (updRing n f s).ops = s.ops := rfl
@[simp] theorem updRing_nextOp (n : Nat) (f : Ring → Ring) (s : State) : (updRing n f s).nextOp = s.nextOp := rfl
@[simp] theorem updRing_kv (n : Nat) (f : Ring → Ring) (s : State) : (updRing n f s).kv = s.kv := rfl
@[simp] theorem updRing_bufs (n : Nat) (f : Ring → Ring) (s : State) : (updRing n f s).bufs = s.bufs := rfl
@[simp] theorem updRing_ecl (n : Nat) (f : Ring → Ring) (s : State) : (updRing n f s).ecl = s.ecl := rfl
@[simp] theorem updRing_mem (n : Nat) (f : Ring → Ring) (s : State) : (updRing n f s).mem = s.mem := rfl
@[simp] theorem updRing_sup (n : Nat) (f : Ring → Ring) (s : State) : (updRing n f s).sup = s.sup := rfl
@[simp] theorem updRing_eng (n : Nat) (f : Ring → Ring) (s : State) : (updRing n f s).eng = s.eng := rfl
@[simp] theorem updRing_ports (n : Nat) (f : Ring → Ring) (s : State) : (updRing n f s).ports = s.ports := rfl
@[simp] theorem updRing_hf (n : Nat) (f : Ring → Ring) (s : State) : (updRing n f s).hf = s.hf := rfl
@[simp] theorem updRing_stf (n : Nat) (f : Ring → Ring) (s : State) : (updRing n f s).stf = s.stf := rfl
@[simp] theorem updRing_cus (n : Nat) (f : Ring → Ring) (s : State) : (updRing n f s).cus = s.cus := rfl
@[simp] theorem updRing_grp (n : Nat) (f : Ring → Ring) (s : State) : (updRing n f s).grp = s.grp := rfl
@[simp] theorem updRing_fx (n : Nat) (f : Ring → Ring) (s : State) : (updRing n f s).fx = s.fx := rfl
@[simp] theorem updRing_hostMem (n : Nat) (f : Ring → Ring) (s : State) : (updRing n f s).hostMem = s.hostMem := rfl
@[simp] theorem updRing_bufMem (n : Nat) (f : Ring → Ring) (s : State) : (updRing n f s).bufMem = s.bufMem := rfl
@[simp] theorem updRing_outbox (n : Nat) (f : Ring → Ring) (s : State) : (updRing n f s).outbox = s.outbox := rfl
@[simp] theorem updRing_pending (n : Nat) (f : Ring → Ring) (s : State) : (updRing n f s).pending = s.pending := rfl

/-! `setRing` writes `qm`. -/
@[simp] theorem setRing_beat (n : Nat) (r : Ring) (s : State) : (setRing n r s).beat = s.beat := rfl
@[simp] theorem setRing_fresh (n : Nat) (r : Ring) (s : State) : (setRing n r s).fresh = s.fresh := rfl
@[simp] theorem setRing_glb (n : Nat) (r : Ring) (s : State) : (setRing n r s).glb = s.glb := rfl
@[simp] theorem setRing_regs (n : Nat) (r : Ring) (s : State) : (setRing n r s).regs = s.regs := rfl
@[simp] theorem setRing_hp (n : Nat) (r : Ring) (s : State) : (setRing n r s).hp = s.hp := rfl
@[simp] theorem setRing_qm (n : Nat) (r : Ring) (s : State) : (setRing n r s).qm = { s.qm with rings := put n r s.qm.rings, errors := del n s.qm.errors } := rfl
@[simp] theorem setRing_im (n : Nat) (r : Ring) (s : State) : (setRing n r s).im = s.im := rfl
@[simp] theorem setRing_ops (n : Nat) (r : Ring) (s : State) : (setRing n r s).ops = s.ops := rfl
@[simp] theorem setRing_nextOp (n : Nat) (r : Ring) (s : State) : (setRing n r s).nextOp = s.nextOp := rfl
@[simp] theorem setRing_kv (n : Nat) (r : Ring) (s : State) : (setRing n r s).kv = s.kv := rfl
@[simp] theorem setRing_bufs (n : Nat) (r : Ring) (s : State) : (setRing n r s).bufs = s.bufs := rfl
@[simp] theorem setRing_ecl (n : Nat) (r : Ring) (s : State) : (setRing n r s).ecl = s.ecl := rfl
@[simp] theorem setRing_mem (n : Nat) (r : Ring) (s : State) : (setRing n r s).mem = s.mem := rfl
@[simp] theorem setRing_sup (n : Nat) (r : Ring) (s : State) : (setRing n r s).sup = s.sup := rfl
@[simp] theorem setRing_eng (n : Nat) (r : Ring) (s : State) : (setRing n r s).eng = s.eng := rfl
@[simp] theorem setRing_ports (n : Nat) (r : Ring) (s : State) : (setRing n r s).ports = s.ports := rfl
@[simp] theorem setRing_hf (n : Nat) (r : Ring) (s : State) : (setRing n r s).hf = s.hf := rfl
@[simp] theorem setRing_stf (n : Nat) (r : Ring) (s : State) : (setRing n r s).stf = s.stf := rfl
@[simp] theorem setRing_cus (n : Nat) (r : Ring) (s : State) : (setRing n r s).cus = s.cus := rfl
@[simp] theorem setRing_grp (n : Nat) (r : Ring) (s : State) : (setRing n r s).grp = s.grp := rfl
@[simp] theorem setRing_fx (n : Nat) (r : Ring) (s : State) : (setRing n r s).fx = s.fx := rfl
@[simp] theorem setRing_hostMem (n : Nat) (r : Ring) (s : State) : (setRing n r s).hostMem = s.hostMem := rfl
@[simp] theorem setRing_bufMem (n : Nat) (r : Ring) (s : State) : (setRing n r s).bufMem = s.bufMem := rfl
@[simp] theorem setRing_outbox (n : Nat) (r : Ring) (s : State) : (setRing n r s).outbox = s.outbox := rfl
@[simp] theorem setRing_pending (n : Nat) (r : Ring) (s : State) : (setRing n r s).pending = s.pending := rfl

/-! `setInst` writes `im`. -/
@[simp] theorem setInst_beat (n : Nat) (i : Inst) (s : State) : (setInst n i s).beat = s.beat := rfl
@[simp] theorem setInst_fresh (n : Nat) (i : Inst) (s : State) : (setInst n i s).fresh = s.fresh := rfl
@[simp] theorem setInst_glb (n : Nat) (i : Inst) (s : State) : (setInst n i s).glb = s.glb := rfl
@[simp] theorem setInst_regs (n : Nat) (i : Inst) (s : State) : (setInst n i s).regs = s.regs := rfl
@[simp] theorem setInst_hp (n : Nat) (i : Inst) (s : State) : (setInst n i s).hp = s.hp := rfl
@[simp] theorem setInst_qm (n : Nat) (i : Inst) (s : State) : (setInst n i s).qm = s.qm := rfl
@[simp] theorem setInst_im (n : Nat) (i : Inst) (s : State) : (setInst n i s).im = { s.im with insts := put n i s.im.insts } := rfl
@[simp] theorem setInst_ops (n : Nat) (i : Inst) (s : State) : (setInst n i s).ops = s.ops := rfl
@[simp] theorem setInst_nextOp (n : Nat) (i : Inst) (s : State) : (setInst n i s).nextOp = s.nextOp := rfl
@[simp] theorem setInst_kv (n : Nat) (i : Inst) (s : State) : (setInst n i s).kv = s.kv := rfl
@[simp] theorem setInst_bufs (n : Nat) (i : Inst) (s : State) : (setInst n i s).bufs = s.bufs := rfl
@[simp] theorem setInst_ecl (n : Nat) (i : Inst) (s : State) : (setInst n i s).ecl = s.ecl := rfl
@[simp] theorem setInst_mem (n : Nat) (i : Inst) (s : State) : (setInst n i s).mem = s.mem := rfl
@[simp] theorem setInst_sup (n : Nat) (i : Inst) (s : State) : (setInst n i s).sup = s.sup := rfl
@[simp] theorem setInst_eng (n : Nat) (i : Inst) (s : State) : (setInst n i s).eng = s.eng := rfl
@[simp] theorem setInst_ports (n : Nat) (i : Inst) (s : State) : (setInst n i s).ports = s.ports := rfl
@[simp] theorem setInst_hf (n : Nat) (i : Inst) (s : State) : (setInst n i s).hf = s.hf := rfl
@[simp] theorem setInst_stf (n : Nat) (i : Inst) (s : State) : (setInst n i s).stf = s.stf := rfl
@[simp] theorem setInst_cus (n : Nat) (i : Inst) (s : State) : (setInst n i s).cus = s.cus := rfl
@[simp] theorem setInst_grp (n : Nat) (i : Inst) (s : State) : (setInst n i s).grp = s.grp := rfl
@[simp] theorem setInst_fx (n : Nat) (i : Inst) (s : State) : (setInst n i s).fx = s.fx := rfl
@[simp] theorem setInst_hostMem (n : Nat) (i : Inst) (s : State) : (setInst n i s).hostMem = s.hostMem := rfl
@[simp] theorem setInst_bufMem (n : Nat) (i : Inst) (s : State) : (setInst n i s).bufMem = s.bufMem := rfl
@[simp] theorem setInst_outbox (n : Nat) (i : Inst) (s : State) : (setInst n i s).outbox = s.outbox := rfl
@[simp] theorem setInst_pending (n : Nat) (i : Inst) (s : State) : (setInst n i s).pending = s.pending := rfl

/-! `updInst` writes `im`. -/
@[simp] theorem updInst_beat (n : Nat) (f : Inst → Inst) (s : State) : (updInst n f s).beat = s.beat := rfl
@[simp] theorem updInst_fresh (n : Nat) (f : Inst → Inst) (s : State) : (updInst n f s).fresh = s.fresh := rfl
@[simp] theorem updInst_glb (n : Nat) (f : Inst → Inst) (s : State) : (updInst n f s).glb = s.glb := rfl
@[simp] theorem updInst_regs (n : Nat) (f : Inst → Inst) (s : State) : (updInst n f s).regs = s.regs := rfl
@[simp] theorem updInst_hp (n : Nat) (f : Inst → Inst) (s : State) : (updInst n f s).hp = s.hp := rfl
@[simp] theorem updInst_qm (n : Nat) (f : Inst → Inst) (s : State) : (updInst n f s).qm = s.qm := rfl
@[simp] theorem updInst_im (n : Nat) (f : Inst → Inst) (s : State) : (updInst n f s).im = { s.im with insts := put n (f (instOf s n)) s.im.insts } := rfl
@[simp] theorem updInst_ops (n : Nat) (f : Inst → Inst) (s : State) : (updInst n f s).ops = s.ops := rfl
@[simp] theorem updInst_nextOp (n : Nat) (f : Inst → Inst) (s : State) : (updInst n f s).nextOp = s.nextOp := rfl
@[simp] theorem updInst_kv (n : Nat) (f : Inst → Inst) (s : State) : (updInst n f s).kv = s.kv := rfl
@[simp] theorem updInst_bufs (n : Nat) (f : Inst → Inst) (s : State) : (updInst n f s).bufs = s.bufs := rfl
@[simp] theorem updInst_ecl (n : Nat) (f : Inst → Inst) (s : State) : (updInst n f s).ecl = s.ecl := rfl
@[simp] theorem updInst_mem (n : Nat) (f : Inst → Inst) (s : State) : (updInst n f s).mem = s.mem := rfl
@[simp] theorem updInst_sup (n : Nat) (f : Inst → Inst) (s : State) : (updInst n f s).sup = s.sup := rfl
@[simp] theorem updInst_eng (n : Nat) (f : Inst → Inst) (s : State) : (updInst n f s).eng = s.eng := rfl
@[simp] theorem updInst_ports (n : Nat) (f : Inst → Inst) (s : State) : (updInst n f s).ports = s.ports := rfl
@[simp] theorem updInst_hf (n : Nat) (f : Inst → Inst) (s : State) : (updInst n f s).hf = s.hf := rfl
@[simp] theorem updInst_stf (n : Nat) (f : Inst → Inst) (s : State) : (updInst n f s).stf = s.stf := rfl
@[simp] theorem updInst_cus (n : Nat) (f : Inst → Inst) (s : State) : (updInst n f s).cus = s.cus := rfl
@[simp] theorem updInst_grp (n : Nat) (f : Inst → Inst) (s : State) : (updInst n f s).grp = s.grp := rfl
@[simp] theorem updInst_fx (n : Nat) (f : Inst → Inst) (s : State) : (updInst n f s).fx = s.fx := rfl
@[simp] theorem updInst_hostMem (n : Nat) (f : Inst → Inst) (s : State) : (updInst n f s).hostMem = s.hostMem := rfl
@[simp] theorem updInst_bufMem (n : Nat) (f : Inst → Inst) (s : State) : (updInst n f s).bufMem = s.bufMem := rfl
@[simp] theorem updInst_outbox (n : Nat) (f : Inst → Inst) (s : State) : (updInst n f s).outbox = s.outbox := rfl
@[simp] theorem updInst_pending (n : Nat) (f : Inst → Inst) (s : State) : (updInst n f s).pending = s.pending := rfl

/-! `setReg` writes `regs`. -/
@[simp] theorem setReg_beat (off : Nat) (w : Word) (s : State) : (setReg off w s).beat = s.beat := rfl
@[simp] theorem setReg_fresh (off : Nat) (w : Word) (s : State) : (setReg off w s).fresh = s.fresh := rfl
@[simp] theorem setReg_glb (off : Nat) (w : Word) (s : State) : (setReg off w s).glb = s.glb := rfl
@[simp] theorem setReg_regs (off : Nat) (w : Word) (s : State) : (setReg off w s).regs = put off w s.regs := rfl
@[simp] theorem setReg_hp (off : Nat) (w : Word) (s : State) : (setReg off w s).hp = s.hp := rfl
@[simp] theorem setReg_qm (off : Nat) (w : Word) (s : State) : (setReg off w s).qm = s.qm := rfl
@[simp] theorem setReg_im (off : Nat) (w : Word) (s : State) : (setReg off w s).im = s.im := rfl
@[simp] theorem setReg_ops (off : Nat) (w : Word) (s : State) : (setReg off w s).ops = s.ops := rfl
@[simp] theorem setReg_nextOp (off : Nat) (w : Word) (s : State) : (setReg off w s).nextOp = s.nextOp := rfl
@[simp] theorem setReg_kv (off : Nat) (w : Word) (s : State) : (setReg off w s).kv = s.kv := rfl
@[simp] theorem setReg_bufs (off : Nat) (w : Word) (s : State) : (setReg off w s).bufs = s.bufs := rfl
@[simp] theorem setReg_ecl (off : Nat) (w : Word) (s : State) : (setReg off w s).ecl = s.ecl := rfl
@[simp] theorem setReg_mem (off : Nat) (w : Word) (s : State) : (setReg off w s).mem = s.mem := rfl
@[simp] theorem setReg_sup (off : Nat) (w : Word) (s : State) : (setReg off w s).sup = s.sup := rfl
@[simp] theorem setReg_eng (off : Nat) (w : Word) (s : State) : (setReg off w s).eng = s.eng := rfl
@[simp] theorem setReg_ports (off : Nat) (w : Word) (s : State) : (setReg off w s).ports = s.ports := rfl
@[simp] theorem setReg_hf (off : Nat) (w : Word) (s : State) : (setReg off w s).hf = s.hf := rfl
@[simp] theorem setReg_stf (off : Nat) (w : Word) (s : State) : (setReg off w s).stf = s.stf := rfl
@[simp] theorem setReg_cus (off : Nat) (w : Word) (s : State) : (setReg off w s).cus = s.cus := rfl
@[simp] theorem setReg_grp (off : Nat) (w : Word) (s : State) : (setReg off w s).grp = s.grp := rfl
@[simp] theorem setReg_fx (off : Nat) (w : Word) (s : State) : (setReg off w s).fx = s.fx := rfl
@[simp] theorem setReg_hostMem (off : Nat) (w : Word) (s : State) : (setReg off w s).hostMem = s.hostMem := rfl
@[simp] theorem setReg_bufMem (off : Nat) (w : Word) (s : State) : (setReg off w s).bufMem = s.bufMem := rfl
@[simp] theorem setReg_outbox (off : Nat) (w : Word) (s : State) : (setReg off w s).outbox = s.outbox := rfl
@[simp] theorem setReg_pending (off : Nat) (w : Word) (s : State) : (setReg off w s).pending = s.pending := rfl

/-! `updOp` writes `ops`. -/
@[simp] theorem updOp_beat (id : Nat) (f : Op → Op) (s : State) : (updOp id f s).beat = s.beat := rfl
@[simp] theorem updOp_fresh (id : Nat) (f : Op → Op) (s : State) : (updOp id f s).fresh = s.fresh := rfl
@[simp] theorem updOp_glb (id : Nat) (f : Op → Op) (s : State) : (updOp id f s).glb = s.glb := rfl
@[simp] theorem updOp_regs (id : Nat) (f : Op → Op) (s : State) : (updOp id f s).regs = s.regs := rfl
@[simp] theorem updOp_hp (id : Nat) (f : Op → Op) (s : State) : (updOp id f s).hp = s.hp := rfl
@[simp] theorem updOp_qm (id : Nat) (f : Op → Op) (s : State) : (updOp id f s).qm = s.qm := rfl
@[simp] theorem updOp_im (id : Nat) (f : Op → Op) (s : State) : (updOp id f s).im = s.im := rfl
@[simp] theorem updOp_ops (id : Nat) (f : Op → Op) (s : State) : (updOp id f s).ops = s.ops.map (fun o => if o.id = id then f o else o) := rfl
@[simp] theorem updOp_nextOp (id : Nat) (f : Op → Op) (s : State) : (updOp id f s).nextOp = s.nextOp := rfl
@[simp] theorem updOp_kv (id : Nat) (f : Op → Op) (s : State) : (updOp id f s).kv = s.kv := rfl
@[simp] theorem updOp_bufs (id : Nat) (f : Op → Op) (s : State) : (updOp id f s).bufs = s.bufs := rfl
@[simp] theorem updOp_ecl (id : Nat) (f : Op → Op) (s : State) : (updOp id f s).ecl = s.ecl := rfl
@[simp] theorem updOp_mem (id : Nat) (f : Op → Op) (s : State) : (updOp id f s).mem = s.mem := rfl
@[simp] theorem updOp_sup (id : Nat) (f : Op → Op) (s : State) : (updOp id f s).sup = s.sup := rfl
@[simp] theorem updOp_eng (id : Nat) (f : Op → Op) (s : State) : (updOp id f s).eng = s.eng := rfl
@[simp] theorem updOp_ports (id : Nat) (f : Op → Op) (s : State) : (updOp id f s).ports = s.ports := rfl
@[simp] theorem updOp_hf (id : Nat) (f : Op → Op) (s : State) : (updOp id f s).hf = s.hf := rfl
@[simp] theorem updOp_stf (id : Nat) (f : Op → Op) (s : State) : (updOp id f s).stf = s.stf := rfl
@[simp] theorem updOp_cus (id : Nat) (f : Op → Op) (s : State) : (updOp id f s).cus = s.cus := rfl
@[simp] theorem updOp_grp (id : Nat) (f : Op → Op) (s : State) : (updOp id f s).grp = s.grp := rfl
@[simp] theorem updOp_fx (id : Nat) (f : Op → Op) (s : State) : (updOp id f s).fx = s.fx := rfl
@[simp] theorem updOp_hostMem (id : Nat) (f : Op → Op) (s : State) : (updOp id f s).hostMem = s.hostMem := rfl
@[simp] theorem updOp_bufMem (id : Nat) (f : Op → Op) (s : State) : (updOp id f s).bufMem = s.bufMem := rfl
@[simp] theorem updOp_outbox (id : Nat) (f : Op → Op) (s : State) : (updOp id f s).outbox = s.outbox := rfl
@[simp] theorem updOp_pending (id : Nat) (f : Op → Op) (s : State) : (updOp id f s).pending = s.pending := rfl

/-! `dropOp` writes `ops`. -/
@[simp] theorem dropOp_beat (id : Nat) (s : State) : (dropOp id s).beat = s.beat := rfl
@[simp] theorem dropOp_fresh (id : Nat) (s : State) : (dropOp id s).fresh = s.fresh := rfl
@[simp] theorem dropOp_glb (id : Nat) (s : State) : (dropOp id s).glb = s.glb := rfl
@[simp] theorem dropOp_regs (id : Nat) (s : State) : (dropOp id s).regs = s.regs := rfl
@[simp] theorem dropOp_hp (id : Nat) (s : State) : (dropOp id s).hp = s.hp := rfl
@[simp] theorem dropOp_qm (id : Nat) (s : State) : (dropOp id s).qm = s.qm := rfl
@[simp] theorem dropOp_im (id : Nat) (s : State) : (dropOp id s).im = s.im := rfl
@[simp] theorem dropOp_ops (id : Nat) (s : State) : (dropOp id s).ops = s.ops.filter (·.id != id) := rfl
@[simp] theorem dropOp_nextOp (id : Nat) (s : State) : (dropOp id s).nextOp = s.nextOp := rfl
@[simp] theorem dropOp_kv (id : Nat) (s : State) : (dropOp id s).kv = s.kv := rfl
@[simp] theorem dropOp_bufs (id : Nat) (s : State) : (dropOp id s).bufs = s.bufs := rfl
@[simp] theorem dropOp_ecl (id : Nat) (s : State) : (dropOp id s).ecl = s.ecl := rfl
@[simp] theorem dropOp_mem (id : Nat) (s : State) : (dropOp id s).mem = s.mem := rfl
@[simp] theorem dropOp_sup (id : Nat) (s : State) : (dropOp id s).sup = s.sup := rfl
@[simp] theorem dropOp_eng (id : Nat) (s : State) : (dropOp id s).eng = s.eng := rfl
@[simp] theorem dropOp_ports (id : Nat) (s : State) : (dropOp id s).ports = s.ports := rfl
@[simp] theorem dropOp_hf (id : Nat) (s : State) : (dropOp id s).hf = s.hf := rfl
@[simp] theorem dropOp_stf (id : Nat) (s : State) : (dropOp id s).stf = s.stf := rfl
@[simp] theorem dropOp_cus (id : Nat) (s : State) : (dropOp id s).cus = s.cus := rfl
@[simp] theorem dropOp_grp (id : Nat) (s : State) : (dropOp id s).grp = s.grp := rfl
@[simp] theorem dropOp_fx (id : Nat) (s : State) : (dropOp id s).fx = s.fx := rfl
@[simp] theorem dropOp_hostMem (id : Nat) (s : State) : (dropOp id s).hostMem = s.hostMem := rfl
@[simp] theorem dropOp_bufMem (id : Nat) (s : State) : (dropOp id s).bufMem = s.bufMem := rfl
@[simp] theorem dropOp_outbox (id : Nat) (s : State) : (dropOp id s).outbox = s.outbox := rfl
@[simp] theorem dropOp_pending (id : Nat) (s : State) : (dropOp id s).pending = s.pending := rfl

/-! `send` writes `outbox`. -/
@[simp] theorem send_beat (m : Sent) (s : State) : (send m s).beat = s.beat := rfl
@[simp] theorem send_fresh (m : Sent) (s : State) : (send m s).fresh = s.fresh := rfl
@[simp] theorem send_glb (m : Sent) (s : State) : (send m s).glb = s.glb := rfl
@[simp] theorem send_regs (m : Sent) (s : State) : (send m s).regs = s.regs := rfl
@[simp] theorem send_hp (m : Sent) (s : State) : (send m s).hp = s.hp := rfl
@[simp] theorem send_qm (m : Sent) (s : State) : (send m s).qm = s.qm := rfl
@[simp] theorem send_im (m : Sent) (s : State) : (send m s).im = s.im := rfl
@[simp] theorem send_ops (m : Sent) (s : State) : (send m s).ops = s.ops := rfl
@[simp] theorem send_nextOp (m : Sent) (s : State) : (send m s).nextOp = s.nextOp := rfl
@[simp] theorem send_kv (m : Sent) (s : State) : (send m s).kv = s.kv := rfl
@[simp] theorem send_bufs (m : Sent) (s : State) : (send m s).bufs = s.bufs := rfl
@[simp] theorem send_ecl (m : Sent) (s : State) : (send m s).ecl = s.ecl := rfl
@[simp] theorem send_mem (m : Sent) (s : State) : (send m s).mem = s.mem := rfl
@[simp] theorem send_sup (m : Sent) (s : State) : (send m s).sup = s.sup := rfl
@[simp] theorem send_eng (m : Sent) (s : State) : (send m s).eng = s.eng := rfl
@[simp] theorem send_ports (m : Sent) (s : State) : (send m s).ports = s.ports := rfl
@[simp] theorem send_hf (m : Sent) (s : State) : (send m s).hf = s.hf := rfl
@[simp] theorem send_stf (m : Sent) (s : State) : (send m s).stf = s.stf := rfl
@[simp] theorem send_cus (m : Sent) (s : State) : (send m s).cus = s.cus := rfl
@[simp] theorem send_grp (m : Sent) (s : State) : (send m s).grp = s.grp := rfl
@[simp] theorem send_fx (m : Sent) (s : State) : (send m s).fx = s.fx := rfl
@[simp] theorem send_hostMem (m : Sent) (s : State) : (send m s).hostMem = s.hostMem := rfl
@[simp] theorem send_bufMem (m : Sent) (s : State) : (send m s).bufMem = s.bufMem := rfl
@[simp] theorem send_outbox (m : Sent) (s : State) : (send m s).outbox = s.outbox ++ [m] := rfl
@[simp] theorem send_pending (m : Sent) (s : State) : (send m s).pending = s.pending := rfl

/-! `setLeases` writes `mem`. -/
@[simp] theorem setLeases_beat (bs : List Nat) (l : Lease) (s : State) : (setLeases bs l s).beat = s.beat := rfl
@[simp] theorem setLeases_fresh (bs : List Nat) (l : Lease) (s : State) : (setLeases bs l s).fresh = s.fresh := rfl
@[simp] theorem setLeases_glb (bs : List Nat) (l : Lease) (s : State) : (setLeases bs l s).glb = s.glb := rfl
@[simp] theorem setLeases_regs (bs : List Nat) (l : Lease) (s : State) : (setLeases bs l s).regs = s.regs := rfl
@[simp] theorem setLeases_hp (bs : List Nat) (l : Lease) (s : State) : (setLeases bs l s).hp = s.hp := rfl
@[simp] theorem setLeases_qm (bs : List Nat) (l : Lease) (s : State) : (setLeases bs l s).qm = s.qm := rfl
@[simp] theorem setLeases_im (bs : List Nat) (l : Lease) (s : State) : (setLeases bs l s).im = s.im := rfl
@[simp] theorem setLeases_ops (bs : List Nat) (l : Lease) (s : State) : (setLeases bs l s).ops = s.ops := rfl
@[simp] theorem setLeases_nextOp (bs : List Nat) (l : Lease) (s : State) : (setLeases bs l s).nextOp = s.nextOp := rfl
@[simp] theorem setLeases_kv (bs : List Nat) (l : Lease) (s : State) : (setLeases bs l s).kv = s.kv := rfl
@[simp] theorem setLeases_bufs (bs : List Nat) (l : Lease) (s : State) : (setLeases bs l s).bufs = s.bufs := rfl
@[simp] theorem setLeases_ecl (bs : List Nat) (l : Lease) (s : State) : (setLeases bs l s).ecl = s.ecl := rfl
@[simp] theorem setLeases_mem (bs : List Nat) (l : Lease) (s : State) : (setLeases bs l s).mem = { s.mem with leases := bs.foldl (fun ls b => setAt ls b l) s.mem.leases } := rfl
@[simp] theorem setLeases_sup (bs : List Nat) (l : Lease) (s : State) : (setLeases bs l s).sup = s.sup := rfl
@[simp] theorem setLeases_eng (bs : List Nat) (l : Lease) (s : State) : (setLeases bs l s).eng = s.eng := rfl
@[simp] theorem setLeases_ports (bs : List Nat) (l : Lease) (s : State) : (setLeases bs l s).ports = s.ports := rfl
@[simp] theorem setLeases_hf (bs : List Nat) (l : Lease) (s : State) : (setLeases bs l s).hf = s.hf := rfl
@[simp] theorem setLeases_stf (bs : List Nat) (l : Lease) (s : State) : (setLeases bs l s).stf = s.stf := rfl
@[simp] theorem setLeases_cus (bs : List Nat) (l : Lease) (s : State) : (setLeases bs l s).cus = s.cus := rfl
@[simp] theorem setLeases_grp (bs : List Nat) (l : Lease) (s : State) : (setLeases bs l s).grp = s.grp := rfl
@[simp] theorem setLeases_fx (bs : List Nat) (l : Lease) (s : State) : (setLeases bs l s).fx = s.fx := rfl
@[simp] theorem setLeases_hostMem (bs : List Nat) (l : Lease) (s : State) : (setLeases bs l s).hostMem = s.hostMem := rfl
@[simp] theorem setLeases_bufMem (bs : List Nat) (l : Lease) (s : State) : (setLeases bs l s).bufMem = s.bufMem := rfl
@[simp] theorem setLeases_outbox (bs : List Nat) (l : Lease) (s : State) : (setLeases bs l s).outbox = s.outbox := rfl
@[simp] theorem setLeases_pending (bs : List Nat) (l : Lease) (s : State) : (setLeases bs l s).pending = s.pending := rfl

/-! `setArbiter` writes `im`. -/
@[simp] theorem setArbiter_beat (cls : Nat) (a : Arbiter) (s : State) : (setArbiter cls a s).beat = s.beat := rfl
@[simp] theorem setArbiter_fresh (cls : Nat) (a : Arbiter) (s : State) : (setArbiter cls a s).fresh = s.fresh := rfl
@[simp] theorem setArbiter_glb (cls : Nat) (a : Arbiter) (s : State) : (setArbiter cls a s).glb = s.glb := rfl
@[simp] theorem setArbiter_regs (cls : Nat) (a : Arbiter) (s : State) : (setArbiter cls a s).regs = s.regs := rfl
@[simp] theorem setArbiter_hp (cls : Nat) (a : Arbiter) (s : State) : (setArbiter cls a s).hp = s.hp := rfl
@[simp] theorem setArbiter_qm (cls : Nat) (a : Arbiter) (s : State) : (setArbiter cls a s).qm = s.qm := rfl
@[simp] theorem setArbiter_im (cls : Nat) (a : Arbiter) (s : State) : (setArbiter cls a s).im = { s.im with arbs := setAt s.im.arbs (cls - 1) a } := rfl
@[simp] theorem setArbiter_ops (cls : Nat) (a : Arbiter) (s : State) : (setArbiter cls a s).ops = s.ops := rfl
@[simp] theorem setArbiter_nextOp (cls : Nat) (a : Arbiter) (s : State) : (setArbiter cls a s).nextOp = s.nextOp := rfl
@[simp] theorem setArbiter_kv (cls : Nat) (a : Arbiter) (s : State) : (setArbiter cls a s).kv = s.kv := rfl
@[simp] theorem setArbiter_bufs (cls : Nat) (a : Arbiter) (s : State) : (setArbiter cls a s).bufs = s.bufs := rfl
@[simp] theorem setArbiter_ecl (cls : Nat) (a : Arbiter) (s : State) : (setArbiter cls a s).ecl = s.ecl := rfl
@[simp] theorem setArbiter_mem (cls : Nat) (a : Arbiter) (s : State) : (setArbiter cls a s).mem = s.mem := rfl
@[simp] theorem setArbiter_sup (cls : Nat) (a : Arbiter) (s : State) : (setArbiter cls a s).sup = s.sup := rfl
@[simp] theorem setArbiter_eng (cls : Nat) (a : Arbiter) (s : State) : (setArbiter cls a s).eng = s.eng := rfl
@[simp] theorem setArbiter_ports (cls : Nat) (a : Arbiter) (s : State) : (setArbiter cls a s).ports = s.ports := rfl
@[simp] theorem setArbiter_hf (cls : Nat) (a : Arbiter) (s : State) : (setArbiter cls a s).hf = s.hf := rfl
@[simp] theorem setArbiter_stf (cls : Nat) (a : Arbiter) (s : State) : (setArbiter cls a s).stf = s.stf := rfl
@[simp] theorem setArbiter_cus (cls : Nat) (a : Arbiter) (s : State) : (setArbiter cls a s).cus = s.cus := rfl
@[simp] theorem setArbiter_grp (cls : Nat) (a : Arbiter) (s : State) : (setArbiter cls a s).grp = s.grp := rfl
@[simp] theorem setArbiter_fx (cls : Nat) (a : Arbiter) (s : State) : (setArbiter cls a s).fx = s.fx := rfl
@[simp] theorem setArbiter_hostMem (cls : Nat) (a : Arbiter) (s : State) : (setArbiter cls a s).hostMem = s.hostMem := rfl
@[simp] theorem setArbiter_bufMem (cls : Nat) (a : Arbiter) (s : State) : (setArbiter cls a s).bufMem = s.bufMem := rfl
@[simp] theorem setArbiter_outbox (cls : Nat) (a : Arbiter) (s : State) : (setArbiter cls a s).outbox = s.outbox := rfl
@[simp] theorem setArbiter_pending (cls : Nat) (a : Arbiter) (s : State) : (setArbiter cls a s).pending = s.pending := rfl

end Sys2Proof.Machine
end

