-- ==== Sys2Proof/Laws/Dispatch.lean ====
section
/-! SUPPORT. What a dispatch does, said once: the result of an engine operation that meets no check is parked, and a management operation on
its own completes on its ring. -/
namespace Sys2Proof.Machine

/-! #### What the result of an operation reads -/

theorem applyKv_drbgs (v : Vault) (d : List Drbg) (e : KvEffect) : applyKv { v with drbgs := d } e = { applyKv v e with drbgs := d } := by
  cases e with
  | create n k =>
    by_cases h : (lookup n v.slots).map (·.state) = some .damaged
    · simp [applyKv, slot?, h]
    · simp [applyKv, slot?, h, putSlot]
  | setAttr n k =>
    simp only [applyKv, putSlot, setAttrSlot, persistSlot, slot?, lookup_put_self]
    split <;> rfl
  | persist n => simp only [applyKv, persistSlot, slot?]; cases lookup n v.slots <;> rfl
  | _ => rfl

theorem foldl_applyKv_drbgs (d : List Drbg) : ∀ (es : List KvEffect) (v : Vault),
    es.foldl applyKv { v with drbgs := d } = { es.foldl applyKv v with drbgs := d }
  | [], _ => rfl
  | e :: es, v => by simp only [List.foldl_cons]; rw [applyKv_drbgs, foldl_applyKv_drbgs d es]

/-- A state as an operation's result reads it is the state before its dispatch. -/
def sameReads (s t : State) (o p : Op) : Prop :=
  t.qm = s.qm ∧ t.bufs = s.bufs ∧ t.bufMem = s.bufMem ∧ (∃ d, t.kv = { s.kv with drbgs := d }) ∧ p.id = o.id ∧ p.ring = o.ring ∧ p.desc = o.desc
    ∧ p.inst = o.inst

variable {s t : State} {o p : Op}

theorem groupOf_same (h : sameReads s t o p) : groupOf t p = groupOf s o := by
  obtain ⟨h1, -, -, -, h2, h3, -, -⟩ := h
  simp only [groupOf, ring?, h1, h2, h3]

theorem viewOf_same (h : sameReads s t o p) : ∃ d, viewOf t p = { viewOf s o with drbgs := d } := by
  have hg := groupOf_same h
  obtain ⟨-, -, -, ⟨d, h1⟩, -⟩ := h
  simp only [viewOf, hg, h1]
  cases groupOf s o with
  | none => exact ⟨d, rfl⟩
  | some g => exact ⟨d, foldl_applyKv_drbgs d _ _⟩

theorem resolveKey_same (h : sameReads s t o p) (k : Nat) : resolveKey t p k = resolveKey s o k := by
  simp only [resolveKey, groupOf_same h]

theorem keyOf_same (h : sameReads s t o p) (k : Nat) : keyOf t p k = keyOf s o k := by
  obtain ⟨d, hd⟩ := viewOf_same h
  simp only [keyOf, resolveKey_same h, hd]; rfl

theorem keyPriv_same (h : sameReads s t o p) (k : Nat) : keyPriv t p k = keyPriv s o k := by simp only [keyPriv, keyOf_same h]
theorem keyPub_same (h : sameReads s t o p) (k : Nat) : keyPub t p k = keyPub s o k := by simp only [keyPub, keyOf_same h]
theorem target_same (h : sameReads s t o p) : target t p = target s o := by
  simp only [target, resolveKey_same h, h.2.2.2.2.2.2.1]

theorem childLineage_same (h : sameReads s t o p) (n : Nat) : childLineage (viewOf t p) n = childLineage (viewOf s o) n := by
  obtain ⟨d, hd⟩ := viewOf_same h
  simp only [hd]; rfl

theorem operand_same (h : sameReads s t o p) (r l : Nat) (host : Bytes) : operand t p r l host = operand s o r l host := by
  obtain ⟨-, h1, h2, -, -, -, h3, -⟩ := h
  simp only [operand, readBuf, h2, h3]

theorem inBytes_same (h : sameReads s t o p) (i : OpInput) : inBytes t p i = inBytes s o i := by
  simp only [inBytes, operand_same h, h.2.2.2.2.2.2.1]
theorem auxBytes_same (h : sameReads s t o p) (i : OpInput) : auxBytes t p i = auxBytes s o i := by
  simp only [auxBytes, operand_same h, h.2.2.2.2.2.2.1]
theorem expBytes_same (h : sameReads s t o p) (i : OpInput) (n : Nat) : expBytes t p i n = expBytes s o i n := by
  simp only [expBytes, operand_same h, h.2.2.2.2.2.2.1]
theorem dataFails_same (h : sameReads s t o p) (u : Uses) (i : OpInput) : dataFails u t p i = dataFails u s o i := by
  simp only [dataFails, readsHost, operandPoison, operand_same h, h.2.2.2.2.2.2.1]

/-! #### Dispatch -/

@[simp] theorem dispatchedOp_desc (s : State) (o : Op) (n : Nat) (i : OpInput) : (dispatchedOp s o n i).desc = o.desc := rfl
@[simp] theorem dispatchedOp_id (s : State) (o : Op) (n : Nat) (i : OpInput) : (dispatchedOp s o n i).id = o.id := rfl
@[simp] theorem dispatchedOp_ring (s : State) (o : Op) (n : Nat) (i : OpInput) : (dispatchedOp s o n i).ring = o.ring := rfl
@[simp] theorem dispatchedOp_inst (s : State) (o : Op) (n : Nat) (i : OpInput) : (dispatchedOp s o n i).inst = o.inst := rfl

/-- The draws of a dispatch, counted. -/
def drawn (sp : OpSpec) (s : State) (o : Op) : State :=
  if sp.random s o then (drbgsOf o).foldl (fun t k => countDraw k t) s else s

/-- Counting a draw changes nothing but the counts. -/
theorem foldl_countDraw (s : State) : ∀ l : List Nat, ∃ d, l.foldl (fun t k => countDraw k t) s = { s with kv := { s.kv with drbgs := d } } := by
  intro l
  induction l generalizing s with
  | nil => exact ⟨_, rfl⟩
  | cons k l ih =>
    obtain ⟨d, hd⟩ := ih (countDraw k s)
    exact ⟨d, by simpa [countDraw, updKv] using hd⟩

theorem drawn_eq (sp : OpSpec) (s : State) (o : Op) : ∃ d, drawn sp s o = { s with kv := { s.kv with drbgs := d } } := by
  simp only [drawn]; split
  · exact foldl_countDraw s _
  · exact ⟨_, rfl⟩

/-- The state an engine's result is computed in: the operation's record says it runs, and its draws have been counted. -/
def runState (sp : OpSpec) (s : State) (o : Op) (i : OpInput) : State :=
  updOp o.id (fun _ => dispatchedOp (drawn sp s o) o (sp.slot (drawn sp s o) o i) i) (drawn sp s o)

def runOp (sp : OpSpec) (s : State) (o : Op) (i : OpInput) : Op := dispatchedOp (drawn sp s o) o (sp.slot (drawn sp s o) o i) i

theorem drawn_same (sp : OpSpec) (s : State) (o p : Op) (h : p.id = o.id ∧ p.ring = o.ring ∧ p.desc = o.desc ∧ p.inst = o.inst) :
    sameReads s (drawn sp s o) o p := by
  obtain ⟨d, hd⟩ := drawn_eq sp s o
  rw [hd]; exact ⟨rfl, rfl, rfl, ⟨d, rfl⟩, h.1, h.2.1, h.2.2.1, h.2.2.2⟩

theorem runState_same (sp : OpSpec) (s : State) (o : Op) (i : OpInput) : sameReads s (runState sp s o i) o (runOp sp s o i) := by
  obtain ⟨d, hd⟩ := drawn_eq sp s o
  simp only [runState, runOp, hd]
  exact ⟨rfl, rfl, rfl, ⟨d, rfl⟩, rfl, rfl, rfl, rfl⟩

/-- Operations by number after one of them is replaced. -/
theorem op?_replace (s : State) (o p : Op) (h : op? s o.id = some o) (hp : p.id = o.id) (j : Nat) :
    op? (updOp o.id (fun _ => p) s) j = if j = o.id then some p else op? s j := by
  have key : ∀ l : List Op, l.find? (fun x => x.id == o.id) = some o →
      (l.map (fun x => if x.id = o.id then p else x)).find? (fun x => x.id == j)
        = if j = o.id then some p else l.find? (fun x => x.id == j) := by
    intro l
    induction l with
    | nil => intro h; cases h
    | cons x l ih =>
      intro h
      by_cases hx : x.id = o.id
      · by_cases hj : j = o.id
        · simp [hx, hp, hj]
        · have h2 : (o.id == j) = false := by simp [Ne.symm hj]
          simp only [List.map_cons, hx, if_true, List.find?_cons, hp, h2, if_neg hj]
          clear ih h
          induction l with
          | nil => rfl
          | cons y l ih2 =>
            by_cases hy : y.id = o.id
            · simpa [hy, hp, h2] using ih2
            · simp only [List.map_cons, hy, if_false, List.find?_cons]
              cases y.id == j
              · exact ih2
              · rfl
      · have h1 : (x.id == o.id) = false := by simpa using hx
        simp only [List.find?_cons, h1] at h
        simp only [List.map_cons, hx, if_false, List.find?_cons]
        by_cases hj : j = o.id
        · subst hj; rw [h1]; exact ih h
        · cases x.id == j
          · exact ih h
          · simp [hj]
  exact key s.ops h

theorem op?_runState (sp : OpSpec) (s : State) (o : Op) (i : OpInput) (j : Nat) (h : op? s o.id = some o) :
    op? (runState sp s o i) j = if j = o.id then some (runOp sp s o i) else op? s j := by
  obtain ⟨d, hd⟩ := drawn_eq sp s o
  have : op? (drawn sp s o) o.id = some o := by rw [hd]; exact h
  have hj := op?_replace (drawn sp s o) o (runOp sp s o i) this rfl j
  have hs : op? (drawn sp s o) j = op? s j := by rw [hd]; rfl
  rw [hs] at hj; exact hj

/-- The digests a dispatched operation appends, as the dispatch reads them. -/
def runDigests (sp : OpSpec) (s : State) (o : Op) (i : OpInput) (none_ : Bool) : Bytes :=
  if snooping sp o.desc && !none_ then
    maskOut o.desc.param ((inBytes (drawn sp s o) (runOp sp s o i) i).drop (sp.msgFrom (drawn sp s o) (runOp sp s o i) i))
  else []

/-- What a long-number unit takes over changes no operation's record. -/
@[simp] theorem op?_takeWork (o : Op) (c : Option Nat) (s : State) (j : Nat) : op? (takeWork o c s) j = op? s j := by
  simp only [takeWork]; split
  · rfl
  · split <;> rfl

/-- And nothing but the owner and the working store of the unit, and the count of free values. -/
theorem takeWork_eq (o : Op) (c : Option Nat) (s : State) :
    ∃ f own work, takeWork o c s = { s with fresh := f, eng := { s.eng with lnOwner := own, lnWork := work } } := by
  simp only [takeWork]; split
  · exact ⟨_, _, _, rfl⟩
  · split <;> exact ⟨_, _, _, rfl⟩

@[simp] theorem op?_stageMember (o : Op) (r : Run) (s : State) (j : Nat) : op? (stageMember o r s) j = op? s j := rfl

/-- A dispatch whose result meets no failure: the result is parked. -/
theorem dispatchAs_clear {sp : OpSpec} {s : State} {id : Nat} {i : OpInput} {o : Op} (h : Clear sp s id i o) (hc : opClass o.desc ≠ 0x0F)
    (hrand : ∀ c p, p.desc = o.desc → sp.random c p = sp.random s o) :
    dispatchAs sp id i s =
      let r := sp.run (runState sp s o i) (runOp sp s o i) i
      let x := spoilOverlap (runOp sp s o i) r (runDigests sp s o i r.noDigests)
      let t := updOp id (fun y =>
        { y with parked := parkedOf x.1.fails x.1 x.2, poisonSeen := y.poisonSeen || x.1.fails.contains .poisonConsumed }) x.1.st
      let t := if o.desc.group then stageMember (runOp sp s o i) { x.1 with staged := if x.1.fails.isEmpty then x.1.staged else [] } t else t
      let t := takeWork (runOp sp s o i) x.1.created t
      if x.1.fails.isEmpty then x.1.post t else unAsk id t := by
  have hid := op?_id h.here
  have hpre : o.preFail = [] := by
    have := h.checks; simp only [stage5Fails, sharedFails, List.append_eq_nil_iff] at this; exact this.1.1.1.1.1.1.1
  obtain ⟨d, hdr⟩ := drawn_eq sp s o
  have hr : (sp.random s o && !rngOk s.kv) = false := by
    cases hx : sp.random s o
    · rfl
    · simp [h.random hx]
  have hr' : (sp.random (drawn sp s o) (runOp sp s o i) && !rngOk (drawn sp s o).kv) = false := by
    rw [hrand _ (runOp sp s o i) rfl, hdr]; exact hr
  have hd := dataFails_same (drawn_same sp s o (runOp sp s o i) ⟨rfl, rfl, rfl, rfl⟩) (sp.uses o.desc) i
  rw [h.operands] at hd
  have hk : damageKeys (runOp sp s o i) i = fun t => t := by
    funext t; simp only [damageKeys, h.material.1, h.material.2]; split <;> rfl
  have hf : ∀ (r : Run) (g : Bytes), (spoilOverlap (runOp sp s o i) r g).1.fails = r.fails := by
    intro r g; simp only [spoilOverlap]; split <;> rfl
  simp only [dispatchAs, h.here, h.waits, h.opcode, h.ready, hpre, h.checks, firstPre, leastBy, hc]
  simp only [dispatchEngine, runState, runOp, runDigests, drawn] at hd hr' hk hf ⊢
  rw [← hid]
  simp [h.material.1, h.material.2, hd, hr', when_, hk, hf]

/-- What a dispatch that meets no check leaves, where the result changes no operation's record but its own. -/
theorem dispatch_parks {sp : OpSpec} {s : State} {id : Nat} {i : OpInput} {o : Op} (h : Clear sp s id i o) (hc : opClass o.desc ≠ 0x0F)
    (hrand : ∀ c p, p.desc = o.desc → sp.random c p = sp.random s o) {r : Run} (hr : sp.run (runState sp s o i) (runOp sp s o i) i = r)
    (hfails : r.fails = []) (hpost : ∀ t, r.post t = t) (hops : r.st.ops = (runState sp s o i).ops) :
    ∃ x t, dispatchAs sp id i s = t ∧ op? t id = some x ∧ x.stage = .running ∧ x.dispatch = s.beat
      ∧ x.slot = sp.slot (drawn sp s o) o i
      ∧ x.parked = parkedOf [] (spoilOverlap (runOp sp s o i) r (runDigests sp s o i r.noDigests)).1
          (spoilOverlap (runOp sp s o i) r (runDigests sp s o i r.noDigests)).2
      ∧ (x.desc, x.inPieces, x.outPieces) = (o.desc, o.inPieces, o.outPieces)
      ∧ (∀ j, j ≠ id → op? t j = op? s j)
      ∧ ∃ ops qm f own work, t = { r.st with ops := ops, qm := qm, fresh := f, eng := { r.st.eng with lnOwner := own, lnWork := work } }
          ∧ (o.desc.group = false → qm = r.st.qm) := by
  have hid := op?_id h.here
  subst hid
  have hst : ∀ j, op? r.st j = op? (runState sp s o i) j := by intro j; simp only [op?, hops]
  obtain ⟨x1, x2, hx⟩ : ∃ a b, spoilOverlap (runOp sp s o i) r (runDigests sp s o i r.noDigests) = (a, b) := ⟨_, _, rfl⟩
  have hsp : x1.fails = [] ∧ (∀ t, x1.post t = t) ∧ (∃ f, x1.st = { r.st with fresh := f }) := by
    simp only [spoilOverlap] at hx
    split at hx <;> cases hx
    · exact ⟨hfails, hpost, _, rfl⟩
    · exact ⟨hfails, hpost, _, rfl⟩
  obtain ⟨hf1, hp1, f1, hs1⟩ := hsp
  have key : ∀ j, op? (updOp o.id (fun y =>
        { y with parked := parkedOf x1.fails x1 x2, poisonSeen := y.poisonSeen || x1.fails.contains .poisonConsumed }) x1.st) j
      = if j = o.id then (op? x1.st j).map (fun y =>
        { y with parked := parkedOf x1.fails x1 x2, poisonSeen := y.poisonSeen || x1.fails.contains .poisonConsumed })
        else op? x1.st j := fun j => op?_updOp _ _ _ _ (fun _ => rfl)
  have hst1 : ∀ j, op? x1.st j = op? (runState sp s o i) j := by intro j; rw [hs1, ← hst]; rfl
  have hg : ∀ (b : Bool) (y : Op) (r' : Run) (u : State) (j : Nat), op? (if b then stageMember y r' u else u) j = op? u j := by
    intro b; cases b <;> intros <;> rfl
  have hmain := dispatchAs_clear h hc hrand
  simp only [hr, hx, hp1, hf1, List.isEmpty_nil, if_true] at hmain
  rw [hmain, hx]
  simp only [hf1] at key
  refine ⟨{ runOp sp s o i with parked := parkedOf [] x1 x2, poisonSeen := (runOp sp s o i).poisonSeen || List.contains [] Status.poisonConsumed },
    _, rfl, ?_, ?_⟩
  · rw [op?_takeWork, hg, key, if_pos rfl, hst1, op?_runState sp s o i o.id h.here, if_pos rfl]; rfl
  · refine ⟨rfl, ?_, rfl, rfl, rfl, ?_, ?_⟩
    · obtain ⟨d, hd⟩ := drawn_eq sp s o
      simp only [runOp, dispatchedOp, hd]
    · intro j hj
      rw [op?_takeWork, hg, key, if_neg hj, hst1, op?_runState sp s o i j h.here, if_neg hj]
    · have fin : ∀ (b : Bool) (y z : Op) (r' : Run) (c : Option Nat) (u : State), (∃ ops f, u = { r.st with ops := ops, fresh := f }) →
          ∃ ops qm f own work, takeWork z c (if b then stageMember y r' u else u)
            = { r.st with ops := ops, qm := qm, fresh := f, eng := { r.st.eng with lnOwner := own, lnWork := work } }
            ∧ (b = false → qm = r.st.qm) := by
        intro b y z r' c u ⟨ops, f, hu⟩
        obtain ⟨f', own, work, ht⟩ := takeWork_eq z c (if b then stageMember y r' u else u)
        rw [ht, hu]
        cases b
        · exact ⟨_, _, _, _, _, rfl, fun _ => rfl⟩
        · exact ⟨_, _, _, _, _, rfl, fun h => nomatch h⟩
      exact fin _ _ _ _ _ _ ⟨_, _, by rw [hs1]; rfl⟩

/-- The same in the terms of the claims: the operation runs, and nothing else changes but what every dispatch may move on. -/
theorem dispatch_ran {sp : OpSpec} {s : State} {id : Nat} {i : OpInput} {o : Op} (h : Clear sp s id i o) (hc : opClass o.desc ≠ 0x0F)
    (hrand : ∀ c p, p.desc = o.desc → sp.random c p = sp.random s o) {r : Run} (hr : sp.run (runState sp s o i) (runOp sp s o i) i = r)
    (hfails : r.fails = []) (hpost : ∀ t, r.post t = t) (hops : r.st.ops = (runState sp s o i).ops) (hno : r.noDigests = false)
    {e : Expect} (hslot : sp.slot (drawn sp s o) o i = e.slot)
    (hmsg : snooping sp o.desc = true → sp.msgFrom (drawn sp s o) (runOp sp s o i) i = sp.msgFrom s o i) (hf : e.fail = none)
    (hv : r.verdict = e.verdict ∧ r.out ++ digestsOf sp s o i = e.out ∧ r.opdata = e.opdata ∧ r.effects = e.effects) :
    ∃ t, dispatchAs sp id i s = t ∧ Ran s t id e ∧ (∀ j, j ≠ id → op? t j = op? s j)
      ∧ ∃ ops qm f own work, t = { r.st with ops := ops, qm := qm, fresh := f, eng := { r.st.eng with lnOwner := own, lnWork := work } }
          ∧ (o.desc.group = false → qm = r.st.qm) := by
  obtain ⟨x, t, h1, h2, h3, h4, h5, h6, h7, h8, h9⟩ := dispatch_parks h hc hrand hr hfails hpost hops
  have hd : runDigests sp s o i r.noDigests = digestsOf sp s o i := by
    have hin := inBytes_same (drawn_same sp s o (runOp sp s o i) ⟨rfl, rfl, rfl, rfl⟩) i
    simp only [runDigests, digestsOf, hno, Bool.not_false, Bool.and_true]
    split
    · rename_i hs; rw [hmsg hs, hin]
    · rfl
  obtain ⟨v1, v2, v3, v4⟩ := hv
  have hdir : ∀ n, directOut x n = directOut (runOp sp s o i) n ∧ overlaps x n = overlaps (runOp sp s o i) n := by
    intro n
    obtain ⟨g1, g2, g3⟩ : x.desc = o.desc ∧ x.inPieces = o.inPieces ∧ x.outPieces = o.outPieces := by simpa using h7
    simp only [directOut, overlaps, extents, outTargets, g1, g2, g3, runOp, dispatchedOp]
    exact ⟨trivial, rfl⟩
  rw [hd] at h6
  refine ⟨t, h1, ⟨x, h2, h3, h4, h5.trans hslot, fun _ => ?_, fun st hs => by rw [hf] at hs; cases hs⟩, h8, h9⟩
  simp only [spoilOverlap, v2] at h6
  by_cases hov : (directOut (runOp sp s o i) e.out.length && overlaps (runOp sp s o i) e.out.length) = true
  · simp only [hov, if_true] at h6
    rw [h6]
    refine ⟨rfl, v1, v3, v4, fun hn => ?_, ?_⟩
    · rw [(hdir _).1, (hdir _).2, hov] at hn; cases hn
    · simp [parkedOf, firstSlot, leastBy, freeBytes]
  · simp only [hov, Bool.false_eq_true, if_false] at h6
    rw [h6]
    exact ⟨rfl, v1, v3, v4, fun _ => v2, congrArg List.length v2⟩

/-! #### An operation on its own completes -/

/-- The outcome of an operation on its own is the last of its ring's queue; beside that and its record nothing changes. -/
theorem settle_alone {s : State} {o : Op} {r : Ring} (h : Alone s o r) (c : Completion) :
    settle o c s = pushOut o.ring c (dropOp o.id s) := by
  obtain ⟨h1, h2, h3, -, h5⟩ := h
  have hr : ring? (dropOp o.id s) o.ring = some r := h1
  have hg : (o.gen != (instOf (dropOp o.id s) o.inst).gen) = false := by
    have : (instOf (dropOp o.id s) o.inst).gen = (instOf s o.inst).gen := rfl
    rw [this, h5]; simp
  simp only [settle, hr, hg, h2, h3, Bool.false_eq_true, if_false]

theorem settle_alone_outq {s : State} {o : Op} {r : Ring} (h : Alone s o r) (c : Completion) :
    (ring? (settle o c s) o.ring).map (·.outq) = some (r.outq ++ [c]) := by
  have hr : ring? (dropOp o.id s) o.ring = some r := h.1
  rw [settle_alone h, pushOut, ring?_updRing, if_pos rfl, hr]; rfl

theorem settle_alone_op {s : State} {o : Op} {r : Ring} (h : Alone s o r) (c : Completion) : op? (settle o c s) o.id = none := by
  rw [settle_alone h]; exact op?_dropOp_self s o.id

/-- It has completed with what its completion says. -/
theorem settle_completed {s : State} {o : Op} {r : Ring} (h : Alone s o r) (c : Completion) (ht : c.tag = o.desc.tag) (hi : c.sqIndex = o.sqIndex) :
    Completed (settle o c s) o r c.status c.verdict c.opdata :=
  ⟨settle_alone_op h c, c, settle_alone_outq h c, rfl, rfl, rfl, ht, hi⟩

/-- Nothing but the operation's record and the end of its ring's queue changes. -/
theorem settle_beside {s : State} {o : Op} {r : Ring} (h : Alone s o r) (c : Completion) : Beside s (settle o c s) o := by
  rw [settle_alone h]
  refine ⟨rfl, fun j hj => op?_dropOp_ne s o.id j hj, fun n hn => ?_, fun w hw => .inr hw⟩
  rw [pushOut, ring?_updRing, if_neg hn]; rfl

/-- A management operation that meets no check: its run, and its completion or what it waits for. -/
theorem dispatchAs_managed {sp : OpSpec} {s : State} {id : Nat} {i : OpInput} {o : Op} (h : Clear sp s id i o) (hc : opClass o.desc = 0x0F) :
    dispatchAs sp id i s = dispatchManagement sp o i s := by
  have hpre : o.preFail = [] := by
    have := h.checks; simp only [stage5Fails, sharedFails, List.append_eq_nil_iff] at this; exact this.1.1.1.1.1.1.1
  simp only [dispatchAs, h.here, h.waits, h.opcode, h.ready, hpre, h.checks, firstPre, leastBy, hc]
  simp

end Sys2Proof.Machine
end

