-- ==== Sys2Proof/Laws/Kept.lean ====
section
/-! SUPPORT. What most functions on State leave alone: the beat, the queue, both memories, the burnt words of OTP and the count of failed
tokens, gathered in one value, so that one equation per function says it. -/
namespace Sys2Proof.Machine

/-- What most functions leave alone. -/
def kept (s : State) : Nat × List Instr × List Host.Cell × List Host.Cell ×
    (Nat × Nat × Nat × Bytes × Option Bytes × Option Bytes × Option Bytes) × Nat :=
  (s.beat, s.pending, s.hostMem, s.bufMem, burnt s.cus.otp, s.cus.authFails)

/-- An updated record, as its fields. -/
@[simp] theorem kept_mk (beat fresh glb regs hp qm im ops nextOp kv bufs ecl mem sup eng ports hf stf cus grp fx hostMem bufMem outbox pending) :
    kept (State.mk beat fresh glb regs hp qm im ops nextOp kv bufs ecl mem sup eng ports hf stf cus grp fx hostMem bufMem outbox pending)
      = (beat, pending, hostMem, bufMem, burnt cus.otp, cus.authFails) := rfl

/-- The fields of one state, gathered again. -/
@[simp] theorem kept_fold (s : State) : (s.beat, s.pending, s.hostMem, s.bufMem, burnt s.cus.otp, s.cus.authFails) = kept s := rfl

theorem kept_ite (c : Prop) [Decidable c] (s t : State) : kept (if c then s else t) = if c then kept s else kept t := by
  split <;> rfl

/-- A fold of steps that keep it keeps it. -/
@[simp] theorem kept_foldl {α : Type} (f : State → α → State) (h : ∀ t x, kept (f t x) = kept t) :
    ∀ (l : List α) (s : State), kept (l.foldl f s) = kept s
  | [], _ => rfl
  | x :: l, s => by rw [List.foldl_cons, kept_foldl f h l, h]

@[simp] theorem kept_updCus (f : Custody → Custody) (s : State) (h : (f s.cus).otp = s.cus.otp) (k : (f s.cus).authFails = s.cus.authFails) :
    kept (updCus f s) = kept s := by
  simp only [kept, updCus, h, k]

end Sys2Proof.Machine
end

