-- ==== Sys2Proof/Laws/Frames.lean ====
section
/-! SUPPORT. The functions of the block that leave alone what `kept` gathers. -/
namespace Sys2Proof.Machine

/-! Ops -/

@[simp] theorem kept_setReg (a0 : Nat) (a1 : Word) (s : State) : kept (setReg a0 a1 s) = kept s :=
  by simp [setReg]

@[simp] theorem kept_draw (s : State) : kept (draw s).2 = kept s :=
  by simp [draw]

@[simp] theorem kept_freeBytes (a0 : Nat) (s : State) : kept (freeBytes a0 s).2 = kept s :=
  by simp [freeBytes]

@[simp] theorem kept_setRing (a0 : Nat) (a1 : Ring) (s : State) : kept (setRing a0 a1 s) = kept s :=
  by simp [setRing]

@[simp] theorem kept_updRing (a0 : Nat) (a1 : Ring → Ring) (s : State) : kept (updRing a0 a1 s) = kept s :=
  by simp [updRing]

@[simp] theorem kept_setInst (a0 : Nat) (a1 : Inst) (s : State) : kept (setInst a0 a1 s) = kept s :=
  by simp [setInst]

@[simp] theorem kept_updInst (a0 : Nat) (a1 : Inst → Inst) (s : State) : kept (updInst a0 a1 s) = kept s :=
  by simp [updInst]

@[simp] theorem kept_updOp (a0 : Nat) (a1 : Op → Op) (s : State) : kept (updOp a0 a1 s) = kept s :=
  by simp [updOp]

@[simp] theorem kept_dropOp (a0 : Nat) (s : State) : kept (dropOp a0 s) = kept s :=
  by simp [dropOp]

@[simp] theorem kept_send (a0 : Sent) (s : State) : kept (send a0 s) = kept s :=
  by simp [send]

@[simp] theorem kept_wakePme (s : State) : kept (wakePme s) = kept s :=
  by simp only [wakePme]; split <;> simp

@[simp] theorem kept_raise_ (a0 : Nat) (a1 : Nat) (s : State) : kept (raise_ a0 a1 s) = kept s :=
  by simp only [raise_]; split <;> simp

@[simp] theorem kept_settleSwitch (s : State) : kept (settleSwitch s) = kept s :=
  by simp only [settleSwitch]; split <;> simp

@[simp] theorem kept_switchUnits (a0 : List UnitRef) (s : State) : kept (switchUnits a0 s) = kept s :=
  by simp only [switchUnits]; split <;> simp

@[simp] theorem kept_setLeases (a0 : List Nat) (a1 : Lease) (s : State) : kept (setLeases a0 a1 s) = kept s :=
  by simp [setLeases]

@[simp] theorem kept_returnBanks (a0 : List Nat) (s : State) : kept (returnBanks a0 s) = kept s :=
  by simp [returnBanks]

/-! KvOps -/

@[simp] theorem kept_updKv (a0 : Vault → Vault) (s : State) : kept (updKv a0 s) = kept s :=
  by simp [updKv]

@[simp] theorem kept_sweepWiping (s : State) : kept (sweepWiping s) = kept s :=
  by simp [sweepWiping]

@[simp] theorem kept_damageSlot (a0 : Nat) (s : State) : kept (damageSlot a0 s) = kept s :=
  by simp only [damageSlot]; (repeat' split) <;> simp

@[simp] theorem kept_clearWork (a0 : List UnitRef) (s : State) : kept (clearWork a0 s) = kept s :=
  by simp [clearWork]

@[simp] theorem kept_dirty (a0 : List Nat) (s : State) : kept (dirty a0 s) = kept s :=
  by simp [dirty]

@[simp] theorem kept_dirtyOwned (a0 : Nat) (s : State) : kept (dirtyOwned a0 s) = kept s :=
  by simp [dirtyOwned]

@[simp] theorem kept_countDraw (a0 : Nat) (s : State) : kept (countDraw a0 s) = kept s :=
  by simp [countDraw]

@[simp] theorem kept_drawBytes (a0 : Nat) (s : State) : kept (drawBytes a0 s).2 = kept s :=
  by simp [drawBytes]

/-! Deliver -/

@[simp] theorem kept_pushOut (a0 : Nat) (a1 : Completion) (s : State) : kept (pushOut a0 a1 s) = kept s :=
  by simp [pushOut]

@[simp] theorem kept_stopMember (s : State) (a1 : Op) : kept (stopMember s a1) = kept s :=
  by simp [stopMember]

@[simp] theorem kept_stopMembers (a0 : Nat) (s : State) : kept (stopMembers a0 s) = kept s :=
  by simp only [stopMembers]; split <;> simp

@[simp] theorem kept_settle (a0 : Op) (a1 : Completion) (s : State) : kept (settle a0 a1 s) = kept s :=
  by simp only [settle]; (repeat' split) <;> simp

/-! Gate -/

@[simp] theorem kept_failStream (a0 : Op) (s : State) : kept (failStream a0 s) = kept s :=
  by simp only [failStream]; split <;> simp

@[simp] theorem kept_stageMember (a0 : Op) (a1 : Run) (s : State) : kept (stageMember a0 a1 s) = kept s :=
  by simp [stageMember]

@[simp] theorem kept_takeWork (a0 : Op) (a1 : Option Nat) (s : State) : kept (takeWork a0 a1 s) = kept s :=
  by simp only [takeWork]; (repeat' split) <;> simp

@[simp] theorem kept_damageKeys (a0 : Op) (a1 : OpInput) (s : State) : kept (damageKeys a0 a1 s) = kept s :=
  by unfold damageKeys; (repeat' (first | split | (refine kept_foldl _ (fun t x => ?_) _ _))) <;> simp_all

@[simp] theorem kept_unAsk (a0 : Nat) (s : State) : kept (unAsk a0 s) = kept s :=
  by simp only [unAsk]; split <;> simp

@[simp] theorem kept_completeWait (a0 : Nat) (a1 : Status) (a2 : Bytes) (s : State) : kept (completeWait a0 a1 a2 s) = kept s :=
  by simp only [completeWait]; split <;> simp

/-! Rings -/

@[simp] theorem kept_stray (a0 : Nat) (a1 : Nat) (s : State) : kept (stray a0 a1 s) = kept s :=
  by simp [stray]

@[simp] theorem kept_dbIgnored (a0 : Nat) (a1 : Bool) (s : State) : kept (dbIgnored a0 a1 s) = kept s :=
  by simp only [dbIgnored]; split <;> simp

@[simp] theorem kept_indexReadFailed (a0 : Nat) (s : State) : kept (indexReadFailed a0 s) = kept s :=
  by simp [indexReadFailed]

@[simp] theorem kept_sqDoorbellScan (a0 : Nat) (a1 : Nat) (a2 : Option Nat) (s : State) : kept (sqDoorbellScan a0 a1 a2 s) = kept s :=
  by simp only [sqDoorbellScan]; (repeat' split) <;> simp

@[simp] theorem kept_sqDoorbellTail (a0 : Nat) (a1 : Nat) (a2 : Nat) (s : State) : kept (sqDoorbellTail a0 a1 a2 s) = kept s :=
  by simp only [sqDoorbellTail]; (repeat' split) <;> simp

@[simp] theorem kept_cqDoorbell (a0 : Nat) (a1 : Nat) (a2 : Option Nat) (s : State) : kept (cqDoorbell a0 a1 a2 s) = kept s :=
  by simp only [cqDoorbell]; (repeat' split) <;> simp

@[simp] theorem kept_sqInvalidate (a0 : Nat) (a1 : Nat) (a2 : Nat) (s : State) : kept (sqInvalidate a0 a1 a2 s) = kept s :=
  by simp only [sqInvalidate]; (repeat' split) <;> simp

@[simp] theorem kept_cqModWrite (a0 : Nat) (a1 : Nat) (a2 : Nat) (s : State) : kept (cqModWrite a0 a1 a2 s) = kept s :=
  by simp only [cqModWrite]; (repeat' split) <;> simp

@[simp] theorem kept_doorbellStray (a0 : Nat) (a1 : Nat) (a2 : Nat) (s : State) : kept (doorbellStray a0 a1 a2 s) = kept s :=
  by simp only [doorbellStray]; (repeat' split) <;> simp

@[simp] theorem kept_fetch (a0 : Nat) (a1 : List Bytes) (s : State) : kept (fetch a0 a1 s) = kept s :=
  by induction a1 generalizing s with | nil => rfl | cons e es ih => simp only [fetch]; (repeat' split) <;> simp [ih]

@[simp] theorem kept_noteAts (a0 : Nat) (s : State) : kept (noteAts a0 s) = kept s :=
  by simp only [noteAts]; (repeat' split) <;> simp

@[simp] theorem kept_ringFetchError (a0 : Nat) (s : State) : kept (ringFetchError a0 s) = kept s :=
  by simp only [ringFetchError]; (repeat' split) <;> simp

@[simp] theorem kept_ringWriteError (a0 : Nat) (s : State) : kept (ringWriteError a0 s) = kept s :=
  by simp only [ringWriteError]; (repeat' split) <;> simp

@[simp] theorem kept_backlogTimer (a0 : Nat) (a1 : Option Nat) (s : State) : kept (backlogTimer a0 a1 s) = kept s :=
  by simp only [backlogTimer]; (repeat' split) <;> simp

@[simp] theorem kept_moderationTimer (a0 : Nat) (s : State) : kept (moderationTimer a0 s) = kept s :=
  by simp only [moderationTimer]; (repeat' split) <;> simp

@[simp] theorem kept_deliver (a0 : Nat) (s : State) : kept (deliver a0 s) = kept s :=
  by simp only [deliver]; (repeat' split) <;> simp

@[simp] theorem kept_msixMessage (a0 : Nat) (s : State) : kept (msixMessage a0 s) = kept s :=
  by simp only [msixMessage]; (repeat' split) <;> simp

@[simp] theorem kept_msixUnmask (a0 : Nat) (s : State) : kept (msixUnmask a0 s) = kept s :=
  by simp only [msixUnmask]; split <;> simp

@[simp] theorem kept_msixClear (a0 : Nat) (s : State) : kept (msixClear a0 s) = kept s :=
  by simp only [msixClear]; (repeat' split) <;> simp

@[simp] theorem kept_settleCancels (s : State) : kept (settleCancels s) = kept s :=
  by unfold settleCancels; (repeat' (first | split | (refine kept_foldl _ (fun t x => ?_) _ _))) <;> simp_all

@[simp] theorem kept_freeRings (a0 : Nat → Ring → Bool) (s : State) : kept (freeRings a0 s) = kept s :=
  by simp [freeRings]

@[simp] theorem kept_finishDestroy (a0 : Nat) (a1 : Nat) (a2 : Nat) (s : State) : kept (finishDestroy a0 a1 a2 s) = kept s :=
  by simp [finishDestroy]

@[simp] theorem kept_settleRingZero (s : State) : kept (settleRingZero s) = kept s :=
  by simp only [settleRingZero]; (repeat' split) <;> simp

@[simp] theorem kept_ringDestroyDiscard (a0 : Nat) (s : State) : kept (ringDestroyDiscard a0 s) = kept s :=
  by simp only [ringDestroyDiscard]; (repeat' split) <;> simp

@[simp] theorem kept_ringZeroEnable (a0 : Nat) (s : State) : kept (ringZeroEnable a0 s) = kept s :=
  by simp only [ringZeroEnable]; (repeat' split) <;> simp

/-! LinkOps -/

@[simp] theorem kept_updGrp (a0 : DeviceGroup → DeviceGroup) (s : State) : kept (updGrp a0 s) = kept s :=
  by simp [updGrp]

@[simp] theorem kept_updMember (a0 : Nat) (a1 : Member → Member) (s : State) : kept (updMember a0 a1 s) = kept s :=
  by simp [updMember]

@[simp] theorem kept_updPort (a0 : Nat) (a1 : Port → Port) (s : State) : kept (updPort a0 a1 s) = kept s :=
  by simp [updPort]

@[simp] theorem kept_settleLanes (s : State) : kept (settleLanes s) = kept s :=
  by simp [settleLanes]

@[simp] theorem kept_raisePort (a0 : Nat) (a1 : Nat) (s : State) : kept (raisePort a0 a1 s) = kept s :=
  by simp only [raisePort]; split <;> simp

@[simp] theorem kept_dropCount (a0 : Nat) (a1 : Nat) (s : State) : kept (dropCount a0 a1 s) = kept s :=
  by simp [dropCount]

@[simp] theorem kept_sendNow (a0 : Nat) (a1 : Bytes) (s : State) : kept (sendNow a0 a1 s) = kept s :=
  by simp only [sendNow]; split <;> simp

@[simp] theorem kept_pumpList (a0 : Nat) (a1 : List (Nat × Bytes)) (s : State) : kept (pumpList a0 a1 s) = kept s :=
  by induction a1 generalizing s with | nil => rfl | cons e es ih => simp only [pumpList]; (repeat' split) <;> simp [ih]

@[simp] theorem kept_pump (a0 : Nat) (s : State) : kept (pump a0 s) = kept s :=
  by simp only [pump]; split <;> simp

@[simp] theorem kept_portSend (a0 : Nat) (a1 : Nat) (a2 : Bytes) (s : State) : kept (portSend a0 a1 a2 s) = kept s :=
  by simp only [portSend]; (repeat' split) <;> simp

@[simp] theorem kept_sendHop (a0 : Nat) (a1 : Nat) (a2 : Nat) (a3 : Bytes) (s : State) : kept (sendHop a0 a1 a2 a3 s) = kept s :=
  by simp only [sendHop]; split <;> simp

@[simp] theorem kept_sendRoutes (s : State) : kept (sendRoutes s) = kept s :=
  by simp [sendRoutes]

@[simp] theorem kept_memberBack (s : State) (a1 : Nat) : kept (memberBack s a1) = kept s :=
  by simp only [memberBack]; (repeat' split) <;> simp

@[simp] theorem kept_settleRoutes (a0 : List (Nat × Nat × Nat)) (s : State) : kept (settleRoutes a0 s) = kept s :=
  by simp only [settleRoutes]; split <;> simp

@[simp] theorem kept_dropRoutes (a0 : Nat) (s : State) : kept (dropRoutes a0 s) = kept s :=
  by simp [dropRoutes]

@[simp] theorem kept_endSession (a0 : Nat) (s : State) : kept (endSession a0 s) = kept s :=
  by simp [endSession]

@[simp] theorem kept_linkDown (a0 : Nat) (a1 : PortState) (a2 : Option Nat) (s : State) : kept (linkDown a0 a1 a2 s) = kept s :=
  by simp only [linkDown]; split <;> simp

@[simp] theorem kept_retrain (a0 : Nat) (s : State) : kept (retrain a0 s) = kept s :=
  by simp [retrain]

@[simp] theorem kept_linkEngine (s : State) : kept (linkEngine s) = kept s :=
  by simp only [linkEngine]; split <;> simp

@[simp] theorem kept_sendPlain (a0 : Nat) (a1 : Nat) (a2 : Bytes) (s : State) : kept (sendPlain a0 a1 a2 s) = kept s :=
  by simp only [sendPlain]; split <;> simp

@[simp] theorem kept_openRouted (a0 : Nat) (s : State) : kept (openRouted a0 s) = kept s :=
  by simp only [openRouted]; (repeat' split) <;> simp

@[simp] theorem kept_sendRouted (a0 : Nat) (a1 : Nat) (a2 : Nat) (a3 : Bytes) (s : State) : kept (sendRouted a0 a1 a2 a3 s) = kept s :=
  by simp only [sendRouted]; (repeat' split) <;> simp

/-! Cache -/

@[simp] theorem kept_updHf (a0 : Cache → Cache) (s : State) : kept (updHf a0 s) = kept s :=
  by simp [updHf]

@[simp] theorem kept_takeTop (a0 : Nat) (a1 : Nat) (s : State) : kept (takeTop a0 a1 s) = kept s :=
  by simp only [takeTop]; split <;> simp

@[simp] theorem kept_takeSet (a0 : Nat) (a1 : Nat) (s : State) : kept (takeSet a0 a1 s) = kept s :=
  by simp [takeSet]

@[simp] theorem kept_dropTrees (a0 : Nat) (s : State) : kept (dropTrees a0 s) = kept s :=
  by simp [dropTrees]

/-! GroupOps -/

@[simp] theorem kept_replicateTo (a0 : Nat) (a1 : KeySlot) (a2 : Nat) (s : State) : kept (replicateTo a0 a1 a2 s) = kept s :=
  by simp only [replicateTo]; split <;> simp

@[simp] theorem kept_startGroupKey (s : State) (a1 : Op) (a2 : KeySlot) (a3 : Option StfKey) (a4 : Bytes) : kept (startGroupKey s a1 a2 a3 a4).st = kept s :=
  by simp only [startGroupKey]; (repeat' split) <;> simp

@[simp] theorem kept_askRevoke (a0 : Nat) (a1 : Nat) (a2 : Nat) (s : State) : kept (askRevoke a0 a1 a2 s) = kept s :=
  by simp only [askRevoke]; split <;> simp

@[simp] theorem kept_startRevoke (a0 : Nat) (a1 : Nat) (a2 : Op) (s : State) : kept (startRevoke a0 a1 a2 s) = kept s :=
  by simp only [startRevoke]; split <;> simp

/-! Activation -/

@[simp] theorem kept_updUp (a0 : Update → Update) (s : State) : kept (updUp a0 s) = kept s :=
  by simp [updUp]

@[simp] theorem kept_finishHandover (s : State) : kept (finishHandover s) = kept s :=
  by simp [finishHandover]

@[simp] theorem kept_endHandover (s : State) : kept (endHandover s) = kept s :=
  by simp only [endHandover]; split <;> simp

/-! Faults -/

@[simp] theorem kept_updFc (a0 : Collector → Collector) (s : State) : kept (updFc a0 s) = kept s :=
  by simp [updFc]

@[simp] theorem kept_logRec (a0 : FaultRec) (s : State) : kept (logRec a0 s) = kept s :=
  by simp only [logRec]; (repeat' split) <;> simp

@[simp] theorem kept_closeWindow (s : State) : kept (closeWindow s) = kept s :=
  by simp only [closeWindow]; (repeat' split) <;> simp

@[simp] theorem kept_placeRec (a0 : FaultRec) (s : State) : kept (placeRec a0 s) = kept s :=
  by simp only [placeRec]; (repeat' split) <;> simp

@[simp] theorem kept_clearLive (a0 : Nat) (s : State) : kept (clearLive a0 s) = kept s :=
  by simp [clearLive]

@[simp] theorem kept_record (a0 : FaultMsg) (s : State) : kept (record a0 s).1 = kept s :=
  by simp only [record]; (repeat' split) <;> simp

@[simp] theorem kept_blackBox (s : State) : kept (blackBox s) = kept s :=
  by simp [blackBox]

@[simp] theorem kept_assertFaultN (s : State) : kept (assertFaultN s) = kept s :=
  by simp [assertFaultN]

@[simp] theorem kept_note (a0 : Nat) (a1 : Nat) (a2 : Nat) (s : State) : kept (note a0 a1 a2 s) = kept s :=
  by simp only [note]; split <;> simp

@[simp] theorem kept_closeSession (s : State) : kept (closeSession s) = kept s :=
  by simp only [closeSession]; split <;> simp

@[simp] theorem kept_reclaim (a0 : UnitRef) (s : State) : kept (reclaim a0 s) = kept s :=
  by simp [reclaim]

@[simp] theorem kept_loseUnit (s : State) (a1 : UnitRef) : kept (loseUnit s a1) = kept s :=
  by simp [loseUnit]

@[simp] theorem kept_eclipseUnit (a0 : UnitRef) (s : State) : kept (eclipseUnit a0 s) = kept s :=
  by simp [eclipseUnit]

@[simp] theorem kept_eclipseStore (a0 : Nat) (s : State) : kept (eclipseStore a0 s) = kept s :=
  by simp [eclipseStore]

@[simp] theorem kept_supersedeModeSets (s : State) : kept (supersedeModeSets s) = kept s :=
  by unfold supersedeModeSets; (repeat' (first | split | (refine kept_foldl _ (fun t x => ?_) _ _))) <;> simp_all

@[simp] theorem kept_halt (s : State) : kept (halt s) = kept s :=
  by simp [halt]

@[simp] theorem kept_failEntropy (a0 : Nat) (s : State) : kept (failEntropy a0 s) = kept s :=
  by simp only [failEntropy]; (repeat' split) <;> simp

@[simp] theorem kept_containedMem (a0 : Nat) (s : State) : kept (containedMem a0 s) = kept s :=
  by simp only [containedMem]; split <;> simp

@[simp] theorem kept_eclipsePort (a0 : Nat) (s : State) : kept (eclipsePort a0 s) = kept s :=
  by simp [eclipsePort]

@[simp] theorem kept_loseLane (s : State) : kept (loseLane s) = kept s :=
  by simp only [loseLane]; split <;> simp

@[simp] theorem kept_contain (a0 : FaultMsg) (s : State) : kept (contain a0 s) = kept s :=
  by simp only [contain]; (repeat' split) <;> simp

@[simp] theorem kept_strand (a0 : State → Op → List UnitKind) (s : State) : kept (strand a0 s) = kept s :=
  by simp [strand]

@[simp] theorem kept_firstWindowClose (s : State) : kept (firstWindowClose s) = kept s :=
  by simp only [firstWindowClose]; (repeat' split) <;> simp

@[simp] theorem kept_faultnStateClear (s : State) : kept (faultnStateClear s) = kept s :=
  by simp only [faultnStateClear]; split <;> simp

@[simp] theorem kept_eventPendingClear (a0 : Nat) (s : State) : kept (eventPendingClear a0 s) = kept s :=
  by simp only [eventPendingClear]; split <;> simp

/-! StfOps -/

@[simp] theorem kept_updStf (a0 : Stateful → Stateful) (s : State) : kept (updStf a0 s) = kept s :=
  by simp [updStf]

@[simp] theorem kept_updKey (a0 : Nat) (a1 : StfKey → StfKey) (s : State) : kept (updKey a0 a1 s) = kept s :=
  by simp [updKey]

@[simp] theorem kept_journal (a0 : Nat) (a1 : Nat) (a2 : Bytes) (a3 : Nat) (a4 : Nat) (a5 : Nat) (s : State) : kept (journal a0 a1 a2 a3 a4 a5 s) = kept s :=
  by simp [journal]

@[simp] theorem kept_requestLease (a0 : Nat) (s : State) : kept (requestLease a0 s) = kept s :=
  by simp only [requestLease]; (repeat' split) <;> simp

@[simp] theorem kept_holdLease (a0 : Nat) (a1 : Nat) (a2 : Nat) (a3 : Nat) (a4 : Nat) (s : State) : kept (holdLease a0 a1 a2 a3 a4 s) = kept s :=
  by simp only [holdLease]; (repeat' split) <;> simp

@[simp] theorem kept_endLeaseOf (a0 : Nat) (a1 : Nat) (a2 : Bool) (s : State) : kept (endLeaseOf a0 a1 a2 s) = kept s :=
  by simp [endLeaseOf]

@[simp] theorem kept_sendGrant (a0 : Nat) (a1 : Grant) (s : State) : kept (sendGrant a0 a1 s) = kept s :=
  by simp only [sendGrant]; (repeat' split) <;> simp

@[simp] theorem kept_grantLease (a0 : Nat) (a1 : Nat) (a2 : Nat) (s : State) : kept (grantLease a0 a1 a2 s) = kept s :=
  by simp only [grantLease]; (repeat' split) <;> simp

@[simp] theorem kept_ownLease (a0 : Nat) (s : State) : kept (ownLease a0 s) = kept s :=
  by simp only [ownLease]; (repeat' split) <;> simp

@[simp] theorem kept_confirmOwn (s : State) : kept (confirmOwn s) = kept s :=
  by simp only [confirmOwn]; split <;> simp

@[simp] theorem kept_wantLease (a0 : Nat) (s : State) : kept (wantLease a0 s) = kept s :=
  by simp only [wantLease]; split <;> simp

@[simp] theorem kept_retireStateful (a0 : Nat) (s : State) : kept (retireStateful a0 s) = kept s :=
  by simp only [retireStateful]; split <;> simp

@[simp] theorem kept_statefulSkip (a0 : Nat) (s : State) : kept (statefulSkip a0 s) = kept s :=
  by simp [statefulSkip]

@[simp] theorem kept_journalCreated (a0 : Nat) (s : State) : kept (journalCreated a0 s) = kept s :=
  by simp only [journalCreated]; (repeat' split) <;> simp

@[simp] theorem kept_applyKvState (a0 : KvEffect) (s : State) : kept (applyKvState a0 s) = kept s :=
  by simp only [applyKvState]; (repeat' split) <;> simp

/-! Custody -/

@[simp] theorem kept_dueReset (s : State) : kept (dueReset s) = kept s :=
  by simp [dueReset]

@[simp] theorem kept_reseedAll (s : State) : kept (reseedAll s) = kept s :=
  by simp [reseedAll]

@[simp] theorem kept_wipeSlots (a0 : Nat → KeySlot → Bool) (s : State) : kept (wipeSlots a0 s) = kept s :=
  by unfold wipeSlots; (repeat' (first | split | (refine kept_foldl _ (fun t x => ?_) _ _))); simp_all

/-! Create -/

@[simp] theorem kept_createNow (s : State) (a1 : Op) (a2 : OpInput) (a3 : NewKey) : kept (createNow s a1 a2 a3).st = kept s :=
  by simp only [createNow]; (repeat' split) <;> simp

@[simp] theorem kept_createStaged (s : State) (a1 : Op) (a2 : OpInput) (a3 : NewKey) : kept (createStaged s a1 a2 a3).st = kept s :=
  by simp only [createStaged]; (repeat' split) <;> simp

@[simp] theorem kept_effectNow (s : State) (a1 : Op) (a2 : KvEffect) : kept (effectNow s a1 a2).st = kept s :=
  by simp only [effectNow]; split <;> simp

/-! Stateful -/

@[simp] theorem kept_reservationCommit (a0 : Nat) (a1 : Bool) (s : State) : kept (reservationCommit a0 a1 s) = kept s :=
  by simp only [reservationCommit]; (repeat' split) <;> simp

@[simp] theorem kept_workingSetFill (a0 : Nat) (s : State) : kept (workingSetFill a0 s) = kept s :=
  by simp [workingSetFill]

@[simp] theorem kept_sealedImportRun (s : State) (a1 : Op) (a2 : OpInput) : kept (sealedImportRun s a1 a2).st = kept s :=
  by simp only [sealedImportRun]; (repeat' split) <;> simp

@[simp] theorem kept_journalCompaction (s : State) : kept (journalCompaction s) = kept s :=
  by simp only [journalCompaction]; (repeat' split) <;> simp

@[simp] theorem kept_journalScan (a0 : List Nat) (a1 : List Nat) (s : State) : kept (journalScan a0 a1 s) = kept s :=
  by simp [journalScan]

/-! Vault -/

@[simp] theorem kept_importWrappedRun (s : State) (a1 : Op) (a2 : OpInput) : kept (importWrappedRun s a1 a2).st = kept s :=
  by simp only [importWrappedRun]; (repeat' split) <;> simp

@[simp] theorem kept_slotReload (a0 : Nat) (s : State) : kept (slotReload a0 s) = kept s :=
  by simp only [slotReload]; (repeat' split) <;> simp

@[simp] theorem kept_drbgReseed (a0 : Nat) (s : State) : kept (drbgReseed a0 s) = kept s :=
  by simp only [drbgReseed]; (repeat' split) <;> simp

/-! HashForest -/

@[simp] theorem kept_dropTree (a0 : Nat) (a1 : Option Nat) (s : State) : kept (dropTree a0 a1 s) = kept s :=
  by simp [dropTree]

@[simp] theorem kept_suspect (a0 : Op) (s : State) : kept (suspect a0 s) = kept s :=
  by simp [suspect]

@[simp] theorem kept_storeTree (a0 : Nat) (a1 : Nat) (s : State) : kept (storeTree a0 a1 s) = kept s :=
  by simp only [storeTree]; (repeat' split) <;> simp

@[simp] theorem kept_consumeTree (a0 : Op) (a1 : Nat) (a2 : Option Nat) (s : State) : kept (consumeTree a0 a1 a2 s) = kept s :=
  by simp [consumeTree]

@[simp] theorem kept_consumeTrees (a0 : Op) (a1 : OpInput) (a2 : Nat) (a3 : Nat) (s : State) : kept (consumeTrees a0 a1 a2 a3 s) = kept s :=
  by simp only [consumeTrees]; (repeat' split) <;> simp

@[simp] theorem kept_fillJob (a0 : Nat) (s : State) : kept (fillJob a0 s) = kept s :=
  by simp only [fillJob]; (repeat' split) <;> simp

/-! Memory -/

@[simp] theorem kept_updMem (a0 : Fabric → Fabric) (s : State) : kept (updMem a0 s) = kept s :=
  by simp [updMem]

@[simp] theorem kept_withdrawUnit (a0 : Nat) (s : State) : kept (withdrawUnit a0 s) = kept s :=
  by simp only [withdrawUnit]; (repeat' split) <;> simp

@[simp] theorem kept_useInjection (a0 : Nat) (s : State) : kept (useInjection a0 s) = kept s :=
  by simp [useInjection]

@[simp] theorem kept_poisonEntry (a0 : Nat) (a1 : Nat) (s : State) : kept (poisonEntry a0 a1 s) = kept s :=
  by simp [poisonEntry]

@[simp] theorem kept_scrubBehind (s : State) : kept (scrubBehind s) = kept s :=
  by simp only [scrubBehind]; split <;> simp

/-! Modes -/

@[simp] theorem kept_enterMode_bootEvents (a0 : Mode) (s : State) : kept (enterMode.bootEvents a0 s) = kept s :=
  by simp only [enterMode.bootEvents]; (repeat' split) <;> simp

@[simp] theorem kept_dormantPowerDown (s : State) : kept (dormantPowerDown s) = kept s :=
  by simp only [dormantPowerDown]; split <;> simp

/-! Power -/

@[simp] theorem kept_updSup (a0 : Supervisor → Supervisor) (s : State) : kept (updSup a0 s) = kept s :=
  by simp [updSup]

@[simp] theorem kept_setSupply (a0 : Nat) (a1 : Nat) (a2 : Supply → Supply) (s : State) : kept (setSupply a0 a1 a2 s) = kept s :=
  by simp [setSupply]

@[simp] theorem kept_vddRestored (a0 : Nat) (a1 : Nat) (s : State) : kept (vddRestored a0 a1 s) = kept s :=
  by simp only [vddRestored]; (repeat' split) <;> simp

@[simp] theorem kept_brownoutLift (s : State) : kept (brownoutLift s) = kept s :=
  by simp only [brownoutLift]; (repeat' split) <;> simp

@[simp] theorem kept_setTemp (a0 : Nat) (a1 : Int) (s : State) : kept (setTemp a0 a1 s) = kept s :=
  by simp [setTemp]

@[simp] theorem kept_thermalStep (a0 : Nat) (a1 : Int) (s : State) : kept (thermalStep a0 a1 s) = kept s :=
  by simp only [thermalStep]; (repeat' split) <;> simp

@[simp] theorem kept_clearSensors (s : State) : kept (clearSensors s) = kept s :=
  by unfold clearSensors; (repeat' (first | split | (refine kept_foldl _ (fun t x => ?_) _ _))) <;> simp_all

@[simp] theorem kept_settleSensors (s : State) : kept (settleSensors s) = kept s :=
  by simp only [settleSensors]; (repeat' split) <;> simp

@[simp] theorem kept_throttleOff (s : State) : kept (throttleOff s) = kept s :=
  by simp only [throttleOff]; (repeat' split) <;> simp

@[simp] theorem kept_thermClear (a0 : Nat) (a1 : Int) (s : State) : kept (thermClear a0 a1 s) = kept s :=
  by simp only [thermClear]; split <;> simp

/-! Links -/

@[simp] theorem kept_startHello (a0 : Nat) (s : State) : kept (startHello a0 s) = kept s :=
  by simp only [startHello]; (repeat' split) <;> simp

@[simp] theorem kept_startRekey (a0 : Nat) (s : State) : kept (startRekey a0 s) = kept s :=
  by simp [startRekey]

@[simp] theorem kept_refusePeer (a0 : Nat) (s : State) : kept (refusePeer a0 s) = kept s :=
  by simp [refusePeer]

@[simp] theorem kept_sendCharter (a0 : Nat) (s : State) : kept (sendCharter a0 s) = kept s :=
  by simp only [sendCharter]; split <;> simp

@[simp] theorem kept_addNeighbour (a0 : Nat) (a1 : Nat) (s : State) : kept (addNeighbour a0 a1 s) = kept s :=
  by simp [addNeighbour]

@[simp] theorem kept_openHop (a0 : Nat) (a1 : PortState) (a2 : Nat) (a3 : Bytes) (a4 : SessionKeys) (s : State) : kept (openHop a0 a1 a2 a3 a4 s) = kept s :=
  by simp only [openHop]; (repeat' split) <;> simp

@[simp] theorem kept_helloInA (a0 : Nat) (a1 : Bytes) (s : State) : kept (helloInA a0 a1 s) = kept s :=
  by simp only [helloInA]; (repeat' split) <;> simp

@[simp] theorem kept_helloInB (a0 : Nat) (a1 : Bytes) (s : State) : kept (helloInB a0 a1 s) = kept s :=
  by simp only [helloInB]; (repeat' split) <;> simp

@[simp] theorem kept_restrictedTimeout (a0 : Nat) (s : State) : kept (restrictedTimeout a0 s) = kept s :=
  by simp only [restrictedTimeout]; (repeat' split) <;> simp

@[simp] theorem kept_peerRetry (a0 : Nat) (s : State) : kept (peerRetry a0 s) = kept s :=
  by simp only [peerRetry]; (repeat' split) <;> simp

@[simp] theorem kept_rekey (a0 : Nat) (s : State) : kept (rekey a0 s) = kept s :=
  by simp only [rekey]; (repeat' split) <;> simp

@[simp] theorem kept_trainingRetry (a0 : Nat) (s : State) : kept (trainingRetry a0 s) = kept s :=
  by simp only [trainingRetry]; (repeat' split) <;> simp

@[simp] theorem kept_wyRefclk (a0 : Bool) (s : State) : kept (wyRefclk a0 s) = kept s :=
  by unfold wyRefclk; (repeat' (first | split | (refine kept_foldl _ (fun t x => ?_) _ _))) <;> simp_all

@[simp] theorem kept_portIdle (a0 : Nat) (s : State) : kept (portIdle a0 s) = kept s :=
  by simp only [portIdle]; (repeat' split) <;> simp

@[simp] theorem kept_envelopeIn (a0 : Nat) (a1 : Nat) (a2 : Bytes) (a3 : Bool) (s : State) : kept (envelopeIn a0 a1 a2 a3 s) = kept s :=
  by simp only [envelopeIn]; (repeat' split) <;> simp

@[simp] theorem kept_routeIn (a0 : Nat) (a1 : List (Nat × Nat)) (s : State) : kept (routeIn a0 a1 s) = kept s :=
  by simp only [routeIn]; (repeat' split) <;> simp

@[simp] theorem kept_routeSend (s : State) : kept (routeSend s) = kept s :=
  by simp only [routeSend]; split <;> simp

@[simp] theorem kept_memberLost (a0 : Nat) (s : State) : kept (memberLost a0 s) = kept s :=
  by simp only [memberLost]; (repeat' split) <;> simp

/-! Charter -/

@[simp] theorem kept_setRole (a0 : Nat) (a1 : Nat) (a2 : Bool) (s : State) : kept (setRole a0 a1 a2 s) = kept s :=
  by simp [setRole]

@[simp] theorem kept_leaveSole (s : State) : kept (leaveSole s) = kept s :=
  by simp only [leaveSole]; split <;> simp

@[simp] theorem kept_mirrorAll (s : State) : kept (mirrorAll s) = kept s :=
  by simp only [mirrorAll]; split <;> simp

@[simp] theorem kept_takeOver (s : State) : kept (takeOver s) = kept s :=
  by simp only [takeOver]; split <;> simp

@[simp] theorem kept_takeover (s : State) : kept (takeover s) = kept s :=
  by simp only [takeover]; split <;> simp

@[simp] theorem kept_learnEpoch (a0 : Nat) (a1 : Nat) (s : State) : kept (learnEpoch a0 a1 s) = kept s :=
  by simp only [learnEpoch]; (repeat' split) <;> simp

@[simp] theorem kept_leaveGroup (a0 : Bool) (s : State) : kept (leaveGroup a0 s) = kept s :=
  by simp [leaveGroup]

@[simp] theorem kept_settlePeer (a0 : Charter) (a1 : Nat) (s : State) : kept (settlePeer a0 a1 s) = kept s :=
  by simp only [settlePeer]; (repeat' split) <;> simp

@[simp] theorem kept_settleRole (a0 : Option Charter) (a1 : Charter) (a2 : Nat) (s : State) : kept (settleRole a0 a1 a2 s) = kept s :=
  by simp only [settleRole]; (repeat' split) <;> simp

@[simp] theorem kept_commitCharter (a0 : Charter) (s : State) : kept (commitCharter a0 s) = kept s :=
  by simp only [commitCharter]; (repeat' split) <;> simp

@[simp] theorem kept_finishJoin (s : State) : kept (finishJoin s) = kept s :=
  by unfold finishJoin; (repeat' (first | split | (refine kept_foldl _ (fun t x => ?_) _ _))) <;> simp_all

@[simp] theorem kept_tryJoin (s : State) : kept (tryJoin s) = kept s :=
  by simp only [tryJoin]; split <;> simp

@[simp] theorem kept_endLease (a0 : Nat) (a1 : Nat) (s : State) : kept (endLease a0 a1 s) = kept s :=
  by simp only [endLease]; (repeat' split) <;> simp

@[simp] theorem kept_groupControlRun (s : State) (a1 : Op) : kept (groupControlRun s a1).st = kept s :=
  by simp only [groupControlRun]; (repeat' split) <;> simp

@[simp] theorem kept_joinTimeout (s : State) : kept (joinTimeout s) = kept s :=
  by unfold joinTimeout; (repeat' (first | split | (refine kept_foldl _ (fun t x => ?_) _ _))) <;> simp_all

@[simp] theorem kept_dropAssembly (a0 : Nat) (s : State) : kept (dropAssembly a0 s) = kept s :=
  by simp [dropAssembly]

@[simp] theorem kept_charterIn (a0 : Nat) (a1 : CharterFrag) (s : State) : kept (charterIn a0 a1 s) = kept s :=
  by simp only [charterIn]; (repeat' split) <;> simp

@[simp] theorem kept_charterAssemblyTimeout (a0 : Nat) (s : State) : kept (charterAssemblyTimeout a0 s) = kept s :=
  by simp only [charterAssemblyTimeout]; (repeat' split) <;> simp

/-! Recovery -/

@[simp] theorem kept_unEclipse (a0 : Target) (s : State) : kept (unEclipse a0 s) = kept s :=
  by simp only [unEclipse]; split <;> simp

@[simp] theorem kept_clearCounts (a0 : List Nat) (s : State) : kept (clearCounts a0 s) = kept s :=
  by simp [clearCounts]

@[simp] theorem kept_recovered (a0 : Nat) (s : State) : kept (recovered a0 s) = kept s :=
  by simp [recovered]

/-! Lifecycle -/

@[simp] theorem kept_endTransition (a0 : Token) (s : State) : kept (endTransition a0 s) = kept s :=
  by simp [endTransition]

@[simp] theorem kept_challengeExpiry (s : State) : kept (challengeExpiry s) = kept s :=
  by simp only [challengeExpiry]; (repeat' split) <;> simp

@[simp] theorem kept_sessionExpiry (s : State) : kept (sessionExpiry s) = kept s :=
  by simp only [sessionExpiry]; (repeat' split) <;> simp

@[simp] theorem kept_tamperLatchedClear (a0 : Nat) (s : State) : kept (tamperLatchedClear a0 s) = kept s :=
  by simp only [tamperLatchedClear]; split <;> simp

/-! Registers -/

@[simp] theorem kept_writeFields (a0 : Reg) (a1 : Nat) (a2 : Nat) (s : State) : kept (writeFields a0 a1 a2 s) = kept s :=
  by simp [writeFields]

@[simp] theorem kept_setLock (a0 : Nat) (s : State) : kept (setLock a0 s) = kept s :=
  by simp [setLock]

@[simp] theorem kept_writeGoverned (a0 : Reg) (a1 : Nat) (a2 : Nat) (s : State) : kept (writeGoverned a0 a1 a2 s) = kept s :=
  by simp only [writeGoverned]; (repeat' split) <;> simp

@[simp] theorem kept_applyCal (a0 : Nat) (a1 : Int) (s : State) : kept (applyCal a0 a1 s) = kept s :=
  by simp only [applyCal]; (repeat' split) <;> simp

@[simp] theorem kept_capReg (s : State) (a1 : CapRec) : kept (capReg s a1) = kept s :=
  by simp only [capReg]; (repeat' split) <;> simp

@[simp] theorem kept_capLock (s : State) (a1 : CapRec) : kept (capLock s a1) = kept s :=
  by simp only [capLock]; (repeat' split) <;> simp

@[simp] theorem kept_applySettings (a0 : List CapRec) (s : State) : kept (applySettings a0 s) = kept s :=
  by simp [applySettings]

@[simp] theorem kept_applyCapsule (a0 : List CapRec) (s : State) : kept (applyCapsule a0 s) = kept s :=
  by simp [applyCapsule]

/-! Update -/

@[simp] theorem kept_commitRecord (a0 : ActRec) (s : State) : kept (commitRecord a0 s) = kept s :=
  by simp [commitRecord]

@[simp] theorem kept_putBank (a0 : Nat) (a1 : Option SetInfo) (s : State) : kept (putBank a0 a1 s) = kept s :=
  by simp [putBank]

@[simp] theorem kept_refuse (s : State) (a1 : Status) (a2 : Nat) : kept (refuse s a1 a2).st = kept s :=
  by simp [refuse]

/-! Pipeline -/

@[simp] theorem kept_energyGrant (a0 : State → Op → List UnitKind) (a1 : Nat) (s : State) : kept (energyGrant a0 a1 s) = kept s :=
  by simp only [energyGrant]; (repeat' split) <;> simp

@[simp] theorem kept_unyield (a0 : Nat) (s : State) : kept (unyield a0 s) = kept s :=
  by simp [unyield]

@[simp] theorem kept_resumeOne (s : State) (a1 : Nat) : kept (resumeOne s a1) = kept s :=
  by simp only [resumeOne]; (repeat' split) <;> simp

@[simp] theorem kept_resumeYielded (s : State) : kept (resumeYielded s) = kept s :=
  by simp [resumeYielded]

@[simp] theorem kept_leaseNow (a0 : State → Op → List UnitKind) (a1 : Desc → Option Nat) (a2 : Nat) (a3 : Nat) (s : State) : kept (leaseNow a0 a1 a2 a3 s) = kept s :=
  by simp only [leaseNow]; (repeat' split) <;> simp

@[simp] theorem kept_bankLease (a0 : State → Op → List UnitKind) (a1 : Desc → Option Nat) (a2 : Nat) (a3 : Nat) (s : State) : kept (bankLease a0 a1 a2 a3 s) = kept s :=
  by simp [bankLease]

@[simp] theorem kept_lnOwnerWipe (a0 : Nat) (s : State) : kept (lnOwnerWipe a0 s) = kept s :=
  by simp only [lnOwnerWipe]; split <;> simp

@[simp] theorem kept_scatterWalk (a0 : Nat) (a1 : Nat) (a2 : List Bytes) (a3 : Bool) (a4 : Bool) (s : State) : kept (scatterWalk a0 a1 a2 a3 a4 s) = kept s :=
  by simp only [scatterWalk]; (repeat' split) <;> simp

@[simp] theorem kept_bankWipe (a0 : Nat) (s : State) : kept (bankWipe a0 s) = kept s :=
  by simp only [bankWipe]; split <;> simp

@[simp] theorem kept_dmaReadTimeout (a0 : Nat) (s : State) : kept (dmaReadTimeout a0 s) = kept s :=
  by simp only [dmaReadTimeout]; (repeat' split) <;> simp

/-! Buffers -/

@[simp] theorem kept_freeBuffersOf (a0 : Nat) (s : State) : kept (freeBuffersOf a0 s) = kept s :=
  by simp [freeBuffersOf]

/-! Fixity -/

@[simp] theorem kept_updFx (a0 : Fixity → Fixity) (s : State) : kept (updFx a0 s) = kept s :=
  by simp [updFx]

@[simp] theorem kept_updStream (a0 : Nat) (a1 : Stream → Stream) (s : State) : kept (updStream a0 a1 s) = kept s :=
  by simp [updStream]

@[simp] theorem kept_dropStream (a0 : Nat) (s : State) : kept (dropStream a0 s) = kept s :=
  by simp [dropStream]

@[simp] theorem kept_saveState (a0 : Op) (s : State) : kept (saveState a0 s) = kept s :=
  by simp only [saveState]; split <;> simp

@[simp] theorem kept_laneYield (a0 : State → Op → List UnitKind) (a1 : Desc → Option Nat) (a2 : Nat) (a3 : Nat) (s : State) : kept (laneYield a0 a1 a2 a3 s) = kept s :=
  by simp only [laneYield]; (repeat' split) <;> simp

@[simp] theorem kept_closeStreams (a0 : Stream → Bool) (s : State) : kept (closeStreams a0 s) = kept s :=
  by simp [closeStreams]

/-! Instances -/

@[simp] theorem kept_pauseFetch (a0 : Nat) (s : State) : kept (pauseFetch a0 s) = kept s :=
  by simp [pauseFetch]

@[simp] theorem kept_finishRemove (a0 : Nat) (a1 : Nat) (s : State) : kept (finishRemove a0 a1 s) = kept s :=
  by simp [finishRemove]

@[simp] theorem kept_removeDrainEnd (a0 : Nat) (s : State) : kept (removeDrainEnd a0 s) = kept s :=
  by simp only [removeDrainEnd]; (repeat' split) <;> simp

@[simp] theorem kept_atsInvalidation (a0 : Nat) (s : State) : kept (atsInvalidation a0 s) = kept s :=
  by simp [atsInvalidation]

@[simp] theorem kept_d3hotEntry (a0 : Bool) (s : State) : kept (d3hotEntry a0 s) = kept s :=
  by simp only [d3hotEntry]; split <;> simp

@[simp] theorem kept_d0Return (a0 : Bool) (s : State) : kept (d0Return a0 s) = kept s :=
  by simp [d0Return]

/-! Lattice -/

@[simp] theorem kept_secretOut (s : State) (a1 : Op) (a2 : OpInput) (a3 : Bytes) (a4 : Bytes) (a5 : Nat) : kept (secretOut s a1 a2 a3 a4 a5).st = kept s :=
  by simp only [secretOut]; split <;> simp

/-! Admission -/

@[simp] theorem kept_setArbiter (a0 : Nat) (a1 : Arbiter) (s : State) : kept (setArbiter a0 a1 s) = kept s :=
  by simp [setArbiter]

@[simp] theorem kept_idleLatch (s : State) (a1 : Nat) : kept (idleLatch s a1) = kept s :=
  by simp only [idleLatch]; split <;> simp

@[simp] theorem kept_idleLatches (s : State) : kept (idleLatches s) = kept s :=
  by simp [idleLatches]

@[simp] theorem kept_assemblyTimeout (a0 : Nat) (s : State) : kept (assemblyTimeout a0 s) = kept s :=
  by simp only [assemblyTimeout]; split <;> simp

/-! Release -/

@[simp] theorem kept_makeLive (a0 : Nat) (s : State) : kept (makeLive a0 s) = kept s :=
  by simp only [makeLive]; (repeat' split) <;> simp

@[simp] theorem kept_dropStaged (a0 : Nat) (s : State) : kept (dropStaged a0 s) = kept s :=
  by simp only [dropStaged]; (repeat' split) <;> simp

@[simp] theorem kept_dropStf (a0 : Nat) (s : State) : kept (dropStf a0 s) = kept s :=
  by simp [dropStf]

@[simp] theorem kept_liftCap (s : State) (a1 : Nat) (a2 : Nat) : kept (liftCap s a1 a2) = kept s :=
  by simp [liftCap]

@[simp] theorem kept_applyEffect (s : State) (a1 : Effect) : kept (applyEffect s a1) = kept s :=
  by simp only [applyEffect]; (repeat' split) <;> simp

@[simp] theorem kept_releaseMarks (a0 : Op) (a1 : Status) (s : State) : kept (releaseMarks a0 a1 s) = kept s :=
  by simp only [releaseMarks]; (repeat' split) <;> simp

@[simp] theorem kept_abandonGroupKey (a0 : Nat) (s : State) : kept (abandonGroupKey a0 s) = kept s :=
  by simp [abandonGroupKey]

@[simp] theorem kept_countExtended (a0 : Op) (s : State) : kept (countExtended a0 s) = kept s :=
  by simp only [countExtended]; split <;> simp

@[simp] theorem kept_dirtyUnits (a0 : Op) (s : State) : kept (dirtyUnits a0 s) = kept s :=
  by simp [dirtyUnits]

@[simp] theorem kept_cancelCheckpoint (a0 : Nat) (s : State) : kept (cancelCheckpoint a0 s) = kept s :=
  by simp only [cancelCheckpoint]; (repeat' split) <;> simp

@[simp] theorem kept_rollbackMember (s : State) (a1 : GroupMember) : kept (rollbackMember s a1) = kept s :=
  by simp only [rollbackMember]; (repeat' split) <;> simp

@[simp] theorem kept_rollBack (a0 : Group) (a1 : Nat) (a2 : Status) (s : State) : kept (rollBack a0 a1 a2 s).2 = kept s :=
  by simp [rollBack]

@[simp] theorem kept_finishGroup (a0 : Nat) (a1 : Group) (a2 : List Completion) (s : State) : kept (finishGroup a0 a1 a2 s) = kept s :=
  by simp [finishGroup]

/-! Resets -/

@[simp] theorem kept_wipeRunning (s : State) : kept (wipeRunning s) = kept s :=
  by simp [wipeRunning]

@[simp] theorem kept_flrSettings (s : State) : kept (flrSettings s) = kept s :=
  by simp [flrSettings]

@[simp] theorem kept_flrHandover (s : State) : kept (flrHandover s) = kept s :=
  by simp only [flrHandover]; split <;> simp

@[simp] theorem kept_setUp (a0 : Nat) (s : State) : kept (setUp a0 s) = kept s :=
  by simp [setUp]

@[simp] theorem kept_bootStart (s : State) : kept (bootStart s) = kept s :=
  by simp [bootStart]

@[simp] theorem kept_decodeNow (s : State) : kept (decodeNow s) = kept s :=
  by simp [decodeNow]

@[simp] theorem kept_bootFlash (a0 : BootInput) (s : State) : kept (bootFlash a0 s) = kept s :=
  by simp only [bootFlash]; (repeat' split) <;> simp

@[simp] theorem kept_standingLease (s : State) : kept (standingLease s) = kept s :=
  by simp [standingLease]

@[simp] theorem kept_bootCapsule (s : State) : kept (bootCapsule s) = kept s :=
  by simp [bootCapsule]

@[simp] theorem kept_restoreBlob (a0 : List Nat) (s : State) (a2 : Nat × Blob) : kept (restoreBlob a0 s a2) = kept s :=
  by simp only [restoreBlob]; (repeat' split) <;> simp

@[simp] theorem kept_restoreSlots (a0 : List Nat) (s : State) : kept (restoreSlots a0 s) = kept s :=
  by simp [restoreSlots]

@[simp] theorem kept_wantLeases (s : State) : kept (wantLeases s) = kept s :=
  by simp [wantLeases]

@[simp] theorem kept_startPorts (s : State) : kept (startPorts s) = kept s :=
  by simp [startPorts]

/-! RegWrite -/

@[simp] theorem kept_lockSet (a0 : Nat) (s : State) : kept (lockSet a0 s) = kept s :=
  by simp only [lockSet]; split <;> simp

@[simp] theorem kept_selectWrite (a0 : Nat) (a1 : Nat) (a2 : Nat) (s : State) : kept (selectWrite a0 a1 a2 s) = kept s :=
  by simp only [selectWrite]; split <;> simp

@[simp] theorem kept_beatLoRead (s : State) : kept (beatLoRead s) = kept s :=
  by simp only [beatLoRead]; split <;> simp

@[simp] theorem kept_ringZeroWrite (a0 : Nat) (a1 : Nat) (s : State) : kept (ringZeroWrite a0 a1 s) = kept s :=
  by simp only [ringZeroWrite]; (repeat' split) <;> simp

@[simp] theorem kept_faultnWrite (a0 : Reg) (a1 : Nat) (s : State) : kept (faultnWrite a0 a1 s) = kept s :=
  by simp only [faultnWrite]; split <;> simp

@[simp] theorem kept_msixTableWrite (a0 : Nat) (a1 : Nat) (s : State) : kept (msixTableWrite a0 a1 s) = kept s :=
  by simp only [msixTableWrite]; split <;> simp

@[simp] theorem kept_bar2Word (a0 : Nat) (a1 : Nat) (s : State) : kept (bar2Word a0 a1 s) = kept s :=
  by simp only [bar2Word]; (repeat' split) <;> simp

/-! Members -/

@[simp] theorem kept_askAttest (a0 : Nat) (s : State) : kept (askAttest a0 s) = kept s :=
  by simp [askAttest]

@[simp] theorem kept_replicateAll (a0 : Nat) (s : State) : kept (replicateAll a0 s) = kept s :=
  by simp only [replicateAll]; split <;> simp

@[simp] theorem kept_attestInterval (a0 : Nat) (s : State) : kept (attestInterval a0 s) = kept s :=
  by simp only [attestInterval]; (repeat' split) <;> simp

@[simp] theorem kept_rHelloInA (a0 : Via) (a1 : Bytes) (s : State) : kept (rHelloInA a0 a1 s) = kept s :=
  by simp only [rHelloInA]; (repeat' split) <;> simp

@[simp] theorem kept_queryLeases (s : State) : kept (queryLeases s) = kept s :=
  by simp [queryLeases]

@[simp] theorem kept_rHelloInB (a0 : Via) (a1 : Bytes) (s : State) : kept (rHelloInB a0 a1 s) = kept s :=
  by simp only [rHelloInB]; (repeat' split) <;> simp

@[simp] theorem kept_roleSend (s : State) : kept (roleSend s) = kept s :=
  by simp only [roleSend]; (repeat' split) <;> simp

@[simp] theorem kept_numberUnconfirmed (a0 : Nat) (s : State) : kept (numberUnconfirmed a0 s) = kept s :=
  by simp only [numberUnconfirmed]; (repeat' split) <;> simp

@[simp] theorem kept_commitReplica (a0 : Incoming) (a1 : Bytes) (s : State) : kept (commitReplica a0 a1 s) = kept s :=
  by simp only [commitReplica]; split <;> simp

@[simp] theorem kept_finishReplica (a0 : Incoming) (a1 : Bytes) (s : State) : kept (finishReplica a0 a1 s) = kept s :=
  by simp only [finishReplica]; (repeat' split) <;> simp

@[simp] theorem kept_keyReplicateTimeout (a0 : Nat) (s : State) : kept (keyReplicateTimeout a0 s) = kept s :=
  by simp [keyReplicateTimeout]

@[simp] theorem kept_confirmRevokes (s : State) : kept (confirmRevokes s) = kept s :=
  by unfold confirmRevokes; (repeat' (first | split | (refine kept_foldl _ (fun t x => ?_) _ _))) <;> simp_all

@[simp] theorem kept_failMember (a0 : Nat) (s : State) : kept (failMember a0 s) = kept s :=
  by simp [failMember]

@[simp] theorem kept_replicationTimeout (a0 : Nat) (s : State) : kept (replicationTimeout a0 s) = kept s :=
  by simp only [replicationTimeout]; (repeat' split) <;> simp

/-! Leases -/

@[simp] theorem kept_refuseLease (a0 : Via) (a1 : LeaseMsg) (a2 : Nat) (s : State) : kept (refuseLease a0 a1 a2 s) = kept s :=
  by simp [refuseLease]

@[simp] theorem kept_updGrant (a0 : Nat) (a1 : Nat) (a2 : Nat) (a3 : Grant → Option Grant) (s : State) : kept (updGrant a0 a1 a2 a3 s) = kept s :=
  by simp [updGrant]

@[simp] theorem kept_leaseRequestRepeat (a0 : Nat) (s : State) : kept (leaseRequestRepeat a0 s) = kept s :=
  by simp only [leaseRequestRepeat]; (repeat' split) <;> simp

@[simp] theorem kept_leaseDeadline (a0 : Nat) (a1 : Nat) (s : State) : kept (leaseDeadline a0 a1 s) = kept s :=
  by simp only [leaseDeadline]; (repeat' split) <;> simp

@[simp] theorem kept_standbyAckTimeout (a0 : Nat) (a1 : Nat) (s : State) : kept (standbyAckTimeout a0 a1 s) = kept s :=
  by simp only [standbyAckTimeout]; (repeat' split) <;> simp

/-! Outside -/

@[simp] theorem kept_spdmRequest (a0 : Bool) (a1 : Bool) (a2 : Nat) (s : State) : kept (spdmRequest a0 a1 a2 s) = kept s :=
  by simp only [spdmRequest]; split <;> simp

end Sys2Proof.Machine
end

