-- ==== Sys2Proof/Laws/Keys.lean ====
section
/-! SUPPORT. What the encodings of keys guarantee: an encapsulation key the device makes re-encodes to itself (05_lattice R96). -/
namespace Sys2Proof.Machine

@[simp] theorem canonCoeffs_length : ∀ b : Bytes, (canonCoeffs b).length = b.length
  | [] => rfl
  | [_] => rfl
  | [_, _] => rfl
  | a :: b :: c :: rest => by simp [canonCoeffs, canonCoeffs_length rest]

theorem coeffsOk_canonCoeffs : ∀ b : Bytes, coeffsOk (canonCoeffs b) = true
  | [] => rfl
  | [_] => rfl
  | [_, _] => rfl
  | a :: b :: c :: rest => by
    simp only [canonCoeffs, coeffsOk, coeffsOk_canonCoeffs rest, Bool.and_true, Bool.and_eq_true, decide_eq_true_eq, BitVec.toNat_ofNat]
    have hx := Nat.mod_lt (a.toNat + 256 * (b.toNat % 16)) (by decide : 0 < 3329)
    have hy := Nat.mod_lt (b.toNat / 16 + 16 * c.toNat) (by decide : 0 < 3329)
    generalize (a.toNat + 256 * (b.toNat % 16)) % 3329 = x at hx ⊢
    generalize (b.toNat / 16 + 16 * c.toNat) % 3329 = y at hy ⊢
    have h1 : x / 256 + 16 * (y % 16) < 256 := by omega
    have h2 : y / 16 < 256 := by omega
    simp only [Nat.reducePow, Nat.mod_mod, Nat.mod_eq_of_lt h1, Nat.mod_eq_of_lt h2]
    constructor <;> omega

/-- No key pair the device generates fails the modulus check. -/
theorem mlkemPublic_modulusOk (set : Nat) (seed : Bytes) : mlkemModulusOk set (mlkemPublic set seed) = true := by
  have h : ∀ (n : Nat) (raw : Bytes), (canonCoeffs (raw.take n) ++ raw.drop n).take n = canonCoeffs (raw.take n) := by
    intro n raw
    rw [List.take_append, List.take_of_length_le (by simp)]
    have : (raw.drop n).take (n - (canonCoeffs (raw.take n)).length) = [] := by
      by_cases hn : n ≤ raw.length
      · simp [Nat.min_eq_left hn]
      · simp [List.drop_eq_nil_of_le (by omega : raw.length ≤ n)]
    rw [this, List.append_nil]
  simp only [mlkemModulusOk, mlkemPublic, h, coeffsOk_canonCoeffs]

end Sys2Proof.Machine
end

