-- ==== Sys2Proof/Machine/ReadReg.lean ====
section
/-! DEFINITION. What the registers read: every register of the two indexes as a word of the state, and a read of either BAR
(00_scope R4, R7, R501; 21_register_index R475-R478, R480, and the register tables of the chapters). -/
namespace Sys2Proof.Machine

/-! #### Fields and tables -/

/-- A register word from its fields, each at its low bit and cut to its width; what no field covers reads 0 (R4). -/
def packWord (l : List (Nat × Nat × Nat)) : Nat := (l.map (fun f => f.2.2 % 2 ^ (f.1 + 1 - f.2.1) * 2 ^ f.2.1)).sum

/-- Bit b is set where number `base + b` is listed. -/
def maskWord (base : Nat) (l : List Nat) : Nat := ((List.range 32).map (fun b => ofBool (l.contains (base + b)) * 2 ^ b)).sum

/-- A number in two's complement. -/
def twos (width : Nat) (x : Int) : Nat := (x % 2 ^ width).toNat

/-- Eclipsed units of a kind, `base` on. -/
def eclipsedWord (s : State) (k : UnitKind) (base : Nat) : Nat := maskWord base ((s.ecl.units.filter (·.kind == k)).map (·.num))

/-- The index of a register in a replicated range. -/
def indexIn (base stride count off : Nat) : Option Nat :=
  if base ≤ off ∧ off < base + stride * count ∧ (off - base) % stride = 0 then some ((off - base) / stride) else none

/-- UCODE_REV of an opcode class (05, 06, 08, 09, 10). -/
def ucodeRev (s : State) (cls : Nat) : Nat := s.cus.up.ucode.getD (cls - 1) 0

/-- A stored word as the host reads it. -/
def storedWord (s : State) (off : Nat) : Nat := (regWord s off).toNat

/-! #### GLB, HP and QM (20, 14 R326, 03 R64, 13) -/

def readGlobal (s : State) (off : Nat) : Nat :=
  if off = 0x000010 then
    packWord [(2, 0, s.glb.mode.code), (3, 3, ofBool s.glb.halted), (4, 4, ofBool s.glb.recoveryHold), (5, 5, ofBool s.glb.draining),
      (8, 6, if s.glb.draining then s.glb.target.code else 0)]
  else if off = 0x000014 then packWord [(3, 0, s.glb.cause), (15, 8, s.glb.warmCount), (31, 16, s.glb.flrCount)]
  else 0

/-- The MSI-X table, whose vectors are masked until they are written, and the PBA. -/
def readMsix (s : State) (off : Nat) : Nat :=
  if off < 0x018000 then maskWord (8 * (off - 0x017F00)) s.hp.pba
  else if off % 16 = 12 then ((lookup off s.regs).map (·.toNat)).getD 1
  else storedWord s off

def readQueues (s : State) (off : Nat) : Nat :=
  if off = 0x020108 then packWord [(15, 0, s.qm.strayCount), (25, 16, s.qm.strayInst), (31, 26, s.qm.strayIndex)] else storedWord s off

/-! #### IM (14) -/

def readInstance (i : Inst) (n reg : Nat) (s : State) : Nat :=
  if reg = 0 then
    packWord [(19, 0, i.pasid), (21, 20, match i.state with | .free => 0 | .bound => 1 | .resetting => 2 | .removing => 3)]
  else if reg = 4 then packWord [(9, 0, i.share), (28, 16, i.reserve)]
  else if reg = 8 then packWord [(12, 0, i.limit), (28, 16, instCount s n), (29, 29, ofBool (stalled s n))]
  else packWord [(7, 0, i.gen), (31, 16, i.discards)]

def readManager (s : State) (off : Nat) : Nat :=
  if off = 0x030100 then packWord [(12, 0, 4096 - s.ops.length), (28, 16, 4096 - holdsUsed s)]
  else if off = 0x030104 then packWord [(12, 0, reservedSum s), (28, 16, sharedUsed s)]
  else if off = 0x030108 then packWord [(13, 0, 8192 - granulesUsed s)]
  else if off = 0x030204 then packWord [(15, 0, s.im.extWork), (31, 16, s.im.extSupply)]
  else if 0x038000 ≤ off ∧ off < 0x03C000 then
    let n := (off - 0x038000) / 16
    readInstance (instOf s n) n (off % 16) s
  else storedWord s off

/-! #### The engine clusters (05, 06, 07, 08, 09, 10) -/

def readLattice (s : State) (off : Nat) : Nat :=
  if off = 0x040000 then
    packWord [(15, 0, ucodeRev s 1), (23, 16, s.eng.info.fndsaSpec), (24, 24, ofBool (s.eng.info.fndsaCtx && s.eng.info.fndsaSpec != 0))]
  else if off = 0x040010 then eclipsedWord s .lat 0
  else if off = 0x040014 then eclipsedWord s .lat 32
  else 0

def readPin (s : State) (n : Nat) : Nat :=
  match lookup n s.hf.pins with
  | some p =>
    if p.live then packWord [(13, 0, p.slot), (14, 14, 1), (15, 15, ofBool (p.trees ≤ p.present.length)), (25, 16, p.present.length)] else 0
  | none => 0

def readCustodyUnit (s : State) (off : Nat) : Nat :=
  if off = 0x050810 then
    packWord [(12, 0, s.stf.keys.length), (13, 13, s.stf.active), (15, 14, s.stf.role), (30, 16, (activeHalf s.stf).length),
      (31, 31, ofBool s.stf.sole)]
  else if off = 0x050818 then s.stf.skipped % 2 ^ 32
  else if off = 0x05081C then s.stf.skipped / 2 ^ 32 % 2 ^ 32
  else if off = 0x050820 then packWord [(15, 0, s.stf.odd)]
  else storedWord s off

def readForest (s : State) (off : Nat) : Nat :=
  match indexIn 0x050100 4 32 off, indexIn 0x050180 4 8 off, indexIn 0x050400 4 64 off with
  | some n, _, _ => maskWord (32 * n) s.ecl.shaLanes
  | _, some n, _ => maskWord (32 * n) s.ecl.keccakLanes
  | _, _, some n => readPin s n
  | _, _, _ =>
    if off = 0x050000 then ucodeRev s 2
    else if off = 0x050004 then packWord [(10, 0, 1024 - s.ecl.shaLanes.length), (24, 16, 256 - s.ecl.keccakLanes.length)]
    else if off = 0x050010 then eclipsedWord s .hf 0
    else if off = 0x050204 then
      packWord [(8, 0, s.hf.tops.length), (15, 9, (s.hf.pins.filter (·.2.live)).length), (31, 16, s.hf.drops)]
    else if off = 0x050208 then packWord [(16, 0, freeBlocks s)]
    else readCustodyUnit s off

def readHqcLens (s : State) (off : Nat) : Nat :=
  let (pk, ct, sk, ss) := s.eng.info.hqcLens.getD ((off - 0x060040) / 8) (0, 0, 0, 0)
  if off % 8 = 0 then packWord [(15, 0, pk), (31, 16, ct)] else packWord [(15, 0, sk), (23, 16, ss)]

def readCode (s : State) (off : Nat) : Nat :=
  if off = 0x060000 then packWord [(15, 0, ucodeRev s 3), (23, 16, s.eng.info.hqcSpec)]
  else if off = 0x060010 then packWord [(7, 0, eclipsedWord s .code 0), (9, 8, eclipsedWord s .elim 0)]
  else if off = 0x060024 then packWord [(15, 0, s.eng.cmKeypairs), (31, 16, s.eng.cmLimits)]
  else if 0x060040 ≤ off ∧ off < 0x060058 then readHqcLens s off
  else storedWord s off

def readLongNumber (s : State) (off : Nat) : Nat :=
  if off = 0x070000 then ucodeRev s 4
  else if off = 0x070010 then eclipsedWord s .ln 0
  else if off = 0x070024 then packWord [(15, 0, s.eng.lnWipes), (31, 16, s.eng.lnLimits)]
  else storedWord s off

/-- FX: STREAM_LIMIT as BOOT has lowered it (R204). -/
def readFixity (s : State) (off : Nat) : Nat :=
  if off = 0x080000 then ucodeRev s 5
  else if off = 0x080010 then eclipsedWord s .lane 0
  else if off = 0x080014 then eclipsedWord s .lane 32
  else if off = 0x080018 then eclipsedWord s .gcm 0
  else if off = 0x080020 then if s.glb.mode = .boot then storedWord s off else packWord [(11, 0, s.fx.limit)]
  else if off = 0x080024 then packWord [(11, 0, s.fx.streams.length), (19, 12, s.fx.yielded.length)]
  else if off = 0x080034 then sat (2 ^ 32 - 1) s.fx.yields
  else if off = 0x080050 then ((s.cus.up.meas.take 4).zipIdx.map (fun e => e.1 % 4 * 4 ^ e.2)).sum
  else storedWord s off

/-! #### KV (12) -/

def SlotState.code : SlotState → Nat
  | .free => 0 | .live => 1 | .staged => 2 | .buffer => 3 | .revoked => 4 | .damaged => 5 | .wiping => 6 | .retired => 7

/-- The four query registers of the number KV_SLOT_SEL selects; a FREE number has an epoch and nothing else. -/
def readSlot (s : State) (off : Nat) : Nat :=
  let n := setting s 0x090010 13 0
  if off = 0x090020 then epoch s.kv n
  else match slot? s.kv n with
    | none => 0
    | some k =>
      if off = 0x090014 then
        packWord [(2, 0, k.state.code), (3, 3, ofBool (lookup n s.kv.blobs).isSome), (4, 4, ofBool k.shared), (5, 5, ofBool k.publicOnly),
          (8, 6, depth k), (19, 10, k.owner), (31, 20, k.usage)]
      else if off = 0x090018 then packWord [(15, 0, k.suite), (31, 16, k.dest)]
      else
        packWord [(13, 0, (k.lineage.head?.map (·.1)).getD 0), (14, 14, ofBool k.fromRoot), (15, 15, ofBool (!k.lineage.isEmpty)),
          (31, 16, k.hostTag)]

def readVault (s : State) (off : Nat) : Nat :=
  if off = 0x090004 then packWord [(15, 0, arenaFree s.kv), (31, 16, mramFree s.kv)]
  else if 0x090014 ≤ off ∧ off ≤ 0x090020 then readSlot s off
  else if off = 0x090044 then
    packWord [(0, 0, ofBool s.kv.src0.ok), (1, 1, ofBool s.kv.src1.ok), (2, 2, ofBool (rngOk s.kv && s.kv.drbgs.all (·.seeded))),
      (23, 16, s.kv.src0.fails), (31, 24, s.kv.src1.fails)]
  else if off = 0x090048 then packWord [(7, 0, 26), (25, 16, 664)]
  else storedWord s off

/-! #### MEM (15, 03 R54) -/

def leaseWord : Lease → Nat
  | .free => 0
  | .unit _ num cls _ => packWord [(2, 0, 1), (13, 8, num), (17, 14, cls)]
  | .buffer h => packWord [(2, 0, 2), (31, 18, h)]
  | .standing => 3
  | .withdrawn => 4
  | .wiping => 5

/-- Units whose spare rows are all used (R342). -/
def exhaustedUnits (s : State) : Nat :=
  ((List.range 281).filter (fun ck => spareRows ck != 0 && spareRows ck ≤ sparesUsed s ck)).length

def readMemory (s : State) (off : Nat) : Nat :=
  match indexIn 0x0A0100 4 128 off with
  | some n => leaseWord (s.mem.leases.getD n .free)
  | none =>
    if off = 0x0A0004 then packWord [(0, 0, ofBool s.mem.behind), (31, 16, s.mem.passes)]
    else if off = 0x0A0008 then packWord [(8, 0, s.mem.weak.length), (31, 16, s.mem.corrections)]
    else if off = 0x0A000C then packWord [(9, 0, s.mem.remaps.length), (24, 16, exhaustedUnits s)]
    else if off = 0x0A0010 then
      packWord [(8, 0, s.mem.bistFailed.foldl min 0x1FF), (24, 16, s.mem.bistFailed.length), (31, 31, ofBool s.mem.bistDone)]
    else if off = 0x0A0020 then storedWord s off + packWord [(24, 16, s.mem.injections.length)]
    else if off = 0x0A0030 then s.mem.lastUe % 2 ^ 32
    else if off = 0x0A0040 then storedWord s off + packWord [(14, 8, bufBanks s)]
    else storedWord s off

/-! #### SUP (16) -/

/-- The records BB_VIEW shows: the live ones, or those of a black-box copy, 1 the newest (R359; log 152). -/
def shownRecords (s : State) : Option FaultRec × List FaultRec :=
  let v := setting s 0x0B0604 4 0
  if v = 0 then (s.sup.fc.first, s.sup.fc.log)
  else match s.sup.fc.blackBox[v - 1]? with
    | some b => (b.first, b.log)
    | none => (none, [])

def messageHigh (r : FaultRec) : Nat := packWord [(10, 0, r.sequence), (13, 11, r.origSeverity), (21, 14, r.kind), (31, 22, r.source)]

/-- The four words of a fault record. -/
def recordWord (r : FaultRec) (reg : Nat) : Nat :=
  if reg = 0 then r.address % 2 ^ 32
  else if reg = 4 then messageHigh r
  else if reg = 8 then
    packWord [(0, 0, 1), (1, 1, ofBool r.cleared), (2, 2, ofBool r.escalated), (3, 3, ofBool r.acked), (4, 4, ofBool r.fromBlackbox),
      (7, 5, r.origSeverity), (15, 8, r.repeats)]
  else r.beat % 2 ^ 32

/-- SUP_FAULT_REC_n: FIRST at n = -1, then the log. -/
def readRecord (s : State) (off : Nat) : Nat :=
  let (first, log) := shownRecords s
  let r := if off < 0x0B0100 then first else log[(off - 0x0B0100) / 16]?
  (r.map (fun r => recordWord r (off % 16))).getD 0

def readCollector (s : State) (off : Nat) : Nat :=
  let c := s.sup.fc
  if off = 0x0B0600 then
    packWord [(6, 0, c.log.length), (15, 8, c.lost), (23, 16, c.gaps),
      (26, 24, ((allRecs c).filter (fun r => !r.acked)).foldl (fun m r => max m r.severity) 0), (27, 27, ofBool c.safeByFault),
      (28, 28, ofBool s.glb.halted)]
  else if off = 0x0B0614 then packWord [(15, 0, c.recovered), (25, 16, c.stopped.getD 0), (26, 26, ofBool (!c.stoppedNow.isEmpty))]
  else if off = 0x0B0620 then storedWord s off + packWord [(8, 8, ofBool c.faultNState), (10, 10, ofBool (faultNPin s))]
  else storedWord s off

/-- The calibration item SUP_CAL_SEL selects. -/
def readCal (s : State) (off : Nat) : Nat :=
  match s.sup.cal[setting s 0x0B0900 7 0]? with
  | none => 0
  | some c =>
    if off = 0x0B0904 then twos 16 c.factory
    else if off = 0x0B0908 then twos 16 c.user
    else twos 16 c.eff + packWord [(31, 31, ofBool c.clipped)]

def readEvent (s : State) (k : Nat) : Nat :=
  match lookup k s.im.events with
  | some e => packWord [(23, 0, e.detail), (30, 24, e.count), (31, 31, ofBool e.pending)]
  | none => 0

def readPower (s : State) (off : Nat) : Nat :=
  if off = 0x0B0704 then
    packWord [(8, 0, effectiveBudget s), (17, 9, standing s), (26, 18, ceilDiv (energyUsed s) 64), (27, 27, ofBool s.sup.brownout),
      (28, 28, ofBool s.sup.thermal.isSome), (29, 29, ofBool (s.ops.any (·.stage == .admitted)))]
  else match indexIn 0x0B0800 4 6 off, indexIn 0x0B0840 4 8 off with
    | some n, _ =>
      ((s.sup.supplies[n]?).map (fun v => packWord [(12, 0, v.mv), (13, 13, ofBool v.warn), (14, 14, ofBool (v.belowRange && n == 0))])).getD 0
    | _, some n => ((s.sup.sensors[n]?).map (fun t => packWord [(11, 0, twos 12 t.temp), (12, 12, ofBool t.eclipsed)])).getD 0
    | _, _ => storedWord s off

def readSupervisor (s : State) (off : Nat) : Nat :=
  if 0x0B00F0 ≤ off ∧ off < 0x0B0500 then readRecord s off
  else if off < 0x0B0580 then maskWord (8 * (off - 0x0B0500)) s.sup.fc.live
  else if off < 0x0B0700 then readCollector s off
  else if off < 0x0B0900 then readPower s off
  else if 0x0B0904 ≤ off ∧ off ≤ 0x0B090C then readCal s off
  else if off = 0x0B0A00 then s.beat % 2 ^ 32
  else if off = 0x0B0A04 then s.glb.beatHi
  else if 0x0B4000 ≤ off then readEvent s ((off - 0x0B4000) / 4)
  else storedWord s off

/-! #### CUS (17, 18) -/

def readBoot (s : State) (off : Nat) : Nat :=
  let u := s.cus.up
  let r := record_ s
  if off = 0x0C0000 then
    packWord [(3, 0, u.step), (5, 4, u.result), (6, 6, u.runningBank), (7, 7, ofBool u.fellBack), (15, 8, u.failCode)]
  else if off = 0x0C0010 then
    packWord [(1, 0, r.stageState), (2, 2, r.stageBank), (3, 3, ofBool r.isPending), (5, 4, r.attempts), (6, 6, s.glb.activeCore),
      (7, 7, ofBool u.standbyReady), (8, 8, ofBool r.ownerSetSeen)]
  else if off = 0x0C0014 then (u.running.map (·.setId)).getD 0
  else if off = 0x0C0018 then r.stagedId
  else if off = 0x0C001C then u.capsuleId
  else if off = 0x0C0020 then packWord [(15, 0, r.minSvn), (31, 16, (u.running.map (·.svn)).getD 0)]
  else packWord [(4, 0, u.flashLog2), (5, 5, ofBool u.sfdpOk)]

def readLifecycle (s : State) (off : Nat) : Nat :=
  let c := s.cus
  if off = 0x0C0100 then
    packWord [(2, 0, c.lc.code), (3, 3, ofBool (ownerKilled c.otp)), (4, 4, ofBool (identityKilled c.otp)), (5, 5, ofBool c.marginMismatch),
      (6, 6, ofBool c.markerFound), (7, 7, ofBool c.vddOtpOk), (11, 8, c.authFails)]
  else if off = 0x0C0130 then
    packWord [(0, 0, ofBool c.session.isSome), (1, 1, ofBool c.challenge.isSome), (15, 8, (c.session.map (·.1)).getD 0),
      (31, 16, (c.session.map (fun x => ceilDiv (x.2 - s.beat) (beatsS 1))).getD 0)]
  else if off = 0x0C0144 then packWord [(3, 0, c.tamperLive), (7, 4, c.tamperLatched), (15, 8, c.tamperCount)]
  else if off < 0x0C0120 then c.otp.pattern / 2 ^ (8 * (off - 0x0C0110)) % 2 ^ 32
  else if off < 0x0C0130 then field c.otp.uid (off - 0x0C0120) 4
  else storedWord s off

/-! #### WY (19) -/

def PortState.code : PortState → Nat
  | .down => 0 | .training => 1 | .up => 2 | .secure => 3 | .restricted => 4 | .eclipsed => 5

def readPort (p : Port) (reg : Nat) : Nat :=
  if reg = 4 then packWord [(2, 0, p.state.code), (6, 3, p.lanes), (7, 7, ofBool p.active), (17, 8, p.peer)]
  else if reg = 8 then packWord [(15, 0, p.fecCorrected), (31, 16, p.fecUncorr)]
  else packWord [(7, 0, p.dropped), (15, 8, p.auth), (23, 16, p.replay), (31, 24, p.starved)]

def readWyrum (s : State) (off : Nat) : Nat :=
  if off < 0x0D0400 ∧ off % 0x100 ≠ 0 then ((s.ports[off / 0x100 % 4]?).map (fun p => readPort p (off % 0x100))).getD 0
  else if off = 0x0D0810 then
    packWord [(9, 0, (selfMember s).getD 0x3FF), (19, 10, s.grp.primary), (29, 20, s.grp.standby.getD 0x3FF), (30, 30, ofBool (inDeviceGroup s)),
      (31, 31, ofBool s.grp.joined)]
  else if off = 0x0D0814 then packWord [(10, 0, (s.grp.members.filter (fun e => (nextHop s e.1).isSome)).length)]
  else if off = 0x0D0818 then (s.grp.charter.map (·.seq)).getD 0 % 2 ^ 32
  else if off = 0x0D081C then s.grp.epoch % 2 ^ 32
  else storedWord s off

/-! #### Ring sets (13, 21 R476) -/

def ringErrorsOf (s : State) (n : Nat) : Nat × Nat × Nat × Nat :=
  match ring? s n with
  | some r => (r.dbIgnored, r.tailPhase, r.fetchErrors, r.writeErrors)
  | none => (lookup n s.qm.errors).getD (0, 0, 0, 0)

/-- The registers of an enabled ring other than RING_n_ERRORS. -/
def ringWord (r : Ring) (reg : Nat) : Nat :=
  if reg = 0x00 then
    packWord [(0, 0, 1), (1, 1, ofBool r.tailMode), (6, 2, r.sizeLog2), (13, 8, r.dbIndex), (25, 16, r.inst)]
  else if reg = 0x08 then r.sqBase % 2 ^ 32
  else if reg = 0x0C then r.sqBase / 2 ^ 32
  else if reg = 0x10 then r.cqBase % 2 ^ 32
  else if reg = 0x14 then r.cqBase / 2 ^ 32
  else if reg = 0x18 then r.idxBase % 2 ^ 32
  else if reg = 0x1C then r.idxBase / 2 ^ 32
  else if reg = 0x20 then packWord [(16, 0, indexWord r.size r.sqHead), (20, 17, r.cache.length), (21, 21, ofBool r.stopped)]
  else if reg = 0x24 then
    packWord [(16, 0, indexWord r.size r.cqTail), (17, 17, ofBool (cqFull r)), (18, 18, ofBool r.backlog),
      (31, 19, if ringStalled r then r.outq.length else 0)]
  else 0

/-- A set: RING_n_ERRORS keeps its counts after the ring has gone, and ring 0's fields read as written while it is not enabled. -/
def readRing (s : State) (n reg : Nat) : Nat :=
  if reg = 0x28 then
    let (db, ph, fe, we) := ringErrorsOf s n
    packWord [(7, 0, db), (15, 8, ph), (23, 16, fe), (31, 24, we)]
  else match ring? s n with
    | some r => if r.enabled then ringWord r reg else 0
    | none => if n = 0 && reg < 0x20 then storedWord s (0x100000 + reg) else 0

/-! #### The indexes -/

/-- The registers of the BAR0 index, blocks in the order of their offsets: (first offset, stride, how many, what a read of one gives). -/
def bar0Index : List (Nat × Nat × Nat × (State → Nat → Nat)) :=
  [(0x000010, 4, 2, readGlobal), (0x017F00, 4, 64, readMsix), (0x018000, 4, 8192, readMsix),
   (0x020100, 4, 3, readQueues), (0x030100, 4, 4, readManager), (0x030200, 4, 2, readManager),
   (0x034000, 4, 4096, readManager), (0x038000, 4, 4096, readManager), (0x03C000, 4, 384, readManager),
   (0x040000, 16, 2, readLattice), (0x040014, 4, 1, readLattice),
   (0x050000, 4, 2, readForest), (0x050010, 16, 2, readForest), (0x050100, 4, 40, readForest), (0x050200, 4, 3, readForest),
   (0x050400, 4, 64, readForest), (0x050800, 4, 3, readForest), (0x050810, 8, 3, readForest), (0x05081C, 4, 1, readForest),
   (0x060000, 16, 3, readCode), (0x060024, 4, 1, readCode), (0x060040, 4, 6, readCode),
   (0x070000, 16, 3, readLongNumber), (0x070024, 4, 1, readLongNumber),
   (0x080000, 16, 6, readFixity), (0x080014, 4, 2, readFixity), (0x080024, 16, 2, readFixity),
   (0x090004, 12, 2, readVault), (0x090014, 4, 4, readVault), (0x090040, 4, 3, readVault),
   (0x0A0000, 4, 5, readMemory), (0x0A0020, 16, 3, readMemory), (0x0A0100, 4, 128, readMemory),
   (0x0B00F0, 4, 260, readSupervisor), (0x0B0500, 4, 32, readSupervisor), (0x0B0600, 4, 2, readSupervisor),
   (0x0B0610, 4, 2, readSupervisor), (0x0B0620, 4, 1, readSupervisor), (0x0B0700, 4, 2, readSupervisor),
   (0x0B0800, 4, 6, readSupervisor), (0x0B0840, 4, 8, readSupervisor), (0x0B0900, 4, 4, readSupervisor),
   (0x0B0A00, 4, 2, readSupervisor), (0x0B4000, 4, 384, readSupervisor),
   (0x0C0000, 16, 3, readBoot), (0x0C0014, 4, 3, readBoot), (0x0C0024, 4, 1, readBoot),
   (0x0C0100, 16, 1, readLifecycle), (0x0C0110, 4, 9, readLifecycle), (0x0C0140, 4, 2, readLifecycle),
   (0x0D0000, 4, 4, readWyrum), (0x0D0100, 4, 4, readWyrum), (0x0D0200, 4, 4, readWyrum), (0x0D0300, 4, 4, readWyrum),
   (0x0D0800, 4, 2, readWyrum), (0x0D0810, 4, 4, readWyrum)]

/-- BAR0 reads answer nothing in D3hot and while the die is held in reset (R478). -/
def bar0Reads (s : State) : Bool := !(s.hp.d3hot || s.glb.perst)

/-- A debug session whose scope includes REG is open (17 R394). -/
def regScope (s : State) : Bool := (s.cus.session.map (fun x => bit x.1 1)).getD false

/-- One aligned word of BAR0.  A reserved offset and a register that is only written read 0 (R7, R476); under a debug session with REG a
reserved offset gives a vendor register, of which nothing is stated (R477, log 152). -/
def readBar0Word (s : State) (off : Nat) : Nat :=
  if 0x100000 ≤ off ∧ off < 0x500000 ∧ off % 0x400 < 0x2C ∧ off % 0x400 ≠ 4 then readRing s ((off - 0x100000) / 0x400) (off % 0x400)
  else if off = 0x000018 then 0
  else match bar0Index.find? (fun e => (indexIn e.1 e.2.1 e.2.2.1 off).isSome) with
    | some e => e.2.2.2 s off
    | none => if regScope s then algNat .vendorReg [off, s.beat] [] % 2 ^ 32 else 0

/-- One aligned word of BAR2: INST_CQ_MOD of an enabled ring; the other registers are only written, and the rest reserved. -/
def readBar2Word (s : State) (off : Nat) : Nat :=
  if off % 0x1000 < 0x800 ∧ off % 0x20 = 0x10 then
    match ringAt s (off / 0x1000) (off % 0x1000 / 0x20) with
    | some (_, r) => packWord [(7, 0, r.countM1), (17, 8, r.timerUs), (31, 31, ofBool r.irqEn)]
    | none => 0
  else 0

/-- A read of `width` bytes at an offset of a BAR (R475): none is an Unsupported Request.  A narrow or unaligned read gives the addressed
bytes of the word that holds it, and an 8-byte read both words of one instant. -/
def readBar (s : State) (bar off width : Nat) : Option Nat :=
  let word := if bar = 0 then readBar0Word s else readBar2Word s
  if !bar0Reads s || !inBar bar off then none
  else if width = 8 ∧ off % 8 = 0 then some (word off + 2 ^ 32 * word (off + 4))
  else some (word (off - off % 4) / 2 ^ (8 * (off % 4)) % 2 ^ (8 * min width (4 - off % 4)))

end Sys2Proof.Machine
end

