-- ==== Sys2Proof/WellFormed.lean ====
section
/-! DEFINITION. Well-formed commands: every number within the range the spec gives that thing, every entry of the spec's length. -/
namespace Sys2Proof

/-- Units as ENGINE_REINIT counts them: fault sources below 0x180 (16 R352, R366); the three findings of a unit's own check (09 R184). -/
def OpInput.wf (i : OpInput) : Bool := i.fails.all (· < 0x180) && i.selfCheck < 3

/-- OTP offsets within the 8 KiB array, the 281 checkers (15 R332), slot numbers, the samples of two start-up tests (12 R271), the four parts
(10 R220) and sources of the fault network. -/
def BootInput.wf (b : BootInput) : Bool :=
  b.otpMargin.all (· < 8192) && b.otpBad.all (· < 8192) && b.checkers.all (· < 281) && b.blobsBad.all (· < 16384)
    && b.src0 < 2 ^ 1024 && b.src1 < 2 ^ 1024 && b.parts.length == 4 && b.kat.all (fun e => e.1 < 1024)

/-- The widths of a frame's VC, LEN, SEQ and ACK_SEQ fields (19 R433). -/
def FrameIn.wf (f : FrameIn) : Bool := f.vc < 4 && f.len < 2 ^ 16 && f.seq < 2 ^ 64 && f.ack < 2 ^ 64

/-- A port, and a member number of a charter (19 R444, R448). -/
def Via.wf (v : Via) : Bool := v.port < 4 && v.src < 1024

/-- Fragments are counted from 0 and there is at least one (19 R452, R457). -/
def CharterFrag.wf (f : CharterFrag) : Bool := f.frag < 256 && f.count < 256 && f.total < 2 ^ 32
def KeyFrag.wf (f : KeyFrag) : Bool := f.slot < 65536 && f.frag < 256 && f.count < 256 && f.total < 2 ^ 32

/-- The fields of a lease message at their widths (19 R454). -/
def LeaseMsg.wf (m : LeaseMsg) : Bool :=
  m.keyId.length == 16 && m.slot < 65536 && m.sat < 65536 && m.leaseNo < 2 ^ 32 && m.start < 2 ^ 64 && m.stop < 2 ^ 64 && m.deadline < 2 ^ 64
    && m.epoch < 2 ^ 32 && m.reqNo < 2 ^ 32 && m.code < 2 ^ 32

/-- A 32-byte nonce and a state code (19 R458). -/
def AttestMsg.wf (m : AttestMsg) : Bool := m.nonce.length == 32 && m.state < 256 && m.setId < 2 ^ 32 && m.svn < 2 ^ 16

/-- A command's operands are in range. -/
def Instr.wf : Instr → Bool
  | .kemKeygen _ inp => inp.wf
  | .kemEncaps _ inp => inp.wf
  | .kemDecaps _ inp => inp.wf
  | .mldsaKeygen _ inp => inp.wf
  | .mldsaSign _ inp => inp.wf
  | .mldsaVerify _ inp => inp.wf
  | .fndsaVerify _ inp => inp.wf
  | .slhKeygen _ inp => inp.wf
  | .slhSign _ inp => inp.wf
  | .slhVerify _ inp => inp.wf
  | .slhPin _ inp => inp.wf
  | .slhUnpin _ inp => inp.wf
  | .treeBuild _ inp => inp.wf
  | .treeReduced _ inp => inp.wf
  | .stfKeygen _ inp => inp.wf
  | .stfSign _ inp => inp.wf
  | .stfVerify _ inp => inp.wf
  | .stfSplit _ inp => inp.wf
  | .stfStatus _ inp => inp.wf
  | .cmKeygen _ inp => inp.wf
  | .cmEncaps _ inp => inp.wf
  | .cmDecaps _ inp => inp.wf
  | .hqcKeygen _ inp => inp.wf
  | .hqcEncaps _ inp => inp.wf
  | .hqcDecaps _ inp => inp.wf
  | .ecKeygen _ inp => inp.wf
  | .ecdsaSign _ inp => inp.wf
  | .ecdsaVerify _ inp => inp.wf
  | .eddsaSign _ inp => inp.wf
  | .eddsaVerify _ inp => inp.wf
  | .ecdh _ inp => inp.wf
  | .rsaKeygen _ inp => inp.wf
  | .rsaSign _ inp => inp.wf
  | .rsaVerify _ inp => inp.wf
  | .rsaEncrypt _ inp => inp.wf
  | .rsaDecrypt _ inp => inp.wf
  | .dsaVerify _ inp => inp.wf
  | .streamOpen _ inp => inp.wf
  | .streamFeed _ inp => inp.wf
  | .streamTail _ inp => inp.wf
  | .digest _ inp => inp.wf
  | .digestCompare _ inp => inp.wf
  | .streamSave _ inp => inp.wf
  | .streamRestore _ inp => inp.wf
  | .gcmEncrypt _ inp => inp.wf
  | .gcmDecrypt _ inp => inp.wf
  | .mac _ inp => inp.wf
  | .macCompare _ inp => inp.wf
  | .keyImportWrapped _ inp => inp.wf
  | .keyImportPublic _ inp => inp.wf
  | .keyGenerate _ inp => inp.wf
  | .keyDerive _ inp => inp.wf
  | .keyExportWrapped _ inp => inp.wf
  | .keyExportPublic _ inp => inp.wf
  | .keySetAttr _ inp => inp.wf
  | .keyInvalidate _ inp => inp.wf
  | .keyPersist _ inp => inp.wf
  | .keyDestroy _ inp => inp.wf
  | .random _ inp => inp.wf
  | .bufCreate _ inp => inp.wf
  | .bufLoad _ inp => inp.wf
  | .bufFree _ inp => inp.wf
  | .reattest _ inp => inp.wf
  | .compositeSign _ inp => inp.wf
  | .compositeVerify _ inp => inp.wf
  | .instCreate _ inp => inp.wf
  | .instReset _ inp => inp.wf
  | .instRemove _ inp => inp.wf
  | .instSetShare _ inp => inp.wf
  | .ringCreate _ inp => inp.wf
  | .ringDestroy _ inp => inp.wf
  | .ringCancel _ inp => inp.wf
  | .engineReinit _ inp => inp.wf
  | .modeSetService _ inp => inp.wf
  | .modeSetQuiesce _ inp => inp.wf
  | .modeSetDormant _ inp => inp.wf
  | .modeSetMaintenance _ inp => inp.wf
  | .faultAck _ inp => inp.wf
  | .lcTransition _ inp => inp.wf
  | .zeroise _ inp => inp.wf
  | .debugChallenge _ inp => inp.wf
  | .debugOpen _ inp => inp.wf
  | .debugClose _ inp => inp.wf
  | .faultInjectArm _ inp => inp.wf
  | .faultInjectDisarm _ inp => inp.wf
  | .updateStage _ inp => inp.wf
  | .updateActivate _ inp => inp.wf
  | .updateActivateReset _ inp => inp.wf
  | .charterLoad _ inp => inp.wf
  | .groupJoin _ inp => inp.wf
  | .groupLeave _ inp => inp.wf
  | .takePrimary _ inp => inp.wf
  | .endLease _ inp => inp.wf
  | .settingWrite _ inp => inp.wf
  | .sqDoorbellScan inst d _ => inst < 1024 && d < 64
  | .sqDoorbellTail inst d w => inst < 1024 && d < 64 && w < 2 ^ 32
  | .cqDoorbell inst d _ => inst < 1024 && d < 64
  | .sqInvalidate inst d w => inst < 1024 && d < 64 && w < 2 ^ 32
  | .cqModWrite inst d w => inst < 1024 && d < 64 && w < 2 ^ 32
  | .doorbellStray inst off width => inst < 1024 && off < 2 ^ 24 && (width == 1 || width == 2 || width == 4 || width == 8)
  | .ringZeroEnable w => w < 2 ^ 32
  | .ringZeroDisable => true
  | .glbSysReset w => w < 2 ^ 32
  | .lockSet off => off < 2 ^ 24
  | .eventPendingClear k => k < 384
  | .faultnStateClear => true
  | .tamperLatchedClear mask => mask < 2 ^ 32
  | .slotSelect w => w < 2 ^ 32
  | .calSelect w => w < 2 ^ 32
  | .beatLoRead => true
  | .registerWrite bar off width value => bar < 6 && off < 2 ^ 24 && (width == 1 || width == 2 || width == 4 || width == 8) && value < 2 ^ 64
  | .coldReset => true
  | .warmReset cause => cause < 8
  | .custodyReset => true
  | .flr => true
  | .boot b => b.wf
  | .fwStartTimeout => true
  | .d3hotEntry _ => true
  | .d0Return _ => true
  | .vddWarn supply mv => supply < 6 && mv < 8192
  | .vddRestored supply mv => supply < 6 && mv < 8192
  | .brownoutLift => true
  | .vddRange mv => mv < 8192
  | .supplyResetTrip supply mv => supply < 6 && mv < 8192
  | .throttle sensor temp => sensor < 8 && -160 ≤ temp && temp ≤ 600
  | .thermalLimitStep sensor temp => sensor < 8 && -160 ≤ temp && temp ≤ 600
  | .therm sensor temp => sensor < 8 && -160 ≤ temp && temp ≤ 600
  | .thermClear sensor temp => sensor < 8 && -160 ≤ temp && temp ≤ 600
  | .thermalShutdown sensor temp => sensor < 8 && -160 ≤ temp && temp ≤ 600
  | .refclkLost => true
  | .refclkRestored => true
  | .tamperAsserted input _ => input < 4
  | .faultMessage wire => wire < 2 ^ 64
  | .firstWindowClose => true
  | .faultnHoldEnd => true
  | .autoRecovery source _ => source < 1024
  | .fetch ring entries => ring < 4096 && entries.all (fun e => e.length == 128)
  | .ringFetchError ring => ring < 4096
  | .admission ring => ring < 4096
  | .energyGrant _ => true
  | .bankLease _ _ => true
  | .scatterWalk _ fieldNo words _ _ => fieldNo < 3 && words.all (fun e => e.length == 16)
  | .lnOwnerWipe unit => unit < 32
  | .dispatch _ inp => inp.wf
  | .dmaReadTimeout _ => true
  | .engineDone _ => true
  | .bankWipe bank => bank < 128
  | .release _ => true
  | .watchdog _ => true
  | .cmRetryLimit _ => true
  | .rsaRetryLimit _ => true
  | .cancelCheckpoint _ => true
  | .abortRelease _ => true
  | .commit ring _ => ring < 4096
  | .heldCompletionWrite ring => ring < 4096
  | .groupCommit write => write.ring < 4096
  | .assemblyTimeout ring => ring < 4096
  | .indexBlockWrite ring => ring < 4096
  | .ringWriteError ring => ring < 4096
  | .moderationTimer ring => ring < 4096
  | .msixMessage source => source < 4480
  | .backlogTimer ring _ => ring < 4096
  | .resetDeferralEnd inst => inst < 1024
  | .removeDrainEnd inst => inst < 1024
  | .ringDestroyDiscard ring => ring < 4096
  | .bufWipe handle => handle < 16384
  | .fillJob pin => pin < 64
  | .workingSetFill slot => slot < 16384
  | .reservationCommit slot _ => slot < 16384
  | .journalCompaction => true
  | .leaseRequestRepeat slot => slot < 16384
  | .leaseDeadline slot number => slot < 16384 && number < 2 ^ 32
  | .leaseWaitExpiry _ => true
  | .standbyAckTimeout slot number => slot < 16384 && number < 2 ^ 32
  | .replicationTimeout _ => true
  | .takeover => true
  | .laneYield _ _ => true
  | .slotReload slot => slot < 16384
  | .drbgReseed instance_ => instance_ < 7
  | .scrubRead addr own _ _ _ => addr < 2 ^ 32 && own < 4
  | .drainEnd => true
  | .drainLimit => true
  | .dormantUnitPowerDown => true
  | .handoverTimeout => true
  | .challengeExpiry => true
  | .debugSessionExpiry => true
  | .portTraining port lanes => port < 4 && lanes < 16
  | .laneFail port lane => port < 4 && lane < 4
  | .trainingRetry port => port < 4
  | .fecThreshold port _ _ => port < 4
  | .frameReceive port frame => port < 4 && frame.wf
  | .heartbeat port => port < 4
  | .creditReport port => port < 4
  | .portIdle port => port < 4
  | .creditStarved port vc => port < 4 && vc < 3
  | .starveSessionEnd port vc => port < 4 && vc < 3
  | .peerTimeout port => port < 4
  | .helloA port _ => port < 4
  | .helloB port _ => port < 4
  | .restrictedTimeout port => port < 4
  | .peerRetry port => port < 4
  | .rekey port => port < 4
  | .rHelloA via _ => via.wf
  | .rHelloB via _ => via.wf
  | .route port _ => port < 4
  | .routeSend => true
  | .memberLost member => member < 1024
  | .charter port frag => port < 4 && frag.wf
  | .charterAssemblyTimeout port => port < 4
  | .joinTimeout => true
  | .attestReq via _ => via.wf
  | .attestResp via resp => via.wf && resp.wf
  | .attestInterval member => member < 1024
  | .attestTimeout member => member < 1024
  | .role via epoch => via.wf && epoch < 2 ^ 32
  | .roleSend => true
  | .numberReq via ref => via.wf && ref < 2 ^ 32
  | .numberAssign via ref number => via.wf && ref < 2 ^ 32 && 15360 ≤ number && number < 16384
  | .numberUnconfirmed number => 15360 ≤ number && number < 16384
  | .keyReplicate via frag => via.wf && frag.wf
  | .keyReplicateTimeout slot => slot < 16384
  | .keyCommitAck via slot => via.wf && slot < 16384
  | .keyRevoke via slot _ => via.wf && slot < 16384
  | .leaseRequest via msg => via.wf && msg.wf
  | .leaseGrant via msg => via.wf && msg.wf
  | .leaseAck via msg => via.wf && msg.wf
  | .leaseRefuse via msg => via.wf && msg.wf
  | .mirror via msg => via.wf && msg.wf
  | .mirrorAck via msg => via.wf && msg.wf
  | .leaseQuery via msg => via.wf && msg.wf
  | .leaseState via msg => via.wf && msg.wf
  | .leaseReturn via msg => via.wf && msg.wf
  | .throttleOff => true
  | .scrubBehind => true
  | .spdmRequest _ _ _ => true
  | .tapAccess code _ => code < 256
  | .msixUnmask v => v ≤ 2048
  | .atsInvalidation pasid => pasid < 2 ^ 20
  | .wyRefclkLost _ => true

end Sys2Proof
end

