-- ==== Sys2Proof/Tests/Slice0.lean ====
section
/-! SUPPORT. Small states that meet the hypotheses of each statement, clause by clause; ill-formed commands; and tests of single commands whose
expected values are worked out from the spec by hand.  A theorem wit_X shows operands that meet the hypotheses of each clause of the statement X,
by what the clause then says of them: that the command completes. -/
open Sys2Proof Sys2Proof.Machine

set_option Elab.async false

/-! #### Small states -/

/-- Ring 0 of instance 0, of 16 entries. -/
def wRing : Ring := newRing State.reset 0 4 0 0x1000 0x2000 0x3000 false

/-- A device in SERVICE and IN_SERVICE, a long time after its reset, with ring 0. -/
def wSt : State :=
  { State.reset with
    beat := 100000000000000
    glb := { State.reset.glb with mode := .service }
    cus := { State.reset.cus with lc := .inService }
    kv := { State.reset.kv with src0 := { State.reset.kv.src0 with ok := true }, src1 := { State.reset.kv.src1 with ok := true } }
    qm := { State.reset.qm with rings := [(0, wRing)] } }

/-- A descriptor that names nothing. -/
def wDesc : Desc :=
  { opcode := 0x0101, phase := true, batch := false, batchLast := false, group := false, groupLast := false, fence := false, ctlReserved := 0,
    tag := 7, suite := 0x0102, param := 0, keyA := 0, keyB := 0, inLen := 0, inRef := 0, outRef := 0, outCap := 0, auxLen := 0, auxRef := 0,
    expRef := 0, inl := [] }

/-- An operation of ring 0 that waits at stage 5. -/
def wOp (d : Desc) : Op :=
  { id := 0, ring := 0, inst := 0, gen := 1, sqIndex := 3, desc := d, stage := .leased, preFail := [], inPieces := [], auxPieces := [],
    outPieces := [], poisonSeen := false, extended := false, energy := 0, banks := [], units := [], since := 0, dispatch := 0, slot := 0,
    doneBeat := 0, held := [], bufs := [], cancel := false, checkpoint := false, faulted := false, wipeWait := false, waiting := false,
    selfFault := none, parked := { status := .ok, verdict := .none, out := [], opdata := [], effects := [], edges := [] } }

/-- What a command carries where nothing fails. -/
def wIn : OpInput := OpInput.blank

/-- The device with one operation. -/
def wWith (o : Op) (s : State) : State := { s with ops := [o], nextOp := 1 }

/-- A management operation, its record inline. -/
def wMg (opcode : Nat) (r : Bytes) : Op :=
  wOp { wDesc with opcode := opcode, suite := 0, inLen := r.length, inRef := 3 * 2 ^ 62, inl := r ++ List.replicate (64 - r.length) 0 }

/-- The command completes at the state. -/
def Goes (c : Instr) (s : State) : Prop := ∃ t, exec c s = .next t

theorem Goes.eq {c : Instr} {s t : State} (h : exec c s = .next t) : Goes c s := ⟨t, h⟩

theorem Goes.ex {c : Instr} {s : State} {P : State → Prop} (h : ∃ t, exec c s = .next t ∧ P t) : Goes c s := h.imp fun _ h => h.1

theorem Goes.ex2 {β : Type} {c : Instr} {s : State} {P : State → β → Prop} (h : ∃ t x, exec c s = .next t ∧ P t x) : Goes c s :=
  let ⟨t, _, h, _⟩ := h; ⟨t, h⟩

/-- The device with this ring 0. -/
def wRings (r : Ring) : State := setRing 0 r wSt

/-- A completion of operation 0. -/
def wCpl : Completion :=
  { inst := 0, gen := 1, status := .ok, verdict := .none, tag := 7, outLen := 0, covered := 0, sqIndex := 3,
    flags := { lineage := false, poison := false, extended := false }, batch := false, group := false, opdata := [], writes := [], dataDone := true,
    granules := 0, parts := [], undo := none }

/-- A cached entry of ring 0 at its head. -/
def wCached : Cached := { lin := 16, desc := wDesc, owned := true, bad := false }

/-- MSI-X enabled, and vector 0 of its table unmasked. -/
def wVec (s : State) : State := setReg 0x01800C 0 { s with hp := { s.hp with msixEnable := true } }

/-- MSI-X enabled, and a message pending on vector 3. -/
def wPba : State := { wSt with hp := { wSt.hp with msixEnable := true, pba := [3] } }

/-- No ring, and the registers of ring 0 written. -/
def wNoRing : State :=
  setReg 0x100008 0x1000#32 (setReg 0x100010 0x2000#32 (setReg 0x100018 0x3000#32 { wSt with qm := State.reset.qm }))

/-- Ring 1 disabled and being destroyed. -/
def wGoing : State :=
  { wSt with
    qm := { wSt.qm with rings := [(0, wRing), (1, { wRing with enabled := false })] }
    im := { wSt.im with waits := [(0, .destroy 1 0)] } }

/-- A ring whose fetch goes on. -/
def wScan : Ring := { wRing with scanning := true }

/-- A ring in TAIL mode. -/
def wTail : Ring := { wRing with tailMode := true }

/-- A ring with two completions in its queue. -/
def wTwo : Ring := { wRing with cqTail := 18 }

/-- A ring with two cached entries. -/
def wCache2 : Ring := { wRing with fetchPos := 18, cache := [wCached, { wCached with lin := 17 }] }

/-- A scanning ring whose cached entry has a poisoned word. -/
def wBadC : Ring := { wScan with fetchPos := 17, cache := [{ wCached with bad := true }] }

/-- A ring with a completion that waits, its backlog timer running. -/
def wOut : Ring := { wRing with outq := [wCpl], backlogAt := some 5 }

/-- A ring with a completion that waits. -/
def wOut0 : Ring := { wRing with outq := [wCpl] }

/-- A ring whose moderation timer runs. -/
def wMod : Ring := { wRing with timerStart := some 5 }

/-- A ring whose event has fired. -/
def wEvt : Ring := { wRing with eventPending := true, idxDirty := false }

/-- Operands that meet the hypotheses of every clause of DoorbellsAct. -/
theorem wit_DoorbellsAct (H : Obligations.DoorbellsAct) :
    Goes (.sqDoorbellScan 0 0 (some (indexWord 16 16))) (wSt)
    ∧ Goes (.sqDoorbellTail 0 0 (indexWord 16 18)) (wRings wTail)
    ∧ Goes (.cqDoorbell 0 0 (some (indexWord 16 17))) (wRings wTwo)
    ∧ Goes (.sqInvalidate 0 0 (indexWord 16 17)) (wRings wCache2)
    ∧ Goes (.cqModWrite 0 0 0) (wSt)
    ∧ Goes (.doorbellStray 0 4 2) (wSt)
    ∧ Goes (.cqModWrite 0 5 0) (wSt)
    ∧ Goes (.sqDoorbellScan 0 5 none) (wSt)
    ∧ Goes (.sqDoorbellTail 0 5 0) (wSt)
    ∧ Goes (.cqDoorbell 0 5 none) (wSt)
    ∧ Goes (.sqInvalidate 0 5 0) (wSt) := by
  refine ⟨Goes.eq ((H.1 wSt 0 0 0 (indexWord 16 16) 16 wRing ?_ ?_).1 ?_ ?_ ?_),
    Goes.eq ((H.1 (wRings wTail) 0 0 0 (indexWord 16 18) 18 wTail ?_ ?_).2.1 ?_ ?_ ?_ ?_),
    Goes.eq ((H.1 (wRings wTwo) 0 0 0 (indexWord 16 17) 17 wTwo ?_ ?_).2.2.1 ?_ ?_),
    Goes.eq ((H.1 (wRings wCache2) 0 0 0 (indexWord 16 17) 17 wCache2 ?_ ?_).2.2.2.1 ?_ ?_ ?_),
    Goes.eq ((H.1 wSt 0 0 0 0 16 wRing ?_ ?_).2.2.2.2.1 ?_),
    Goes.eq ((H.1 wSt 0 0 0 0 16 wRing ?_ ?_).2.2.2.2.2 4 2 ?_ ?_),
    Goes.eq ((H.2 wSt 0 5 0 none ?_ ?_).1),
    Goes.eq ((H.2 wSt 0 5 0 none ?_ ?_).2 _ (List.mem_of_getElem? (i := 0) rfl)),
    Goes.eq ((H.2 wSt 0 5 0 none ?_ ?_).2 _ (List.mem_of_getElem? (i := 1) rfl)),
    Goes.eq ((H.2 wSt 0 5 0 none ?_ ?_).2 _ (List.mem_of_getElem? (i := 2) rfl)),
    Goes.eq ((H.2 wSt 0 5 0 none ?_ ?_).2 _ (List.mem_of_getElem? (i := 3) rfl))⟩ <;> decide +kernel

/-- Operands that meet the hypotheses of every clause of FetchTakesOneEntry. -/
theorem wit_FetchTakesOneEntry (H : Obligations.FetchTakesOneEntry) :
    Goes (.fetch 0 [List.replicate 3 0 ++ [128] ++ List.replicate 124 0]) (wRings wScan)
    ∧ Goes (.fetch 0 [List.replicate 128 0]) (wRings wScan)
    ∧ Goes (.fetch 0 [List.replicate 3 0 ++ [128] ++ List.replicate 124 0]) (wRings wBadC) := by
  refine ⟨Goes.ex ((H (wRings wScan) 0 (List.replicate 3 0 ++ [128] ++ List.replicate 124 0) wScan ?_ ?_).1 ?_ ?_ ?_ (.inl ?_)),
    Goes.ex ((H (wRings wScan) 0 (List.replicate 128 0) wScan ?_ ?_).2.1 ?_ ?_ ?_ ?_ ?_),
    Goes.ex ((H (wRings wBadC) 0 (List.replicate 3 0 ++ [128] ++ List.replicate 124 0) wBadC ?_ ?_).2.2 { wCached with bad := true } ?_ (.inl ?_))⟩ <;> decide +kernel

/-- Operands that meet the hypotheses of every clause of RingErrorsStopTheRing. -/
theorem wit_RingErrorsStopTheRing (H : Obligations.RingErrorsStopTheRing) :
    Goes (.ringFetchError 0) (wRings wScan)
    ∧ Goes (.ringWriteError 0) (wRings wOut0)
    ∧ Goes (.ringWriteError 0) (wRings { wRing with idxDirty := true })
    ∧ Goes (.backlogTimer 0 (some (indexWord 16 16))) (wRings wOut) := by
  refine ⟨Goes.eq ((H (wRings wScan) 0 wScan ?_).1 ?_),
    Goes.eq ((H (wRings wOut0) 0 wOut0 ?_).2.1 ?_ ?_ ?_ ?_ ?_),
    Goes.eq ((H (wRings { wRing with idxDirty := true }) 0 { wRing with idxDirty := true } ?_).2.2.1 ?_ ?_ ?_),
    Goes.eq ((H (wRings wOut) 0 wOut ?_).2.2.2 5 (indexWord 16 16) 16 ?_ ?_ ?_ ?_ ?_ ?_)⟩ <;> decide +kernel

/-- Operands that meet the hypotheses of every clause of CompletionIsWrittenAtTheTail. -/
theorem wit_CompletionIsWrittenAtTheTail (H : Obligations.CompletionIsWrittenAtTheTail) :
    Goes (.commit 0 .done) (wRings wOut0)
    ∧ Goes (.heldCompletionWrite 0) (wRings wOut)
    ∧ Goes (.indexBlockWrite 0) (wSt) := by
  refine ⟨Goes.ex (H.1 (wRings wOut0) 0 wOut0 wCpl [] ?_ ?_ ?_ ?_ ?_ ?_ ?_ _ (.inl rfl)),
    Goes.ex (H.1 (wRings wOut) 0 wOut wCpl [] ?_ ?_ ?_ ?_ ?_ ?_ ?_ _ (.inr ⟨rfl, ?_⟩)),
    Goes.ex (H.2 wSt 0 wRing ?_ ?_ ?_ ?_)⟩ <;> decide +kernel

/-- Operands that meet the hypotheses of every clause of InterruptsAreSent. -/
theorem wit_InterruptsAreSent (H : Obligations.InterruptsAreSent) :
    Goes (.moderationTimer 0) (wRings wMod)
    ∧ Goes (.msixMessage 0) (wVec (wRings wEvt))
    ∧ Goes (.msixUnmask 3) (wPba) := by
  refine ⟨Goes.eq (H.1 (wRings wMod) 0 wMod ?_ ?_ ?_ ?_),
    Goes.eq (H.2.1 (wVec (wRings wEvt)) 0 wEvt ?_ ?_ ?_ ?_ ?_ ?_ ?_),
    Goes.ex (H.2.2 wPba 3 ?_ ?_ ?_ ?_ ?_ ?_)⟩ <;> decide +kernel

/-- The device with these operations on ring 0. -/
def wOps (os : List Op) : State := { wSt with ops := os, nextOp := 10 }

/-- The whole units of a kind eclipsed. -/
def wEcl (us : List UnitRef) (s : State) : State := { s with ecl := { s.ecl with units := us } }

/-- An operation at a stage. -/
def wStage (g : Stage) (o : Op) : Op := { o with stage := g }

/-- A scatter list's one entry: 64 bytes at 0x9000, the last. -/
def wEntry (len : Nat) : Bytes := leBytes 8 0x9000 ++ leBytes 4 len ++ leBytes 4 2

/-- An operation whose input is a scatter list. -/
def wScatter : Op := wOp { wDesc with inLen := 64, inRef := 2 ^ 62 + 0x8000 }

/-- A running operation, dispatched at beat 1,000 with a slot of 1,000 beats. -/
def wRun (d : Desc) : Op := { wStage .running (wOp d) with dispatch := 1000, slot := 1000 }

/-- A running composite signature on a lattice unit and a long-number unit. -/
def wPairRun : Op := { wRun { wDesc with opcode := 0x0802, suite := 0x0F02 } with units := [⟨.lat, 3⟩, ⟨.ln, 2⟩], energy := 1000 }

/-- A running one, dispatched a moment ago. -/
def wSoon : Op := { wRun wDesc with dispatch := 99999999999500 }

/-- A finished one; its release is due at each multiple of its slot. -/
def wFin : Op := { wStage .finished (wOp wDesc) with dispatch := 99999999999000, slot := 1000 }

/-- An operation that waits for a lane. -/
def wWaits : Op := wStage .energised (wOp { wDesc with opcode := 0x0604, suite := 0x0D01 })

/-- A stream's operation that has held lane 0 for long. -/
def wHolds : Op := { wRun { wDesc with opcode := 0x0602 } with id := 1, units := [⟨.lane, 0⟩] }

/-- All lanes but lane 0 eclipsed. -/
def wLanes : State := wEcl ((List.range 64).map (fun n => ⟨.lane, n + 1⟩)) (wOps [wWaits, wHolds])

/-- A long-number unit that waits for its wipe. -/
def wLnWipe : Op := { wStage .leased (wOp wDesc) with wipeWait := true, units := [⟨.ln, 3⟩] }

/-- A transaction group with one member. -/
def wGroup (broken : Bool) : Group :=
  { members := [{ op := 5, created := none, effects := [], used := [], done := some wCpl }], closed := true, opened := 5, failed := none, broken := broken,
    inForce := false }

/-- A group whose member has an output to write. -/
def wGroupW : Group :=
  { wGroup false with members := [{ op := 5, created := none, effects := [], used := [], done := some { wCpl with writes := [{ buf := none, addr := 0x500000, data := [1, 2] }] } }] }

/-- A ring with it. -/
def wGrpRing (g : Group) : Ring := { wRing with groups := [g] }

/-- A ring with an entry at its head: KEM_KEYGEN for a transient key. -/
def wHead (d : Desc) : Ring := { wRing with fetchPos := 17, cache := [{ wCached with desc := d }] }

/-- An entry that passes admission's checks: DIGEST of 16 inline bytes. -/
def wDigest : Desc :=
  { wDesc with opcode := 0x0604, suite := 0x0D01, param := 0x1000, inLen := 16, inRef := 3 * 2 ^ 62, outRef := 0x8000, outCap := 32, inl := List.replicate 64 0 }

/-- Operands that meet the hypotheses of every clause of GatesBeforeDispatch. -/
theorem wit_GatesBeforeDispatch (H : Obligations.GatesBeforeDispatch) :
    Goes (.energyGrant 0) (wOps [wStage .admitted (wOp wDesc)])
    ∧ Goes (.energyGrant 0) (wEcl ((List.range 64).map (fun n => ⟨.lat, n⟩)) (wOps [wStage .admitted (wOp wDesc)]))
    ∧ Goes (.bankLease 0 2) (wOps [wStage .energised (wOp wDesc)])
    ∧ Goes (.laneYield 0 0) (wLanes)
    ∧ Goes (.scatterWalk 0 0 [wEntry 64] false false) (wOps [wScatter])
    ∧ Goes (.scatterWalk 0 0 [wEntry 63] false false) (wOps [wScatter])
    ∧ Goes (.scatterWalk 0 0 [] false false) (wOps [wScatter]) := by
  refine ⟨Goes.eq ((H.1 (wOps [wStage .admitted (wOp wDesc)]) 0 _ rfl ?_).1 ?_ ?_ ?_ ?_),
    Goes.eq ((H.1 (wEcl ((List.range 64).map (fun n => ⟨.lat, n⟩)) (wOps [wStage .admitted (wOp wDesc)])) 0 _ rfl ?_).2.1 ?_ ?_),
    Goes.ex ((H.1 (wOps [wStage .energised (wOp wDesc)]) 0 (wStage .energised (wOp wDesc)) ?_ ?_).2.2 2 [⟨.lat, 0⟩] [0, 1] ?_ ?_ ?_ ?_ ?_ ?_ ?_ ?_),
    Goes.ex (H.2.1 wLanes 0 0 wWaits wHolds ?_ ?_ ?_ ?_ ?_ ?_ ?_ ?_),
    Goes.eq ((H.2.2 (wOps [wScatter]) 0 [wEntry 64] wScatter ?_ ?_ ?_ ?_).1 [(0x9000, 64)] ?_ ?_),
    Goes.eq ((H.2.2 (wOps [wScatter]) 0 [wEntry 63] wScatter ?_ ?_ ?_ ?_).2.1 [(0x9000, 63)] ?_ ?_),
    Goes.eq ((H.2.2 (wOps [wScatter]) 0 [] wScatter ?_ ?_ ?_ ?_).2.2 ?_)⟩ <;> decide +kernel

/-- Operands that meet the hypotheses of every clause of UnitsFinishAndAreWiped. -/
theorem wit_UnitsFinishAndAreWiped (H : Obligations.UnitsFinishAndAreWiped) :
    Goes (.engineDone 0) (wOps [wSoon])
    ∧ Goes (.engineDone 0) (wOps [wPairRun])
    ∧ Goes (.dmaReadTimeout 0) (wOps [wRun wDesc])
    ∧ Goes (.cancelCheckpoint 0) (wOps [{ wRun wDesc with cancel := true }])
    ∧ Goes (.bankWipe 5) ({ wSt with mem := { wSt.mem with leases := wSt.mem.leases.set 5 .wiping } })
    ∧ Goes (.lnOwnerWipe 3) (wOps [wLnWipe]) := by
  refine ⟨Goes.ex (((H.1 (wOps [wSoon]) 0 wSoon ?_ ?_ ?_).1 ?_ ?_ ?_ ?_ ?_ ?_).1 (.inl ?_)),
    Goes.ex (((H.1 (wOps [wPairRun]) 0 wPairRun ?_ ?_ ?_).1 ?_ ?_ ?_ ?_ ?_ ?_).2 ⟨.lat, 3⟩ [⟨.ln, 2⟩] ?_ ?_ ?_),
    Goes.ex ((H.1 (wOps [wRun wDesc]) 0 (wRun wDesc) ?_ ?_ ?_).2.1),
    Goes.ex ((H.1 (wOps [{ wRun wDesc with cancel := true }]) 0 { wRun wDesc with cancel := true } ?_ ?_ ?_).2.2 ?_),
    Goes.eq (H.2.1 { wSt with mem := { wSt.mem with leases := wSt.mem.leases.set 5 .wiping } } 5 ?_),
    Goes.ex (H.2.2 (wOps [wLnWipe]) 3 wLnWipe ?_ ?_ ?_)⟩ <;> decide +kernel

/-- Operands that meet the hypotheses of every clause of ReleaseGivesTheCompletion. -/
theorem wit_ReleaseGivesTheCompletion (H : Obligations.ReleaseGivesTheCompletion) :
    Goes (.release 0) (wOps [wFin])
    ∧ Goes (.abortRelease 0) (wOps [{ wFin with cancel := true, checkpoint := true, dispatch := 99999999993750 }]) := by
  refine ⟨Goes.ex2 ((H (wOps [wFin]) 0 wFin wRing ?_ ?_ ?_ ?_ ?_ ?_ ?_ ?_).1 ?_ ?_ ?_),
    Goes.ex2 ((H (wOps [{ wFin with cancel := true, checkpoint := true, dispatch := 99999999993750 }]) 0 { wFin with cancel := true, checkpoint := true, dispatch := 99999999993750 } wRing ?_ ?_ ?_ ?_ ?_ ?_ ?_ ?_).2 ?_ ?_ ?_ ?_)⟩ <;> decide +kernel

/-- Operands that meet the hypotheses of every clause of LimitsEndOperations. -/
theorem wit_LimitsEndOperations (H : Obligations.LimitsEndOperations) :
    Goes (.cmRetryLimit 0) (wOps [wRun { wDesc with opcode := 0x0401 }])
    ∧ Goes (.rsaRetryLimit 0) (wOps [wRun { wDesc with opcode := 0x0511 }])
    ∧ Goes (.watchdog 0) (wOps [{ wRun wDesc with units := [⟨.lat, 3⟩] }]) := by
  refine ⟨Goes.ex2 ((H.1 (wOps [wRun { wDesc with opcode := 0x0401 }]) 0 (wRun { wDesc with opcode := 0x0401 }) wRing ?_ ?_ ?_ ?_ ?_ ?_ ?_ ?_).1 ?_ ?_),
    Goes.ex2 ((H.1 (wOps [wRun { wDesc with opcode := 0x0511 }]) 0 (wRun { wDesc with opcode := 0x0511 }) wRing ?_ ?_ ?_ ?_ ?_ ?_ ?_ ?_).2 ?_ ?_),
    Goes.ex (H.2 (wOps [{ wRun wDesc with units := [⟨.lat, 3⟩] }]) 0 { wRun wDesc with units := [⟨.lat, 3⟩] } ⟨.lat, 3⟩ [] ?_ ?_ ?_ ?_ ?_ ?_)⟩ <;> decide +kernel

/-- Operands that meet the hypotheses of every clause of GroupsCommitOrBreak. -/
theorem wit_GroupsCommitOrBreak (H : Obligations.GroupsCommitOrBreak) :
    Goes (.groupCommit ⟨0, .done, 0⟩) (wRings (wGrpRing (wGroup false)))
    ∧ Goes (.groupCommit ⟨0, .done, 0⟩) (wRings (wGrpRing (wGroup true)))
    ∧ Goes (.groupCommit ⟨0, .poison, 0⟩) (wRings (wGrpRing wGroupW))
    ∧ Goes (.assemblyTimeout 0) (wRings (wGrpRing { wGroup false with closed := false })) := by
  refine ⟨Goes.ex ((H (wRings (wGrpRing (wGroup false))) 0 (wGrpRing (wGroup false)) (wGroup false) ?_ ?_ ?_ ?_).1 ?_ ?_ ?_ ?_ ?_ ?_ ?_ ?_),
    Goes.ex2 ((H (wRings (wGrpRing (wGroup true))) 0 (wGrpRing (wGroup true)) (wGroup true) ?_ ?_ ?_ ?_).2.2.1 .done 0 ?_ ?_ ?_ ?_),
    Goes.ex2 ((H (wRings (wGrpRing wGroupW)) 0 (wGrpRing wGroupW) wGroupW ?_ ?_ ?_ ?_).2.1 0 _ _ ?_ ?_ ?_ ?_ ?_ ?_ rfl rfl ?_ ?_),
    Goes.ex ((H (wRings (wGrpRing { wGroup false with closed := false })) 0 (wGrpRing { wGroup false with closed := false }) { wGroup false with closed := false } ?_ ?_ ?_ ?_).2.2.2 ?_ ?_ ?_ ?_)⟩ <;> decide +kernel

/-- Operands that meet the hypotheses of every clause of AdmissionTakesTheHead. -/
theorem wit_AdmissionTakesTheHead (H : Obligations.AdmissionTakesTheHead) :
    Goes (.admission 0) (wRings (wHead wDigest))
    ∧ Goes (.admission 0) (wRings (wHead { wDigest with suite := 0 })) := by
  refine ⟨Goes.ex ((H (wRings (wHead wDigest)) 0 (wHead wDigest) { wCached with desc := wDigest } [] ?_ ?_ ?_ ?_ ?_ ?_ ?_ ?_ ?_ ?_ ?_).1 ?_ (.inr ⟨_, rfl⟩)),
    Goes.ex2 ((H (wRings (wHead { wDigest with suite := 0 })) 0 (wHead { wDigest with suite := 0 }) { wCached with desc := { wDigest with suite := 0 } } [] ?_ ?_ ?_ ?_ ?_ ?_ ?_ ?_ ?_ ?_ ?_).2 .badSuite ?_)⟩ <;> decide +kernel

/-- A LIVE slot that may be used for anything. -/
def wSlot (suite : Nat) (priv pub : Bytes) : KeySlot :=
  { blankSlot .live 0 with suite := suite, dest := 0x3F, usage := 0xFFF, publicOnly := false, priv := priv, pub := pub, granules := 2 }

/-- An LMS key of height 5 with 32 indices, of which two are reserved. -/
def wStf : StfKey :=
  { newStf (List.replicate 16 0) 1 5 3 0 4096 false true with reservedEnd := 2, next := 1, builtTo := 64 }

/-- An open stream. -/
def wStream : Stream :=
  { owner := 0, gen := 1, suite := 0x0D01, param := 0x1000, declared := some 128, fed := 64, base := none, data := List.replicate 64 0, overrun := false
    failed := false, closing := false }

/-- Slots by suite, and a stateful key in slot 4. -/
def wKv : State :=
  { wSt with
    kv := { wSt.kv with slots :=
      [(1, wSlot 0x0101 (List.replicate 64 1) []), (2, wSlot 0x0201 (List.replicate 32 1) []), (3, wSlot 0x0401 (List.replicate 64 1) []),
       (4, { wSlot 0x0501 (List.replicate 56 1) [] with persist := true }), (5, wSlot 0x0701 [1] []), (6, { wSlot 0x0801 [1] [] with hqcRev := 1 }),
       (7, wSlot 0x0901 [1] [2]), (8, wSlot 0x0A01 [1] [2]), (9, wSlot 0x0B01 [1] (leBytes 8 2048)), (10, wSlot 0x0B03 [1] (leBytes 8 2048)),
       (11, wSlot 0x0E01 [1] []), (12, wSlot 0x0E02 [1] []), (13, wSlot 0x0E03 [1] []), (14, wSlot 0x0E04 [1] []), (15, wSlot 0x0E05 [1] []),
       (16, wSlot 0x0202 [1] [2]), (17, wSlot 0x0902 [1] [2]), (18, wSlot 0x0103 [1] [2])] }
    stf := { wSt.stf with keys := [(4, wStf)] }
    eng := { wSt.eng with info := { fndsaSpec := 1, fndsaCtx := false, hqcSpec := 1, hqcLens := [(2249, 4433, 56, 64)] } }
    fx := { wSt.fx with limit := 64, streams := [(5, wStream)] }
    bufs := [(30, { owner := 0, size := 64, banks := [9], live := true })] }

/-- The device with these slots and one operation. -/
def wAt (o : Op) : State := { wKv with ops := [o], nextOp := 10 }

/-- An operation with its operands in host memory; a key field of 0 names none. -/
def wE (opcode suite param keyA keyB inLen auxLen outCap : Nat) : Op :=
  wOp { wDesc with opcode := opcode, suite := suite, param := param, keyA := if keyA = 0 then 0 else 0x8000 + keyA
                   keyB := if keyB = 0 then 0 else 0x8000 + keyB, inLen := inLen, inRef := if inLen = 0 then 0 else 0x100000, auxLen := auxLen
                   auxRef := if auxLen = 0 then 0 else 0x300000, outCap := outCap, outRef := if outCap = 0 then 0 else 0x500000 }

/-- Operands of zeros. -/
def wI (o : Op) : OpInput :=
  { wIn with inp := List.replicate o.desc.inLen 0, aux := List.replicate o.desc.auxLen 0, exp := List.replicate 64 0 }

/-- Operands of an FN-DSA verification: a signature of 42 bytes. -/
def wIfn (o : Op) : OpInput := { wI o with aux := 42 :: List.replicate 43 0 }

/-- A transient RSA or DSA key of 1,024 or 2,048 bits at the head of the input. -/
def wIbig (o : Op) (n q : Nat) : OpInput := { wI o with inp := leBytes 2 n ++ leBytes 2 q ++ List.replicate (o.desc.inLen - 4) 0 }

/-- The count of a split. -/
def wIcount (o : Op) (n : Nat) : OpInput := { wI o with inp := leBytes 8 n }

/-- Other references of an operation's input and output. -/
def wR (o : Op) (i t : Nat) : Op := { o with desc := { o.desc with inRef := i, outRef := t } }

/-- The operation meets no check, by evaluation. -/
def clearB (sp : OpSpec) (s : State) (id : Nat) (i : OpInput) (o : Op) : Bool :=
  decide (op? s id = some o) && decide (o.desc.opcode = sp.opcode) && atStage5 s o && sp.ready s o && decide (stage5Fails sp s o i = [])
    && decide (dataFails (sp.uses o.desc) s o i = []) && (!sp.random s o || rngOk s.kv) && !i.keyFault && !i.keyFaultB

theorem clear_of {sp : OpSpec} {s : State} {id : Nat} {i : OpInput} {o : Op} (h : clearB sp s id i o = true) : Clear sp s id i o := by
  simp only [clearB, Bool.and_eq_true, Bool.or_eq_true, Bool.not_eq_true', decide_eq_true_eq] at h
  obtain ⟨⟨⟨⟨⟨⟨⟨⟨a, b⟩, c⟩, d⟩, e⟩, f⟩, g⟩, k⟩, l⟩ := h
  exact ⟨a, b, c, d, e, f, fun r => g.resolve_left (by simp [r]), k, l⟩

/-- A pin of slot 3. -/
def wPin : Pin := { slot := 3, blocks := 100, trees := 512, present := [], live := true, closing := false, users := [] }

/-- The cache with this pin. -/
def wPinned (s : State) : State := { s with hf := { s.hf with pins := [(2, wPin)] } }

/-- Slot 12 persisted. -/
def wSlotP : KeySlot := { wSlot 0x0E02 [1] [] with persist := true }
def wPers (s : State) : State := { s with kv := { s.kv with slots := put 12 wSlotP s.kv.slots } }

/-- The operation is alone on its ring, by evaluation. -/
theorem alone_of {s : State} {o : Op} {r : Ring}
    (h : (decide (ring? s o.ring = some r) && !inGroup r o.id && !inBatch r o.id && !o.desc.group && decide (o.gen = (instOf s o.inst).gen)) = true) :
    Alone s o r := by
  simp only [Bool.and_eq_true, Bool.not_eq_true', decide_eq_true_eq] at h
  obtain ⟨⟨⟨⟨a, b⟩, c⟩, d⟩, e⟩ := h
  exact ⟨a, b, c, d, e⟩

/-! One operation for each opcode. -/

def oKemKeygen : Op := wE 0x0101 0x0101 0 0 0 0 16 800
def oMldsaKeygen : Op := wE 0x0111 0x0201 0 0 0 0 16 1312
def oSlhKeygen : Op := wE 0x0201 0x0401 0 0 0 0 16 32
def oCmKeygen : Op := wE 0x0401 0x0701 0 0 0 0 16 261120
def oHqcKeygen : Op := wE 0x0411 0x0801 0 0 0 0 16 2249
def oEcKeygen : Op := wE 0x0501 0x0901 0 0 0 0 16 65
def oRsaKeygen : Op := wE 0x0511 0x0B01 0 0 0 0 16 264
def oKemEncaps : Op := wE 0x0102 0x0101 0 1 0 0 0 800
def oKemDecaps : Op := wE 0x0103 0x0101 0 1 0 768 0 32
def oCmEncaps : Op := wE 0x0402 0x0701 0 0 0 261120 0 128
def oCmDecaps : Op := wE 0x0403 0x0701 0 5 0 96 0 32
def oHqcEncaps : Op := wE 0x0412 0x0801 0 6 0 0 0 4497
def oHqcDecaps : Op := wE 0x0413 0x0801 0 6 0 4433 0 64
def oEcdh : Op := wE 0x0506 0x0901 0 7 0 65 0 32
def oKemEncapsT : Op := wE 0x0102 0x0101 0 1 0 0 16 768
def oKemDecapsT : Op := wE 0x0103 0x0101 0 1 0 768 16 0
def oMldsaSign : Op := wE 0x0112 0x0201 0 2 0 64 0 2420
def oSlhSign : Op := wE 0x0202 0x0401 0 3 0 64 0 7856
def oEcdsaSign : Op := wE 0x0502 0x0901 0x300 7 0 64 0 64
def oEddsaSign : Op := wE 0x0504 0x0A01 0 8 0 64 0 64
def oRsaSign : Op := wE 0x0512 0x0B01 0x320 9 0 64 0 256
def oCompositeSign : Op := wE 0x0802 0x0F02 0 16 17 64 0 3500
def oMldsaVerify : Op := wE 0x0113 0x0201 0 2 0 64 2420 0
def oFndsaVerify : Op := wE 0x0121 0x0301 0 0 0 960 44 0
def oSlhVerify : Op := wE 0x0203 0x0401 0 3 0 64 7856 0
def oStfVerify : Op := wE 0x0303 0x0501 0 0 0 64 64 0
def oEcdsaVerify : Op := wE 0x0503 0x0901 0x300 7 0 64 64 0
def oEddsaVerify : Op := wE 0x0505 0x0A01 0 8 0 64 64 0
def oRsaVerify : Op := wE 0x0513 0x0B01 0x320 9 0 64 256 0
def oDsaVerify : Op := wE 0x0516 0x0C03 0x300 0 0 500 40 0
def oCompositeVerify : Op := wE 0x0803 0x0F02 0 16 17 64 3421 0
def oReattest : Op := wE 0x0801 0x0201 0 8 0 1376 2420 400
def oReattest2 : Op := wE 0x0801 0x0201 0 4 0 1376 2420 9000
def oDigest : Op := wE 0x0604 0x0D01 0x1000 0 0 64 0 32
def oDigestCompare : Op := { wE 0x0605 0x0D01 0x1000 0 0 64 0 0 with desc := { (wE 0x0605 0x0D01 0x1000 0 0 64 0 0).desc with expRef := 0x700000 } }
def oMac : Op := wE 0x0621 0x0E02 0 12 0 64 0 64
def oMacCompare : Op := { wE 0x0622 0x0E02 0 12 0 64 0 0 with desc := { (wE 0x0622 0x0E02 0 12 0 64 0 0).desc with expRef := 0x700000 } }
def oGcmEncrypt : Op := wE 0x0611 0x0E03 0 13 0 64 16 80
def oGcmDecrypt : Op := wE 0x0612 0x0E03 0 13 0 64 16 48
def oRsaEncrypt : Op := wE 0x0514 0x0B03 0x300 10 0 64 0 256
def oRsaDecrypt : Op := wE 0x0515 0x0B03 0x300 10 0 256 0 256
def oRandom : Op := wE 0x070B 0x0E06 0 0 0 0 0 64
def oExportWrapped : Op := wE 0x0705 0x0E02 0 12 15 0 0 64
def oExportPublic : Op := wE 0x0706 0x0901 0 7 0 0 0 64
def oStfStatus : Op := wE 0x0305 0x0501 0 4 0 0 0 48
def oTreeBuild : Op := wE 0x0221 0x1001 0 0 0 64 0 32
def oStreamOpen : Op := wE 0x0601 0x0D01 0x1000 0 0 0 8 0
def oStreamFeed : Op := wE 0x0602 0x0D01 0x1000 5 0 64 0 0
def oStreamTail : Op := wE 0x0603 0x0D01 0x1000 5 0 64 0 32
def oStreamSave : Op := wE 0x0606 0x0D01 0x1000 5 0 0 0 608
def oStreamRestore : Op := wE 0x0607 0x0D01 0x1000 0 0 608 0 0
def oSlhPin : Op := wE 0x0204 0x0401 0 3 0 0 0 0
def oSlhUnpin : Op := wE 0x0205 0x0401 0 3 0 0 0 0
def oTreeReduced : Op := wE 0x0222 0x1001 0 0 0 64 0 128
def oStfKeygen : Op := wE 0x0301 0x0501 0 0 0 0 16 60
def oStfSign : Op := wE 0x0302 0x0501 0 4 0 64 0 9000
def oStfSplit : Op := wE 0x0304 0x0501 0 4 18 8 0 2000
def oStfSplitL : Op := wE 0x0304 0x0501 0 4 0 8 16 0
def oImportWrapped2 : Op := wE 0x0701 0x0501 0 18 0 (blobLen 0x0501) 16 0
def oImportWrapped : Op := wE 0x0701 0x0E02 0 14 0 40 16 0
def oImportPublic : Op := wE 0x0702 0x0A01 0 0 0 32 16 0
def oGenerate : Op := wE 0x0703 0x0E02 0 0 0 0 16 0
def oDerive : Op := wE 0x0704 0x0E02 0 12 0 16 8 0
def oSetAttr : Op := wE 0x0707 0 0 12 0 16 0 0
def oInvalidate : Op := wE 0x0708 0 0 12 0 0 0 0
def oPersist : Op := wE 0x0709 0 0 12 0 0 0 0
def oDestroy : Op := wE 0x070A 0 0 12 0 0 0 0
def oBufCreate : Op := { wR (wE 0x0711 0 0 0 0 64 0 0) 0 0 with banks := [3] }
def oBufLoad : Op := wR (wE 0x0712 0 0 0 0 64 0 64) 0x100000 (2 ^ 63 + 30)
def oBufFree : Op := wR (wE 0x0713 0 0 0 0 64 0 0) (2 ^ 63 + 30) 0

theorem poison_flat {s : State} {o : Op} {i : OpInput} {ref len : Nat} {h : Bytes} (k : refKind ref = .flat) (l : h.length = len) :
    operandPoison s o i ref len h = false := by
  simp [operandPoison, operand, k, l]

/-- Its key is too long to be counted out by evaluation. -/
theorem clear_cmEncaps : Clear cmEncapsSpec (wAt oCmEncaps) 0 (wI oCmEncaps) oCmEncaps where
  here := by decide +kernel
  opcode := by decide +kernel
  waits := by decide +kernel
  ready := by decide +kernel
  checks := by decide +kernel
  operands := by
    have e : operandPoison (wAt oCmEncaps) oCmEncaps (wI oCmEncaps) oCmEncaps.desc.inRef oCmEncaps.desc.inLen (wI oCmEncaps).inp = false :=
      poison_flat (by decide +kernel) (by simp [wI])
    simp only [dataFails, e, Bool.and_false, Bool.or_false]
    decide +kernel
  random := fun _ => by decide +kernel
  material := ⟨by decide +kernel, by decide +kernel⟩

/-- The working set of a sealed key has room, whatever is in the blob. -/
theorem sealed_room {s : State} {o : Op} {i : OpInput} (h : o.desc.suite = 0x0501) : sealedBlocks s o i ≤ 40000 := by
  simp only [sealedBlocks, h]
  split
  · exact Nat.zero_le _
  · simp only [importedParams, show famOf 0x0501 = 5 from rfl, if_true]
    generalize algNat _ _ _ = a
    generalize hm : (beNat _ - 5) % 5 = m
    have lt : m < 5 := hm ▸ Nat.mod_lt _ (by decide)
    have few : ∀ k, 0 < k → a % k + 1 ≤ k := fun k hk => Nat.mod_lt _ hk
    interval_cases m <;> exact (Nat.mul_le_mul_right _ (few _ (by decide))).trans (by decide)

theorem clear_sealed : Clear importWrappedSpec (wAt oImportWrapped2) 0 (wI oImportWrapped2) oImportWrapped2 where
  here := by decide +kernel
  opcode := by decide +kernel
  waits := by decide +kernel
  ready := by decide +kernel
  operands := by decide +kernel
  random := fun _ => by decide +kernel
  material := ⟨by decide +kernel, by decide +kernel⟩
  checks := by
    have room := sealed_room (s := wAt oImportWrapped2) (i := wI oImportWrapped2) (show oImportWrapped2.desc.suite = 0x0501 by decide +kernel)
    have free : 40000 ≤ freeBlocks (wAt oImportWrapped2) := by decide +kernel
    have shared : sharedFails importWrappedSpec (wAt oImportWrapped2) oImportWrapped2 (wI oImportWrapped2) = [] := by decide +kernel
    have late : importWrappedSpec.late (wAt oImportWrapped2) oImportWrapped2 (wI oImportWrapped2)
        = sealedImportFails (wAt oImportWrapped2) oImportWrapped2 (wI oImportWrapped2) := rfl
    have made : stfCreateFails (wAt oImportWrapped2) (sealedBlocks (wAt oImportWrapped2) oImportWrapped2 (wI oImportWrapped2)) = [] := by
      simp only [stfCreateFails, decide_eq_false (Nat.not_lt.mpr (room.trans free))]
      decide +kernel
    simp only [stage5Fails, shared, late, sealedImportFails, made, List.nil_append]
    decide +kernel

/-- Operands that meet the hypotheses of every clause of KeyPairsAreGenerated. -/
theorem wit_KeyPairsAreGenerated (H : Obligations.KeyPairsAreGenerated) :
    Goes (.kemKeygen 0 (wI oKemKeygen)) (wAt oKemKeygen)
    ∧ Goes (.mldsaKeygen 0 (wI oMldsaKeygen)) (wAt oMldsaKeygen)
    ∧ Goes (.slhKeygen 0 (wI oSlhKeygen)) (wAt oSlhKeygen)
    ∧ Goes (.cmKeygen 0 (wI oCmKeygen)) (wAt oCmKeygen)
    ∧ Goes (.hqcKeygen 0 (wI oHqcKeygen)) (wAt oHqcKeygen)
    ∧ Goes (.ecKeygen 0 (wI oEcKeygen)) (wAt oEcKeygen)
    ∧ Goes (.rsaKeygen 0 (wI oRsaKeygen)) (wAt oRsaKeygen) := by
  refine ⟨Goes.ex (H (wAt oKemKeygen) 0 (wI oKemKeygen) oKemKeygen 0 ?_ ?_ _ (List.mem_of_getElem? (i := 0) rfl) (clear_of ?_)),
    Goes.ex (H (wAt oMldsaKeygen) 0 (wI oMldsaKeygen) oMldsaKeygen 0 ?_ ?_ _ (List.mem_of_getElem? (i := 1) rfl) (clear_of ?_)),
    Goes.ex (H (wAt oSlhKeygen) 0 (wI oSlhKeygen) oSlhKeygen 0 ?_ ?_ _ (List.mem_of_getElem? (i := 2) rfl) (clear_of ?_)),
    Goes.ex (H (wAt oCmKeygen) 0 (wI oCmKeygen) oCmKeygen 0 ?_ ?_ _ (List.mem_of_getElem? (i := 3) rfl) (clear_of ?_)),
    Goes.ex (H (wAt oHqcKeygen) 0 (wI oHqcKeygen) oHqcKeygen 0 ?_ ?_ _ (List.mem_of_getElem? (i := 4) rfl) (clear_of ?_)),
    Goes.ex (H (wAt oEcKeygen) 0 (wI oEcKeygen) oEcKeygen 0 ?_ ?_ _ (List.mem_of_getElem? (i := 5) rfl) (clear_of ?_)),
    Goes.ex (H (wAt oRsaKeygen) 0 (wI oRsaKeygen) oRsaKeygen 0 ?_ ?_ _ (List.mem_of_getElem? (i := 6) rfl) (clear_of ?_))⟩ <;> decide +kernel

/-- Operands that meet the hypotheses of every clause of SecretsAreAgreed. -/
theorem wit_SecretsAreAgreed (H : Obligations.SecretsAreAgreed) :
    Goes (.kemEncaps 0 (wI oKemEncaps)) (wAt oKemEncaps)
    ∧ Goes (.kemDecaps 0 (wI oKemDecaps)) (wAt oKemDecaps)
    ∧ Goes (.cmEncaps 0 (wI oCmEncaps)) (wAt oCmEncaps)
    ∧ Goes (.cmDecaps 0 (wI oCmDecaps)) (wAt oCmDecaps)
    ∧ Goes (.hqcEncaps 0 (wI oHqcEncaps)) (wAt oHqcEncaps)
    ∧ Goes (.hqcDecaps 0 (wI oHqcDecaps)) (wAt oHqcDecaps)
    ∧ Goes (.ecdh 0 (wI oEcdh)) (wAt oEcdh)
    ∧ Goes (.kemEncaps 0 (wI oKemEncapsT)) (wAt oKemEncapsT)
    ∧ Goes (.kemDecaps 0 (wI oKemDecapsT)) (wAt oKemDecapsT) := by
  refine ⟨Goes.ex ((H (wAt oKemEncaps) 0 (wI oKemEncaps) oKemEncaps _ (List.mem_of_getElem? (i := 0) rfl) (clear_of ?_)).1 ?_),
    Goes.ex ((H (wAt oKemDecaps) 0 (wI oKemDecaps) oKemDecaps _ (List.mem_of_getElem? (i := 1) rfl) (clear_of ?_)).1 ?_),
    Goes.ex ((H (wAt oCmEncaps) 0 (wI oCmEncaps) oCmEncaps _ (List.mem_of_getElem? (i := 2) rfl) clear_cmEncaps).1 ?_),
    Goes.ex ((H (wAt oCmDecaps) 0 (wI oCmDecaps) oCmDecaps _ (List.mem_of_getElem? (i := 3) rfl) (clear_of ?_)).1 ?_),
    Goes.ex ((H (wAt oHqcEncaps) 0 (wI oHqcEncaps) oHqcEncaps _ (List.mem_of_getElem? (i := 4) rfl) (clear_of ?_)).1 ?_),
    Goes.ex ((H (wAt oHqcDecaps) 0 (wI oHqcDecaps) oHqcDecaps _ (List.mem_of_getElem? (i := 5) rfl) (clear_of ?_)).1 ?_),
    Goes.ex ((H (wAt oEcdh) 0 (wI oEcdh) oEcdh _ (List.mem_of_getElem? (i := 6) rfl) (clear_of ?_)).1 ?_),
    Goes.ex ((H (wAt oKemEncapsT) 0 (wI oKemEncapsT) oKemEncapsT _ (List.mem_of_getElem? (i := 0) rfl) (clear_of ?_)).2 0 ?_ ?_ ?_),
    Goes.ex ((H (wAt oKemDecapsT) 0 (wI oKemDecapsT) oKemDecapsT _ (List.mem_of_getElem? (i := 1) rfl) (clear_of ?_)).2 0 ?_ ?_ ?_)⟩ <;> decide +kernel

/-- Operands that meet the hypotheses of every clause of SignaturesAreMade. -/
theorem wit_SignaturesAreMade (H : Obligations.SignaturesAreMade) :
    Goes (.mldsaSign 0 (wI oMldsaSign)) (wAt oMldsaSign)
    ∧ Goes (.slhSign 0 (wI oSlhSign)) (wAt oSlhSign)
    ∧ Goes (.ecdsaSign 0 (wI oEcdsaSign)) (wAt oEcdsaSign)
    ∧ Goes (.eddsaSign 0 (wI oEddsaSign)) (wAt oEddsaSign)
    ∧ Goes (.rsaSign 0 (wI oRsaSign)) (wAt oRsaSign)
    ∧ Goes (.compositeSign 0 (wI oCompositeSign)) (wAt oCompositeSign) := by
  refine ⟨Goes.ex (H (wAt oMldsaSign) 0 (wI oMldsaSign) oMldsaSign _ (List.mem_of_getElem? (i := 0) rfl) (clear_of ?_)),
    Goes.ex (H (wAt oSlhSign) 0 (wI oSlhSign) oSlhSign _ (List.mem_of_getElem? (i := 1) rfl) (clear_of ?_)),
    Goes.ex (H (wAt oEcdsaSign) 0 (wI oEcdsaSign) oEcdsaSign _ (List.mem_of_getElem? (i := 2) rfl) (clear_of ?_)),
    Goes.ex (H (wAt oEddsaSign) 0 (wI oEddsaSign) oEddsaSign _ (List.mem_of_getElem? (i := 3) rfl) (clear_of ?_)),
    Goes.ex (H (wAt oRsaSign) 0 (wI oRsaSign) oRsaSign _ (List.mem_of_getElem? (i := 4) rfl) (clear_of ?_)),
    Goes.ex (H (wAt oCompositeSign) 0 (wI oCompositeSign) oCompositeSign _ (List.mem_of_getElem? (i := 5) rfl) (clear_of ?_))⟩ <;> decide +kernel

/-- Operands that meet the hypotheses of every clause of SignaturesAreVerified. -/
theorem wit_SignaturesAreVerified (H : Obligations.SignaturesAreVerified) :
    Goes (.mldsaVerify 0 (wI oMldsaVerify)) (wAt oMldsaVerify)
    ∧ Goes (.fndsaVerify 0 (wIfn oFndsaVerify)) (wAt oFndsaVerify)
    ∧ Goes (.slhVerify 0 (wI oSlhVerify)) (wAt oSlhVerify)
    ∧ Goes (.stfVerify 0 (wI oStfVerify)) (wAt oStfVerify)
    ∧ Goes (.ecdsaVerify 0 (wI oEcdsaVerify)) (wAt oEcdsaVerify)
    ∧ Goes (.eddsaVerify 0 (wI oEddsaVerify)) (wAt oEddsaVerify)
    ∧ Goes (.rsaVerify 0 (wI oRsaVerify)) (wAt oRsaVerify)
    ∧ Goes (.dsaVerify 0 (wIbig oDsaVerify 1024 160)) (wAt oDsaVerify) := by
  refine ⟨Goes.ex (H (wAt oMldsaVerify) 0 (wI oMldsaVerify) oMldsaVerify _ (List.mem_of_getElem? (i := 0) rfl) (clear_of ?_)),
    Goes.ex (H (wAt oFndsaVerify) 0 (wIfn oFndsaVerify) oFndsaVerify _ (List.mem_of_getElem? (i := 1) rfl) (clear_of ?_)),
    Goes.ex (H (wAt oSlhVerify) 0 (wI oSlhVerify) oSlhVerify _ (List.mem_of_getElem? (i := 2) rfl) (clear_of ?_)),
    Goes.ex (H (wAt oStfVerify) 0 (wI oStfVerify) oStfVerify _ (List.mem_of_getElem? (i := 3) rfl) (clear_of ?_)),
    Goes.ex (H (wAt oEcdsaVerify) 0 (wI oEcdsaVerify) oEcdsaVerify _ (List.mem_of_getElem? (i := 4) rfl) (clear_of ?_)),
    Goes.ex (H (wAt oEddsaVerify) 0 (wI oEddsaVerify) oEddsaVerify _ (List.mem_of_getElem? (i := 5) rfl) (clear_of ?_)),
    Goes.ex (H (wAt oRsaVerify) 0 (wI oRsaVerify) oRsaVerify _ (List.mem_of_getElem? (i := 6) rfl) (clear_of ?_)),
    Goes.ex (H (wAt oDsaVerify) 0 (wIbig oDsaVerify 1024 160) oDsaVerify _ (List.mem_of_getElem? (i := 7) rfl) (clear_of ?_))⟩ <;> decide +kernel

/-- Operands that meet the hypotheses of every clause of CompoundSignatures. -/
theorem wit_CompoundSignatures (H : Obligations.CompoundSignatures) :
    Goes (.compositeVerify 0 (wI oCompositeVerify)) (wAt oCompositeVerify)
    ∧ Goes (.reattest 0 (wI oReattest)) (wAt oReattest)
    ∧ Goes (.reattest 0 (wI oReattest2)) (wAt oReattest2) := by
  refine ⟨Goes.ex ((H (wAt oCompositeVerify) 0 (wI oCompositeVerify) oCompositeVerify).1 (clear_of ?_)),
    Goes.ex ((H (wAt oReattest) 0 (wI oReattest) oReattest).2.1 (clear_of ?_) ?_),
    Goes.ex2 ((H (wAt oReattest2) 0 (wI oReattest2) oReattest2).2.2 wStf (clear_of ?_) ?_ ?_)⟩ <;> decide +kernel

/-- Operands that meet the hypotheses of every clause of OutputsAreComputed. -/
theorem wit_OutputsAreComputed (H : Obligations.OutputsAreComputed) :
    Goes (.digest 0 (wI oDigest)) (wAt oDigest)
    ∧ Goes (.digestCompare 0 (wI oDigestCompare)) (wAt oDigestCompare)
    ∧ Goes (.mac 0 (wI oMac)) (wAt oMac)
    ∧ Goes (.macCompare 0 (wI oMacCompare)) (wAt oMacCompare)
    ∧ Goes (.gcmEncrypt 0 (wI oGcmEncrypt)) (wAt oGcmEncrypt)
    ∧ Goes (.gcmDecrypt 0 (wI oGcmDecrypt)) (wAt oGcmDecrypt)
    ∧ Goes (.rsaEncrypt 0 (wI oRsaEncrypt)) (wAt oRsaEncrypt)
    ∧ Goes (.rsaDecrypt 0 (wI oRsaDecrypt)) (wAt oRsaDecrypt)
    ∧ Goes (.random 0 (wI oRandom)) (wAt oRandom)
    ∧ Goes (.keyExportWrapped 0 (wI oExportWrapped)) (wAt oExportWrapped)
    ∧ Goes (.keyExportPublic 0 (wI oExportPublic)) (wAt oExportPublic)
    ∧ Goes (.stfStatus 0 (wI oStfStatus)) (wAt oStfStatus)
    ∧ Goes (.treeBuild 0 (wI oTreeBuild)) (wAt oTreeBuild) := by
  refine ⟨Goes.ex (H (wAt oDigest) 0 (wI oDigest) oDigest _ (List.mem_of_getElem? (i := 0) rfl) (clear_of ?_)),
    Goes.ex (H (wAt oDigestCompare) 0 (wI oDigestCompare) oDigestCompare _ (List.mem_of_getElem? (i := 1) rfl) (clear_of ?_)),
    Goes.ex (H (wAt oMac) 0 (wI oMac) oMac _ (List.mem_of_getElem? (i := 2) rfl) (clear_of ?_)),
    Goes.ex (H (wAt oMacCompare) 0 (wI oMacCompare) oMacCompare _ (List.mem_of_getElem? (i := 3) rfl) (clear_of ?_)),
    Goes.ex (H (wAt oGcmEncrypt) 0 (wI oGcmEncrypt) oGcmEncrypt _ (List.mem_of_getElem? (i := 4) rfl) (clear_of ?_)),
    Goes.ex (H (wAt oGcmDecrypt) 0 (wI oGcmDecrypt) oGcmDecrypt _ (List.mem_of_getElem? (i := 5) rfl) (clear_of ?_)),
    Goes.ex (H (wAt oRsaEncrypt) 0 (wI oRsaEncrypt) oRsaEncrypt _ (List.mem_of_getElem? (i := 6) rfl) (clear_of ?_)),
    Goes.ex (H (wAt oRsaDecrypt) 0 (wI oRsaDecrypt) oRsaDecrypt _ (List.mem_of_getElem? (i := 7) rfl) (clear_of ?_)),
    Goes.ex (H (wAt oRandom) 0 (wI oRandom) oRandom _ (List.mem_of_getElem? (i := 8) rfl) (clear_of ?_)),
    Goes.ex (H (wAt oExportWrapped) 0 (wI oExportWrapped) oExportWrapped _ (List.mem_of_getElem? (i := 9) rfl) (clear_of ?_)),
    Goes.ex (H (wAt oExportPublic) 0 (wI oExportPublic) oExportPublic _ (List.mem_of_getElem? (i := 10) rfl) (clear_of ?_)),
    Goes.ex (H (wAt oStfStatus) 0 (wI oStfStatus) oStfStatus _ (List.mem_of_getElem? (i := 11) rfl) (clear_of ?_)),
    Goes.ex (H (wAt oTreeBuild) 0 (wI oTreeBuild) oTreeBuild _ (List.mem_of_getElem? (i := 12) rfl) (clear_of ?_))⟩ <;> decide +kernel

/-- Operands that meet the hypotheses of every clause of StreamsAbsorb. -/
theorem wit_StreamsAbsorb (H : Obligations.StreamsAbsorb) :
    Goes (.streamOpen 0 (wI oStreamOpen)) (wAt oStreamOpen)
    ∧ Goes (.streamFeed 0 (wI oStreamFeed)) (wAt oStreamFeed)
    ∧ Goes (.streamTail 0 (wI oStreamTail)) (wAt oStreamTail)
    ∧ Goes (.streamSave 0 (wI oStreamSave)) (wAt oStreamSave)
    ∧ Goes (.streamRestore 0 (wI oStreamRestore)) (wAt oStreamRestore) := by
  refine ⟨Goes.ex ((H (wAt oStreamOpen) 0 (wI oStreamOpen) oStreamOpen).1 0 (clear_of ?_) ?_),
    Goes.ex ((H (wAt oStreamFeed) 0 (wI oStreamFeed) oStreamFeed).2.1 wStream (clear_of ?_) ?_),
    Goes.ex ((H (wAt oStreamTail) 0 (wI oStreamTail) oStreamTail).2.2.1 wStream (clear_of ?_) ?_),
    Goes.ex ((H (wAt oStreamSave) 0 (wI oStreamSave) oStreamSave).2.2.2.1 wStream (clear_of ?_) ?_),
    Goes.ex ((H (wAt oStreamRestore) 0 (wI oStreamRestore) oStreamRestore).2.2.2.2 0 (clear_of ?_) ?_)⟩ <;> decide +kernel

/-- Operands that meet the hypotheses of every clause of TreesAndPins. -/
theorem wit_TreesAndPins (H : Obligations.TreesAndPins) :
    Goes (.slhPin 0 (wI oSlhPin)) (wPinned (wAt oSlhPin))
    ∧ Goes (.slhPin 0 (wI oSlhPin)) (wAt oSlhPin)
    ∧ Goes (.slhUnpin 0 (wI oSlhUnpin)) (wAt oSlhUnpin)
    ∧ Goes (.treeReduced 0 (wI oTreeReduced)) (wAt oTreeReduced) := by
  refine ⟨Goes.ex ((H (wPinned (wAt oSlhPin)) 0 (wI oSlhPin) oSlhPin).1 2 wPin (clear_of ?_) ?_),
    Goes.ex ((H (wAt oSlhPin) 0 (wI oSlhPin) oSlhPin).2.1 0 (clear_of ?_) ?_ ?_),
    Goes.ex ((H (wAt oSlhUnpin) 0 (wI oSlhUnpin) oSlhUnpin).2.2.1 (clear_of ?_)),
    Goes.ex ((H (wAt oTreeReduced) 0 (wI oTreeReduced) oTreeReduced).2.2.2 (clear_of ?_))⟩ <;> decide +kernel

/-- Operands that meet the hypotheses of every clause of StatefulKeysAreCustodied. -/
theorem wit_StatefulKeysAreCustodied (H : Obligations.StatefulKeysAreCustodied) :
    Goes (.stfKeygen 0 (wI oStfKeygen)) (wAt oStfKeygen)
    ∧ Goes (.stfSign 0 (wI oStfSign)) (wAt oStfSign)
    ∧ Goes (.stfSplit 0 (wIcount oStfSplit 1024)) (wAt oStfSplit)
    ∧ Goes (.stfSplit 0 (wIcount oStfSplitL 1024)) (wAt oStfSplitL)
    ∧ Goes (.keyImportWrapped 0 (wI oImportWrapped2)) (wAt oImportWrapped2) := by
  refine ⟨Goes.ex ((H.1 (wAt oStfKeygen) 0 (wI oStfKeygen) oStfKeygen).1 0 (clear_of ?_) ?_ ?_),
    Goes.ex2 ((H.1 (wAt oStfSign) 0 (wI oStfSign) oStfSign).2.1 wStf (clear_of ?_) ?_),
    Goes.ex ((H.1 (wAt oStfSplit) 0 (wIcount oStfSplit 1024) oStfSplit).2.2 wStf (clear_of ?_) ?_ ?_ ?_),
    Goes.ex ((H.1 (wAt oStfSplitL) 0 (wIcount oStfSplitL 1024) oStfSplitL).2.2 wStf (clear_of ?_) ?_ ?_ ?_),
    Goes.ex (H.2 (wAt oImportWrapped2) 0 (wI oImportWrapped2) oImportWrapped2 0 clear_sealed (.inl ?_) ?_ ?_ ?_)⟩ <;> decide +kernel

/-- Operands that meet the hypotheses of every clause of VaultSlotsAreMade. -/
theorem wit_VaultSlotsAreMade (H : Obligations.VaultSlotsAreMade) :
    Goes (.keyImportWrapped 0 (wI oImportWrapped)) (wAt oImportWrapped)
    ∧ Goes (.keyImportPublic 0 (wI oImportPublic)) (wAt oImportPublic)
    ∧ Goes (.keyGenerate 0 (wI oGenerate)) (wAt oGenerate)
    ∧ Goes (.keyDerive 0 (wI oDerive)) (wAt oDerive) := by
  refine ⟨Goes.ex (H (wAt oImportWrapped) 0 (wI oImportWrapped) oImportWrapped 0 ?_ _ (List.mem_of_getElem? (i := 0) rfl) ?_ ?_ (clear_of ?_)),
    Goes.ex (H (wAt oImportPublic) 0 (wI oImportPublic) oImportPublic 0 ?_ _ (List.mem_of_getElem? (i := 1) rfl) ?_ ?_ (clear_of ?_)),
    Goes.ex (H (wAt oGenerate) 0 (wI oGenerate) oGenerate 0 ?_ _ (List.mem_of_getElem? (i := 2) rfl) ?_ ?_ (clear_of ?_)),
    Goes.ex (H (wAt oDerive) 0 (wI oDerive) oDerive 0 ?_ _ (List.mem_of_getElem? (i := 3) rfl) ?_ ?_ (clear_of ?_))⟩ <;> decide +kernel

/-- Operands that meet the hypotheses of every clause of VaultSlotsAreManaged. -/
theorem wit_VaultSlotsAreManaged (H : Obligations.VaultSlotsAreManaged) :
    Goes (.keySetAttr 0 (wI oSetAttr)) (wAt oSetAttr)
    ∧ Goes (.keySetAttr 0 { wI oSetAttr with commitOk := false }) (wPers (wAt oSetAttr))
    ∧ Goes (.keyInvalidate 0 (wI oInvalidate)) (wAt oInvalidate)
    ∧ Goes (.keyPersist 0 (wI oPersist)) (wAt oPersist)
    ∧ Goes (.keyPersist 0 { wI oPersist with commitOk := false }) (wAt oPersist)
    ∧ Goes (.keyDestroy 0 (wI oDestroy)) (wAt oDestroy) := by
  refine ⟨Goes.ex ((H (wAt oSetAttr) 0 (wI oSetAttr) oSetAttr (wSlot 0x0E02 [1] []) ?_ ?_).1 (clear_of ?_) ?_),
    Goes.ex ((H (wPers (wAt oSetAttr)) 0 { wI oSetAttr with commitOk := false } oSetAttr wSlotP ?_ ?_).2.1 (clear_of ?_) ?_ ?_),
    Goes.ex ((H (wAt oInvalidate) 0 (wI oInvalidate) oInvalidate (wSlot 0x0E02 [1] []) ?_ ?_).2.2.1 (clear_of ?_) ?_ ?_),
    Goes.ex ((H (wAt oPersist) 0 (wI oPersist) oPersist (wSlot 0x0E02 [1] []) ?_ ?_).2.2.2.1 (clear_of ?_) ?_ ?_ ?_),
    Goes.ex ((H (wAt oPersist) 0 { (wI oPersist) with commitOk := false } oPersist (wSlot 0x0E02 [1] []) ?_ ?_).2.2.2.2.1 (clear_of ?_) ?_ ?_),
    Goes.ex ((H (wAt oDestroy) 0 (wI oDestroy) oDestroy (wSlot 0x0E02 [1] []) ?_ ?_).2.2.2.2.2 (clear_of ?_) ?_ ?_)⟩ <;> decide +kernel

/-- Operands that meet the hypotheses of every clause of BuffersAreMadeLoadedAndFreed. -/
theorem wit_BuffersAreMadeLoadedAndFreed (H : Obligations.BuffersAreMadeLoadedAndFreed) :
    Goes (.bufCreate 0 (wI oBufCreate)) (wAt oBufCreate)
    ∧ Goes (.bufLoad 0 (wI oBufLoad)) (wAt oBufLoad)
    ∧ Goes (.bufFree 0 (wI oBufFree)) (wAt oBufFree) := by
  refine ⟨Goes.ex ((H (wAt oBufCreate) 0 (wI oBufCreate) oBufCreate).1 0 (clear_of ?_) ?_),
    Goes.ex ((H (wAt oBufLoad) 0 (wI oBufLoad) oBufLoad).2.1 (clear_of ?_)),
    Goes.ex ((H (wAt oBufFree) 0 (wI oBufFree) oBufFree).2.2 { owner := 0, size := 64, banks := [9], live := true } (clear_of ?_) ?_)⟩ <;> decide +kernel

/-- Operands that meet the hypotheses of every clause of ChecksComeBeforeDispatch. -/
theorem wit_ChecksComeBeforeDispatch (H : Obligations.ChecksComeBeforeDispatch) :
    Goes (.kemKeygen 0 wIn) (wAt { oKemKeygen with preFail := [.badScatter] })
    ∧ Goes (.random 0 wIn) (wAt { oRandom with desc := { oRandom.desc with outCap := 65537 } })
    ∧ Goes (.dispatch 0 (wI oKemKeygen)) (wAt oKemKeygen)
    ∧ Goes (.dispatch 0 (wI oKemKeygen)) (wAt oKemKeygen)
    ∧ Goes (.kemEncaps 0 (wI oKemKeygen)) (wAt oKemKeygen) := by
  refine ⟨Goes.ex (H.1 (wAt { oKemKeygen with preFail := [.badScatter] }) 0 wIn { oKemKeygen with preFail := [.badScatter] } wRing .badScatter _ (List.mem_of_getElem? (i := 0) rfl) ?_ (alone_of ?_) ?_ ?_ (.inl ?_) ?_),
    Goes.ex (H.1 (wAt { oRandom with desc := { oRandom.desc with outCap := 65537 } }) 0 wIn { oRandom with desc := { oRandom.desc with outCap := 65537 } } wRing .badLength _ (List.mem_of_getElem? (i := 58) rfl) ?_ (alone_of ?_) ?_ ?_ (.inr ?_) ?_),
    Goes.eq (((H.2 (wAt oKemKeygen) 0 (wI oKemKeygen) oKemKeygen ?_) _ (List.mem_of_getElem? (i := 0) rfl)).1 rfl),
    Goes.ex (((H.2 (wAt oKemKeygen) 0 (wI oKemKeygen) oKemKeygen ?_) _ (List.mem_of_getElem? (i := 0) rfl)).2.1 rfl (clear_of ?_)),
    Goes.eq (((H.2 (wAt oKemKeygen) 0 (wI oKemKeygen) oKemKeygen ?_) _ (List.mem_of_getElem? (i := 1) rfl)).2.2 ?_)⟩ <;> decide +kernel

/-- Operands that meet the hypotheses of every clause of EngineOperationsRun. -/
theorem wit_EngineOperationsRun (H : Obligations.EngineOperationsRun) :
    Goes (.kemKeygen 0 (wI oKemKeygen)) (wAt oKemKeygen)
    ∧ Goes (.kemEncaps 0 (wI oKemEncaps)) (wAt oKemEncaps)
    ∧ Goes (.kemDecaps 0 (wI oKemDecaps)) (wAt oKemDecaps)
    ∧ Goes (.mldsaKeygen 0 (wI oMldsaKeygen)) (wAt oMldsaKeygen)
    ∧ Goes (.mldsaSign 0 (wI oMldsaSign)) (wAt oMldsaSign)
    ∧ Goes (.mldsaVerify 0 (wI oMldsaVerify)) (wAt oMldsaVerify)
    ∧ Goes (.fndsaVerify 0 (wIfn oFndsaVerify)) (wAt oFndsaVerify)
    ∧ Goes (.slhKeygen 0 (wI oSlhKeygen)) (wAt oSlhKeygen)
    ∧ Goes (.slhSign 0 (wI oSlhSign)) (wAt oSlhSign)
    ∧ Goes (.slhVerify 0 (wI oSlhVerify)) (wAt oSlhVerify)
    ∧ Goes (.slhPin 0 (wI oSlhPin)) (wAt oSlhPin)
    ∧ Goes (.slhUnpin 0 (wI oSlhUnpin)) (wAt oSlhUnpin)
    ∧ Goes (.treeBuild 0 (wI oTreeBuild)) (wAt oTreeBuild)
    ∧ Goes (.treeReduced 0 (wI oTreeReduced)) (wAt oTreeReduced)
    ∧ Goes (.stfKeygen 0 (wI oStfKeygen)) (wAt oStfKeygen)
    ∧ Goes (.stfSign 0 (wI oStfSign)) (wAt oStfSign)
    ∧ Goes (.stfVerify 0 (wI oStfVerify)) (wAt oStfVerify)
    ∧ Goes (.stfSplit 0 (wIcount oStfSplit 1024)) (wAt oStfSplit)
    ∧ Goes (.stfStatus 0 (wI oStfStatus)) (wAt oStfStatus)
    ∧ Goes (.cmKeygen 0 (wI oCmKeygen)) (wAt oCmKeygen)
    ∧ Goes (.cmEncaps 0 (wI oCmEncaps)) (wAt oCmEncaps)
    ∧ Goes (.cmDecaps 0 (wI oCmDecaps)) (wAt oCmDecaps)
    ∧ Goes (.hqcKeygen 0 (wI oHqcKeygen)) (wAt oHqcKeygen)
    ∧ Goes (.hqcEncaps 0 (wI oHqcEncaps)) (wAt oHqcEncaps)
    ∧ Goes (.hqcDecaps 0 (wI oHqcDecaps)) (wAt oHqcDecaps)
    ∧ Goes (.ecKeygen 0 (wI oEcKeygen)) (wAt oEcKeygen)
    ∧ Goes (.ecdsaSign 0 (wI oEcdsaSign)) (wAt oEcdsaSign)
    ∧ Goes (.ecdsaVerify 0 (wI oEcdsaVerify)) (wAt oEcdsaVerify)
    ∧ Goes (.eddsaSign 0 (wI oEddsaSign)) (wAt oEddsaSign)
    ∧ Goes (.eddsaVerify 0 (wI oEddsaVerify)) (wAt oEddsaVerify)
    ∧ Goes (.ecdh 0 (wI oEcdh)) (wAt oEcdh)
    ∧ Goes (.rsaKeygen 0 (wI oRsaKeygen)) (wAt oRsaKeygen)
    ∧ Goes (.rsaSign 0 (wI oRsaSign)) (wAt oRsaSign)
    ∧ Goes (.rsaVerify 0 (wI oRsaVerify)) (wAt oRsaVerify)
    ∧ Goes (.rsaEncrypt 0 (wI oRsaEncrypt)) (wAt oRsaEncrypt)
    ∧ Goes (.rsaDecrypt 0 (wI oRsaDecrypt)) (wAt oRsaDecrypt)
    ∧ Goes (.dsaVerify 0 (wIbig oDsaVerify 1024 160)) (wAt oDsaVerify)
    ∧ Goes (.streamOpen 0 (wI oStreamOpen)) (wAt oStreamOpen)
    ∧ Goes (.streamFeed 0 (wI oStreamFeed)) (wAt oStreamFeed)
    ∧ Goes (.streamTail 0 (wI oStreamTail)) (wAt oStreamTail)
    ∧ Goes (.digest 0 (wI oDigest)) (wAt oDigest)
    ∧ Goes (.digestCompare 0 (wI oDigestCompare)) (wAt oDigestCompare)
    ∧ Goes (.streamSave 0 (wI oStreamSave)) (wAt oStreamSave)
    ∧ Goes (.streamRestore 0 (wI oStreamRestore)) (wAt oStreamRestore)
    ∧ Goes (.gcmEncrypt 0 (wI oGcmEncrypt)) (wAt oGcmEncrypt)
    ∧ Goes (.gcmDecrypt 0 (wI oGcmDecrypt)) (wAt oGcmDecrypt)
    ∧ Goes (.mac 0 (wI oMac)) (wAt oMac)
    ∧ Goes (.macCompare 0 (wI oMacCompare)) (wAt oMacCompare)
    ∧ Goes (.keyImportWrapped 0 (wI oImportWrapped)) (wAt oImportWrapped)
    ∧ Goes (.keyImportPublic 0 (wI oImportPublic)) (wAt oImportPublic)
    ∧ Goes (.keyGenerate 0 (wI oGenerate)) (wAt oGenerate)
    ∧ Goes (.keyDerive 0 (wI oDerive)) (wAt oDerive)
    ∧ Goes (.keyExportWrapped 0 (wI oExportWrapped)) (wAt oExportWrapped)
    ∧ Goes (.keyExportPublic 0 (wI oExportPublic)) (wAt oExportPublic)
    ∧ Goes (.keySetAttr 0 (wI oSetAttr)) (wAt oSetAttr)
    ∧ Goes (.keyInvalidate 0 (wI oInvalidate)) (wAt oInvalidate)
    ∧ Goes (.keyPersist 0 (wI oPersist)) (wAt oPersist)
    ∧ Goes (.keyDestroy 0 (wI oDestroy)) (wAt oDestroy)
    ∧ Goes (.random 0 (wI oRandom)) (wAt oRandom)
    ∧ Goes (.bufCreate 0 (wI oBufCreate)) (wAt oBufCreate)
    ∧ Goes (.bufLoad 0 (wI oBufLoad)) (wAt oBufLoad)
    ∧ Goes (.bufFree 0 (wI oBufFree)) (wAt oBufFree)
    ∧ Goes (.reattest 0 (wI oReattest)) (wAt oReattest)
    ∧ Goes (.compositeSign 0 (wI oCompositeSign)) (wAt oCompositeSign)
    ∧ Goes (.compositeVerify 0 (wI oCompositeVerify)) (wAt oCompositeVerify) := by
  refine ⟨Goes.ex2 (H (wAt oKemKeygen) 0 (wI oKemKeygen) oKemKeygen _ (List.mem_of_getElem? (i := 0) rfl) (clear_of ?_)),
    Goes.ex2 (H (wAt oKemEncaps) 0 (wI oKemEncaps) oKemEncaps _ (List.mem_of_getElem? (i := 1) rfl) (clear_of ?_)),
    Goes.ex2 (H (wAt oKemDecaps) 0 (wI oKemDecaps) oKemDecaps _ (List.mem_of_getElem? (i := 2) rfl) (clear_of ?_)),
    Goes.ex2 (H (wAt oMldsaKeygen) 0 (wI oMldsaKeygen) oMldsaKeygen _ (List.mem_of_getElem? (i := 3) rfl) (clear_of ?_)),
    Goes.ex2 (H (wAt oMldsaSign) 0 (wI oMldsaSign) oMldsaSign _ (List.mem_of_getElem? (i := 4) rfl) (clear_of ?_)),
    Goes.ex2 (H (wAt oMldsaVerify) 0 (wI oMldsaVerify) oMldsaVerify _ (List.mem_of_getElem? (i := 5) rfl) (clear_of ?_)),
    Goes.ex2 (H (wAt oFndsaVerify) 0 (wIfn oFndsaVerify) oFndsaVerify _ (List.mem_of_getElem? (i := 6) rfl) (clear_of ?_)),
    Goes.ex2 (H (wAt oSlhKeygen) 0 (wI oSlhKeygen) oSlhKeygen _ (List.mem_of_getElem? (i := 7) rfl) (clear_of ?_)),
    Goes.ex2 (H (wAt oSlhSign) 0 (wI oSlhSign) oSlhSign _ (List.mem_of_getElem? (i := 8) rfl) (clear_of ?_)),
    Goes.ex2 (H (wAt oSlhVerify) 0 (wI oSlhVerify) oSlhVerify _ (List.mem_of_getElem? (i := 9) rfl) (clear_of ?_)),
    Goes.ex2 (H (wAt oSlhPin) 0 (wI oSlhPin) oSlhPin _ (List.mem_of_getElem? (i := 10) rfl) (clear_of ?_)),
    Goes.ex2 (H (wAt oSlhUnpin) 0 (wI oSlhUnpin) oSlhUnpin _ (List.mem_of_getElem? (i := 11) rfl) (clear_of ?_)),
    Goes.ex2 (H (wAt oTreeBuild) 0 (wI oTreeBuild) oTreeBuild _ (List.mem_of_getElem? (i := 12) rfl) (clear_of ?_)),
    Goes.ex2 (H (wAt oTreeReduced) 0 (wI oTreeReduced) oTreeReduced _ (List.mem_of_getElem? (i := 13) rfl) (clear_of ?_)),
    Goes.ex2 (H (wAt oStfKeygen) 0 (wI oStfKeygen) oStfKeygen _ (List.mem_of_getElem? (i := 14) rfl) (clear_of ?_)),
    Goes.ex2 (H (wAt oStfSign) 0 (wI oStfSign) oStfSign _ (List.mem_of_getElem? (i := 15) rfl) (clear_of ?_)),
    Goes.ex2 (H (wAt oStfVerify) 0 (wI oStfVerify) oStfVerify _ (List.mem_of_getElem? (i := 16) rfl) (clear_of ?_)),
    Goes.ex2 (H (wAt oStfSplit) 0 (wIcount oStfSplit 1024) oStfSplit _ (List.mem_of_getElem? (i := 17) rfl) (clear_of ?_)),
    Goes.ex2 (H (wAt oStfStatus) 0 (wI oStfStatus) oStfStatus _ (List.mem_of_getElem? (i := 18) rfl) (clear_of ?_)),
    Goes.ex2 (H (wAt oCmKeygen) 0 (wI oCmKeygen) oCmKeygen _ (List.mem_of_getElem? (i := 19) rfl) (clear_of ?_)),
    Goes.ex2 (H (wAt oCmEncaps) 0 (wI oCmEncaps) oCmEncaps _ (List.mem_of_getElem? (i := 20) rfl) clear_cmEncaps),
    Goes.ex2 (H (wAt oCmDecaps) 0 (wI oCmDecaps) oCmDecaps _ (List.mem_of_getElem? (i := 21) rfl) (clear_of ?_)),
    Goes.ex2 (H (wAt oHqcKeygen) 0 (wI oHqcKeygen) oHqcKeygen _ (List.mem_of_getElem? (i := 22) rfl) (clear_of ?_)),
    Goes.ex2 (H (wAt oHqcEncaps) 0 (wI oHqcEncaps) oHqcEncaps _ (List.mem_of_getElem? (i := 23) rfl) (clear_of ?_)),
    Goes.ex2 (H (wAt oHqcDecaps) 0 (wI oHqcDecaps) oHqcDecaps _ (List.mem_of_getElem? (i := 24) rfl) (clear_of ?_)),
    Goes.ex2 (H (wAt oEcKeygen) 0 (wI oEcKeygen) oEcKeygen _ (List.mem_of_getElem? (i := 25) rfl) (clear_of ?_)),
    Goes.ex2 (H (wAt oEcdsaSign) 0 (wI oEcdsaSign) oEcdsaSign _ (List.mem_of_getElem? (i := 26) rfl) (clear_of ?_)),
    Goes.ex2 (H (wAt oEcdsaVerify) 0 (wI oEcdsaVerify) oEcdsaVerify _ (List.mem_of_getElem? (i := 27) rfl) (clear_of ?_)),
    Goes.ex2 (H (wAt oEddsaSign) 0 (wI oEddsaSign) oEddsaSign _ (List.mem_of_getElem? (i := 28) rfl) (clear_of ?_)),
    Goes.ex2 (H (wAt oEddsaVerify) 0 (wI oEddsaVerify) oEddsaVerify _ (List.mem_of_getElem? (i := 29) rfl) (clear_of ?_)),
    Goes.ex2 (H (wAt oEcdh) 0 (wI oEcdh) oEcdh _ (List.mem_of_getElem? (i := 30) rfl) (clear_of ?_)),
    Goes.ex2 (H (wAt oRsaKeygen) 0 (wI oRsaKeygen) oRsaKeygen _ (List.mem_of_getElem? (i := 31) rfl) (clear_of ?_)),
    Goes.ex2 (H (wAt oRsaSign) 0 (wI oRsaSign) oRsaSign _ (List.mem_of_getElem? (i := 32) rfl) (clear_of ?_)),
    Goes.ex2 (H (wAt oRsaVerify) 0 (wI oRsaVerify) oRsaVerify _ (List.mem_of_getElem? (i := 33) rfl) (clear_of ?_)),
    Goes.ex2 (H (wAt oRsaEncrypt) 0 (wI oRsaEncrypt) oRsaEncrypt _ (List.mem_of_getElem? (i := 34) rfl) (clear_of ?_)),
    Goes.ex2 (H (wAt oRsaDecrypt) 0 (wI oRsaDecrypt) oRsaDecrypt _ (List.mem_of_getElem? (i := 35) rfl) (clear_of ?_)),
    Goes.ex2 (H (wAt oDsaVerify) 0 (wIbig oDsaVerify 1024 160) oDsaVerify _ (List.mem_of_getElem? (i := 36) rfl) (clear_of ?_)),
    Goes.ex2 (H (wAt oStreamOpen) 0 (wI oStreamOpen) oStreamOpen _ (List.mem_of_getElem? (i := 37) rfl) (clear_of ?_)),
    Goes.ex2 (H (wAt oStreamFeed) 0 (wI oStreamFeed) oStreamFeed _ (List.mem_of_getElem? (i := 38) rfl) (clear_of ?_)),
    Goes.ex2 (H (wAt oStreamTail) 0 (wI oStreamTail) oStreamTail _ (List.mem_of_getElem? (i := 39) rfl) (clear_of ?_)),
    Goes.ex2 (H (wAt oDigest) 0 (wI oDigest) oDigest _ (List.mem_of_getElem? (i := 40) rfl) (clear_of ?_)),
    Goes.ex2 (H (wAt oDigestCompare) 0 (wI oDigestCompare) oDigestCompare _ (List.mem_of_getElem? (i := 41) rfl) (clear_of ?_)),
    Goes.ex2 (H (wAt oStreamSave) 0 (wI oStreamSave) oStreamSave _ (List.mem_of_getElem? (i := 42) rfl) (clear_of ?_)),
    Goes.ex2 (H (wAt oStreamRestore) 0 (wI oStreamRestore) oStreamRestore _ (List.mem_of_getElem? (i := 43) rfl) (clear_of ?_)),
    Goes.ex2 (H (wAt oGcmEncrypt) 0 (wI oGcmEncrypt) oGcmEncrypt _ (List.mem_of_getElem? (i := 44) rfl) (clear_of ?_)),
    Goes.ex2 (H (wAt oGcmDecrypt) 0 (wI oGcmDecrypt) oGcmDecrypt _ (List.mem_of_getElem? (i := 45) rfl) (clear_of ?_)),
    Goes.ex2 (H (wAt oMac) 0 (wI oMac) oMac _ (List.mem_of_getElem? (i := 46) rfl) (clear_of ?_)),
    Goes.ex2 (H (wAt oMacCompare) 0 (wI oMacCompare) oMacCompare _ (List.mem_of_getElem? (i := 47) rfl) (clear_of ?_)),
    Goes.ex2 (H (wAt oImportWrapped) 0 (wI oImportWrapped) oImportWrapped _ (List.mem_of_getElem? (i := 48) rfl) (clear_of ?_)),
    Goes.ex2 (H (wAt oImportPublic) 0 (wI oImportPublic) oImportPublic _ (List.mem_of_getElem? (i := 49) rfl) (clear_of ?_)),
    Goes.ex2 (H (wAt oGenerate) 0 (wI oGenerate) oGenerate _ (List.mem_of_getElem? (i := 50) rfl) (clear_of ?_)),
    Goes.ex2 (H (wAt oDerive) 0 (wI oDerive) oDerive _ (List.mem_of_getElem? (i := 51) rfl) (clear_of ?_)),
    Goes.ex2 (H (wAt oExportWrapped) 0 (wI oExportWrapped) oExportWrapped _ (List.mem_of_getElem? (i := 52) rfl) (clear_of ?_)),
    Goes.ex2 (H (wAt oExportPublic) 0 (wI oExportPublic) oExportPublic _ (List.mem_of_getElem? (i := 53) rfl) (clear_of ?_)),
    Goes.ex2 (H (wAt oSetAttr) 0 (wI oSetAttr) oSetAttr _ (List.mem_of_getElem? (i := 54) rfl) (clear_of ?_)),
    Goes.ex2 (H (wAt oInvalidate) 0 (wI oInvalidate) oInvalidate _ (List.mem_of_getElem? (i := 55) rfl) (clear_of ?_)),
    Goes.ex2 (H (wAt oPersist) 0 (wI oPersist) oPersist _ (List.mem_of_getElem? (i := 56) rfl) (clear_of ?_)),
    Goes.ex2 (H (wAt oDestroy) 0 (wI oDestroy) oDestroy _ (List.mem_of_getElem? (i := 57) rfl) (clear_of ?_)),
    Goes.ex2 (H (wAt oRandom) 0 (wI oRandom) oRandom _ (List.mem_of_getElem? (i := 58) rfl) (clear_of ?_)),
    Goes.ex2 (H (wAt oBufCreate) 0 (wI oBufCreate) oBufCreate _ (List.mem_of_getElem? (i := 59) rfl) (clear_of ?_)),
    Goes.ex2 (H (wAt oBufLoad) 0 (wI oBufLoad) oBufLoad _ (List.mem_of_getElem? (i := 60) rfl) (clear_of ?_)),
    Goes.ex2 (H (wAt oBufFree) 0 (wI oBufFree) oBufFree _ (List.mem_of_getElem? (i := 61) rfl) (clear_of ?_)),
    Goes.ex2 (H (wAt oReattest) 0 (wI oReattest) oReattest _ (List.mem_of_getElem? (i := 62) rfl) (clear_of ?_)),
    Goes.ex2 (H (wAt oCompositeSign) 0 (wI oCompositeSign) oCompositeSign _ (List.mem_of_getElem? (i := 63) rfl) (clear_of ?_)),
    Goes.ex2 (H (wAt oCompositeVerify) 0 (wI oCompositeVerify) oCompositeVerify _ (List.mem_of_getElem? (i := 64) rfl) (clear_of ?_))⟩ <;> decide +kernel

/-- Instance 5 bound, with ring 1 and an operation of its own on it, dispatched or not. -/
def wInst5 (s : State) : State :=
  setInst 5 { state := .bound, pasid := 9, share := 1, reserve := 0, limit := 16, gen := 3, discards := 0, everBound := true }
    { s with qm := { s.qm with rings := [(0, wRing), (1, { wRing with inst := 5, sqBase := 0x9000 })] } }

/-- The device with a management operation and others. -/
def wMgSt (o : Op) (os : List Op) : State := { wSt with ops := o :: os, nextOp := 10 }

/-- The operation is a management operation that meets no check, by evaluation. -/
theorem managed_of {sp : OpSpec} {s : State} {id : Nat} {i : OpInput} {o : Op} {r : Ring}
    (c : clearB sp s id i o = true)
    (a : (decide (ring? s o.ring = some r) && !inGroup r o.id && !inBatch r o.id && !o.desc.group && decide (o.gen = (instOf s o.inst).gen)) = true)
    (k : (decide (o.desc.keyA = 0) && decide (o.desc.keyB = 0) && decide (o.held = []) && decide (s.ops.map (·.id)).Nodup) = true) :
    Managed sp s id i o r := by
  simp only [Bool.and_eq_true, decide_eq_true_eq] at k
  obtain ⟨⟨⟨x, y⟩, z⟩, u⟩ := k
  exact ⟨clear_of c, alone_of a, ⟨x, y, z⟩, u⟩

/-- Records of the management operations: a new instance with PASID 7, ring 2 of 16 entries for instance 5, a number, a drain. -/
def oInstCreate : Op := wMg 0x0F01 (leBytes 4 7 ++ leBytes 2 1 ++ leBytes 2 0 ++ leBytes 2 16 ++ List.replicate 6 0)
def oInstBad : Op := wMg 0x0F01 (leBytes 4 7 ++ leBytes 2 1001 ++ leBytes 2 0 ++ leBytes 2 16 ++ List.replicate 6 0)
def oShare (n share : Nat) : Op := wMg 0x0F04 (leBytes 2 n ++ leBytes 2 share ++ leBytes 2 0 ++ leBytes 2 16)
def oWord (opcode n : Nat) : Op := wMg opcode (leBytes 4 n)
def oRing (inst : Nat) : Op :=
  wMg 0x0F05 (leBytes 8 0x1000 ++ leBytes 8 0x2000 ++ leBytes 8 0x3000 ++ leBytes 2 inst ++ [4, 0, 3, 0, 0, 0])

/-- Another operation: on a ring of an instance, waiting or running. -/
def oOther (ring inst gen : Nat) (g : Stage) : Op := { wStage g (wOp wDesc) with id := 1, ring := ring, inst := inst, gen := gen }

/-- A device that waits for something on behalf of its first operation. -/
def wWaiting (w : MgmtWait) (o : Op) (s : State) : State := { s with ops := [o], nextOp := 10, im := { s.im with waits := [(0, w)] } }

/-- A running management operation. -/
def oWaits (opcode : Nat) : Op := wStage .running (oWord opcode 0)

/-- The device in another mode. -/
def wMode (m : Mode) (s : State) : State := { s with glb := { s.glb with mode := m } }

/-- A drain to DORMANT under way, its limit at beat 5. -/
def wDrain (s : State) : State := { s with glb := { s.glb with mode := .quiesce, draining := true, target := .dormant, drainAt := some 5 } }

/-- Operands that meet the hypotheses of every clause of InstancesComeAndGo. -/
theorem wit_InstancesComeAndGo (H : Obligations.InstancesComeAndGo) :
    Goes (.instCreate 0 wIn) (wMgSt oInstCreate [])
    ∧ Goes (.instCreate 0 wIn) (wMgSt oInstBad [])
    ∧ Goes (.instSetShare 0 wIn) (wInst5 (wMgSt (oShare 5 2) []))
    ∧ Goes (.instSetShare 0 wIn) (wInst5 (wMgSt (oShare 5 1001) []))
    ∧ Goes (.instReset 0 wIn) (wInst5 (wMgSt (oWord 0x0F02 5) [oOther 1 5 3 .running]))
    ∧ Goes (.instReset 0 wIn) (wInst5 (wMgSt (oWord 0x0F02 5) [oOther 1 5 4 .running]))
    ∧ Goes (.instReset 0 wIn) (wMgSt (oWord 0x0F02 5) [])
    ∧ Goes (.resetDeferralEnd 5) (wInst5 (wWaiting (.deferral 5) (oWaits 0x0F02) wSt))
    ∧ Goes (.instRemove 0 wIn) (wInst5 (wMgSt (oWord 0x0F03 5) [oOther 1 5 3 .running]))
    ∧ Goes (.instRemove 0 wIn) (wMgSt (oWord 0x0F03 5) [])
    ∧ Goes (.removeDrainEnd 5) (wInst5 (wWaiting (.removal 5) (oWaits 0x0F03) wSt)) := by
  refine ⟨Goes.ex ((((H.1 (wMgSt oInstCreate []) 0 wIn oInstCreate wRing).1 (managed_of ?_ ?_ ?_)).1 1 ?_ ?_ ?_)),
    Goes.ex ((((H.1 (wMgSt oInstBad []) 0 wIn oInstBad wRing).1 (managed_of ?_ ?_ ?_)).2 5 [] ?_)),
    Goes.ex ((((H.1 (wInst5 (wMgSt (oShare 5 2) [])) 0 wIn (oShare 5 2) wRing).2 (managed_of ?_ ?_ ?_)).1 ?_)),
    Goes.ex ((((H.1 (wInst5 (wMgSt (oShare 5 1001) [])) 0 wIn (oShare 5 1001) wRing).2 (managed_of ?_ ?_ ?_)).2 5 [] ?_)),
    Goes.ex (((H.2.1.1 (wInst5 (wMgSt (oWord 0x0F02 5) [oOther 1 5 3 .running])) 0 wIn (oWord 0x0F02 5) wRing (managed_of ?_ ?_ ?_) ?_ ?_ ?_).1 ?_)),
    Goes.ex (((H.2.1.1 (wInst5 (wMgSt (oWord 0x0F02 5) [oOther 1 5 4 .running])) 0 wIn (oWord 0x0F02 5) wRing (managed_of ?_ ?_ ?_) ?_ ?_ ?_).2 ?_)),
    Goes.ex ((H.2.1.2.1 (wMgSt (oWord 0x0F02 5) []) 0 wIn (oWord 0x0F02 5) wRing 1 [] (managed_of ?_ ?_ ?_) ?_)),
    Goes.ex (H.2.1.2.2 (wInst5 (wWaiting (.deferral 5) (oWaits 0x0F02) wSt)) 5 (oWaits 0x0F02) wRing ?_ ?_ (alone_of ?_) ?_ ?_ ?_ ?_ ?_),
    Goes.ex (((H.2.2.1 (wInst5 (wMgSt (oWord 0x0F03 5) [oOther 1 5 3 .running])) 0 wIn (oWord 0x0F03 5) wRing (managed_of ?_ ?_ ?_) ?_ ?_).1 ?_)),
    Goes.ex (((H.2.2.1 (wMgSt (oWord 0x0F03 5) []) 0 wIn (oWord 0x0F03 5) wRing (managed_of ?_ ?_ ?_) ?_ ?_).2 1 [] ?_)),
    Goes.ex (H.2.2.2 (wInst5 (wWaiting (.removal 5) (oWaits 0x0F03) wSt)) 5 (oWaits 0x0F03) wRing ?_ ?_ (alone_of ?_) ?_ ?_ ?_ ?_ ?_)⟩ <;> decide +kernel

/-- Operands that meet the hypotheses of every clause of RingsComeAndGo. -/
theorem wit_RingsComeAndGo (H : Obligations.RingsComeAndGo) :
    Goes (.ringZeroEnable (17)) (wNoRing)
    ∧ Goes (.ringZeroDisable) (wSt)
    ∧ Goes (.ringDestroyDiscard 1) (wGoing)
    ∧ Goes (.ringCreate 0 wIn) (wInst5 (wMgSt (oRing 5) []))
    ∧ Goes (.ringCreate 0 wIn) (wMgSt (oRing 5) [])
    ∧ Goes (.ringDestroy 0 wIn) (wInst5 (wMgSt (oWord 0x0F06 1) [oOther 1 5 3 .running]))
    ∧ Goes (.ringDestroy 0 wIn) (wInst5 (wMgSt (oWord 0x0F06 0) []))
    ∧ Goes (.ringCancel 0 wIn) (wInst5 (wMgSt (oWord 0x0F07 1) [oOther 1 5 3 .leased]))
    ∧ Goes (.ringCancel 0 wIn) (wInst5 (wMgSt (oWord 0x0F07 1) [oOther 1 5 3 .running]))
    ∧ Goes (.ringCancel 0 wIn) (wMgSt (oWord 0x0F07 1) []) := by
  refine ⟨Goes.ex2 (H.1.1 wNoRing (17) 4 0 0x1000 0x2000 0x3000 false ?_ ?_ ?_ ?_ ?_ ?_ ?_ ?_),
    Goes.ex (H.1.2.1 wSt wRing ?_ ?_ ?_),
    Goes.ex (H.1.2.2 wGoing 1 0 0 ?_ ?_ ?_),
    Goes.ex (((H.2 (wInst5 (wMgSt (oRing 5) [])) 0 wIn (oRing 5) wRing).1 (managed_of ?_ ?_ ?_)).1 2 ?_ ?_),
    Goes.ex (((H.2 (wMgSt (oRing 5) []) 0 wIn (oRing 5) wRing).1 (managed_of ?_ ?_ ?_)).2 1 [] ?_),
    Goes.ex (((H.2 (wInst5 (wMgSt (oWord 0x0F06 1) [oOther 1 5 3 .running])) 0 wIn (oWord 0x0F06 1) wRing).2.1 (managed_of ?_ ?_ ?_) { wRing with inst := 5, sqBase := 0x9000 } ?_).1 ?_),
    Goes.ex (((H.2 (wInst5 (wMgSt (oWord 0x0F06 0) [])) 0 wIn (oWord 0x0F06 0) wRing).2.1 (managed_of ?_ ?_ ?_) wRing ?_).2 4 [] ?_),
    Goes.ex (((H.2 (wInst5 (wMgSt (oWord 0x0F07 1) [oOther 1 5 3 .leased])) 0 wIn (oWord 0x0F07 1) wRing).2.2 (managed_of ?_ ?_ ?_)).1 ?_ ?_ ?_),
    Goes.ex (((H.2 (wInst5 (wMgSt (oWord 0x0F07 1) [oOther 1 5 3 .running])) 0 wIn (oWord 0x0F07 1) wRing).2.2 (managed_of ?_ ?_ ?_)).2.1 ?_ ?_),
    Goes.ex (((H.2 (wMgSt (oWord 0x0F07 1) []) 0 wIn (oWord 0x0F07 1) wRing).2.2 (managed_of ?_ ?_ ?_)).2.2 4 [] ?_)⟩ <;> decide +kernel

/-- Operands that meet the hypotheses of every clause of ModesAreSet. -/
theorem wit_ModesAreSet (H : Obligations.ModesAreSet) :
    Goes (.modeSetService 0 wIn) (wMode .service (wMgSt (oWord 0x0F09 1) []))
    ∧ Goes (.modeSetQuiesce 0 wIn) (wMode .dormant (wMgSt (oWord 0x0F09 2) []))
    ∧ Goes (.modeSetDormant 0 wIn) (wMode .service (wMgSt (oWord 0x0F09 0x50003) []))
    ∧ Goes (.modeSetMaintenance 0 wIn) (wMode .safe (wMgSt (oWord 0x0F09 5) []))
    ∧ Goes (.drainEnd) (wDrain (wWaiting (.modeSet 3) (oWaits 0x0F09) wSt))
    ∧ Goes (.drainLimit) (wDrain (wOps [oOther 0 0 1 .running]))
    ∧ Goes (.dormantUnitPowerDown) (wMode .dormant wSt) := by
  refine ⟨Goes.ex ((H.1 (wMode .service (wMgSt (oWord 0x0F09 1) [])) 0 wIn (oWord 0x0F09 1) wRing _ (List.mem_of_getElem? (i := 0) rfl) (managed_of ?_ ?_ ?_)).1 ?_),
    Goes.ex ((H.1 (wMode .dormant (wMgSt (oWord 0x0F09 2) [])) 0 wIn (oWord 0x0F09 2) wRing _ (List.mem_of_getElem? (i := 1) rfl) (managed_of ?_ ?_ ?_)).2.1 1 .notPermitted ?_ ?_),
    Goes.ex ((H.1 (wMode .service (wMgSt (oWord 0x0F09 0x50003) [])) 0 wIn (oWord 0x0F09 0x50003) wRing _ (List.mem_of_getElem? (i := 2) rfl) (managed_of ?_ ?_ ?_)).2.2 ?_ ?_ |>.1 ?_ ?_),
    Goes.ex ((H.1 (wMode .safe (wMgSt (oWord 0x0F09 5) [])) 0 wIn (oWord 0x0F09 5) wRing _ (List.mem_of_getElem? (i := 3) rfl) (managed_of ?_ ?_ ?_)).2.2 ?_ ?_ |>.2 ?_),
    Goes.ex (H.2.1 (wDrain (wWaiting (.modeSet 3) (oWaits 0x0F09) wSt)) (oWaits 0x0F09) wRing 3 ?_ ?_ ?_ ?_ (alone_of ?_)),
    Goes.ex (H.2.2.1 (wDrain (wOps [oOther 0 0 1 .running])) 5 ?_ ?_ ?_ ?_),
    Goes.eq (H.2.2.2 (wMode .dormant wSt) ?_)⟩ <;> decide +kernel

/-- A fault message of a source, kind and severity. -/
def wWire (source kind severity : Nat) : Nat := source * 2 ^ 54 + kind * 2 ^ 46 + severity * 2 ^ 43

/-- The record of one. -/
def wRec (source kind severity : Nat) : FaultRec := recOf wSt (decodeFault (wWire source kind severity)) severity false

/-- The collector with these records logged, and the source quiet for long with automatic recovery enabled. -/
def wQuiet (source : Nat) (rs : List FaultRec) (s : State) : State :=
  setReg 0x0B0610 0x401 { s with sup := { s.sup with fc := { s.sup.fc with log := rs, lastMsg := [(source, 5)] } } }

/-- Recoveries of a source a moment ago. -/
def wRecovered (source n : Nat) (s : State) : State :=
  { s with sup := { s.sup with fc := { s.sup.fc with recoveries := [(source, List.replicate n 99999999999999)] } } }

/-- The window of 8 beats open with two records. -/
def wWindow : State :=
  { wSt with sup := { wSt.sup with fc := { wSt.sup.fc with window := some (5, [wRec 3 1 0, wRec 4 1 2]) } } }

/-- FAULT_INJECT permitted. -/
def wInject (s : State) : State := setReg 0x0A0020 1 s

/-- A record that arms an injection of checker 0, or disarms it. -/
def oInject (mode count : Nat) : Op := wMg 0x0F0E ([0, 0, 1, 0] ++ leBytes 1 mode ++ leBytes 1 count ++ [0, 0, 0, 0, 0, 0])

/-- An armed injection of any word of checker 0. -/
def wArmed : Injection := { checker := 0, mask := 1, onRead := true, count := 1, weak := false, anyWord := true, word := 0 }
def wArm : State := { wSt with mem := { wSt.mem with injections := [wArmed] } }

/-- VDD_CORE below its warning threshold, and the floor to be lifted at beat 5. -/
def wWarned : State :=
  { wSt with sup := { wSt.sup with supplies := modAt wSt.sup.supplies 0 (fun x => { x with warn := true }), brownout := true, liftAt := some 5 } }

/-- The thermal limit in force, its next step due. -/
def wThermal (l : Nat) : State := { wSt with sup := { wSt.sup with thermal := some l, thermalAt := 0, thermN := true } }

/-- The clocks lost. -/
def wNoClock : State := { wSt with sup := { wSt.sup with refclk := false } }

/-- Operands that meet the hypotheses of every clause of FaultsAreCollected. -/
theorem wit_FaultsAreCollected (H : Obligations.FaultsAreCollected) :
    Goes (.faultMessage (wWire 0x102 1 4)) (wSt)
    ∧ Goes (.faultMessage (wWire 0x102 1 3)) (wSt)
    ∧ Goes (.faultMessage (wWire 3 1 2)) (wOps [{ wRun wDesc with units := [⟨.lat, 3⟩] }])
    ∧ Goes (.faultMessage (wWire 3 1 0)) (wSt)
    ∧ Goes (.faultMessage (wWire 0x110 1 1)) (wSt)
    ∧ Goes (.faultMessage (wWire 0x3FF 1 0)) (wSt)
    ∧ Goes (.firstWindowClose) (wWindow)
    ∧ Goes (.faultnHoldEnd) (wSt) := by
  refine ⟨Goes.ex ((H.1 (wSt) (wWire 0x102 1 4)).1 ⟨?_, ?_, fun q h => nomatch (show (none : Option Nat) = some q from h)⟩ ?_),
    Goes.ex ((H.1 (wSt) (wWire 0x102 1 3)).2.1 ⟨?_, ?_, fun q h => nomatch (show (none : Option Nat) = some q from h)⟩ ?_ ?_ ?_),
    Goes.ex ((H.1 (wOps [{ wRun wDesc with units := [⟨.lat, 3⟩] }]) (wWire 3 1 2)).2.2.1 ⟨.lat, 3⟩ ⟨?_, ?_, fun q h => nomatch (show (none : Option Nat) = some q from h)⟩ ?_ ?_),
    Goes.ex ((H.1 (wSt) (wWire 3 1 0)).2.2.2.1 ⟨?_, ?_, fun q h => nomatch (show (none : Option Nat) = some q from h)⟩ ?_ ?_ ?_ ?_ ?_ ?_ ?_),
    Goes.ex ((H.1 (wSt) (wWire 0x110 1 1)).2.2.2.2.1 ⟨?_, ?_, fun q h => nomatch (show (none : Option Nat) = some q from h)⟩ ?_ ?_ ?_),
    Goes.ex ((H.1 (wSt) (wWire 0x3FF 1 0)).2.2.2.2.2 (.inr ?_) ?_ ?_),
    Goes.ex2 (H.2.1 wWindow 5 (wRec 3 1 0) [wRec 4 1 2] ?_ ?_),
    Goes.eq (H.2.2 wSt ?_)⟩ <;> decide +kernel

/-- Operands that meet the hypotheses of every clause of FaultsAreRecovered. -/
theorem wit_FaultsAreRecovered (H : Obligations.FaultsAreRecovered) :
    Goes (.faultAck 0 wIn) (wQuiet 3 [wRec 3 1 2] (wMgSt (oWord 0x0F0A 3) []))
    ∧ Goes (.engineReinit 0 wIn) (wEcl [⟨.lat, 3⟩] (wMgSt (oWord 0x0F08 0x301) []))
    ∧ Goes (.engineReinit 0 { wIn with fails := [3] }) (wEcl [⟨.lat, 3⟩] (wMgSt (oWord 0x0F08 0x301) []))
    ∧ Goes (.autoRecovery 3 true) (wQuiet 3 [] (wEcl [⟨.lat, 3⟩] wSt))
    ∧ Goes (.autoRecovery 3 false) (wQuiet 3 [] (wEcl [⟨.lat, 3⟩] wSt))
    ∧ Goes (.autoRecovery 3 true) (wRecovered 3 8 (wQuiet 3 [] (wEcl [⟨.lat, 3⟩] wSt)))
    ∧ Goes (.autoRecovery 0x102 true) (wQuiet 0x102 [wRec 0x102 1 3] (wMode .safe wSt)) := by
  refine ⟨Goes.ex (H.1 (wQuiet 3 [wRec 3 1 2] (wMgSt (oWord 0x0F0A 3) [])) 0 wIn (oWord 0x0F0A 3) wRing (managed_of ?_ ?_ ?_)),
    Goes.ex (H.2.1 (wEcl [⟨.lat, 3⟩] (wMgSt (oWord 0x0F08 0x301) [])) 0 wIn (oWord 0x0F08 0x301) wRing (managed_of ?_ ?_ ?_) (.inr ⟨?_, ?_⟩)),
    Goes.ex (H.2.1 (wEcl [⟨.lat, 3⟩] (wMgSt (oWord 0x0F08 0x301) [])) 0 { wIn with fails := [3] } (oWord 0x0F08 0x301) wRing (managed_of ?_ ?_ ?_) (.inr ⟨?_, ?_⟩)),
    Goes.ex ((H.2.2 (wQuiet 3 [] (wEcl [⟨.lat, 3⟩] wSt)) 3 ?_ ?_).1 ?_ ?_ ?_ ?_),
    Goes.ex ((H.2.2 (wQuiet 3 [] (wEcl [⟨.lat, 3⟩] wSt)) 3 ?_ ?_).2.1 ⟨.lat, 3⟩ ?_ ?_),
    Goes.ex ((H.2.2 (wRecovered 3 8 (wQuiet 3 [] (wEcl [⟨.lat, 3⟩] wSt))) 3 ?_ ?_).2.2.1 true ?_ (.inl ?_) ?_),
    Goes.ex ((H.2.2 (wQuiet 0x102 [wRec 0x102 1 3] (wMode .safe wSt)) 0x102 ?_ ?_).2.2.2 ?_ ?_ ?_)⟩ <;> decide +kernel

/-- Operands that meet the hypotheses of every clause of InjectionsMeetReads. -/
theorem wit_InjectionsMeetReads (H : Obligations.InjectionsMeetReads) :
    Goes (.faultInjectArm 0 wIn) (wInject (wMgSt (oInject 2 1) []))
    ∧ Goes (.faultInjectDisarm 0 wIn) (wInject (wMgSt (oInject 0 0) []))
    ∧ Goes (.scrubRead 0 0 none none true) (wSt)
    ∧ Goes (.scrubRead 0 1 none none false) (wSt)
    ∧ Goes (.scrubRead 0 2 none none false) (wSt)
    ∧ Goes (.scrubRead 0 3 none none false) (wSt)
    ∧ Goes (.scrubRead 0 0 none none false) (wArm)
    ∧ Goes (.scrubBehind) (wSt) := by
  refine ⟨Goes.ex ((H.1 (wInject (wMgSt (oInject 2 1) [])) 0 wIn (oInject 2 1) wRing).1 (managed_of ?_ ?_ ?_)),
    Goes.ex ((H.1 (wInject (wMgSt (oInject 0 0) [])) 0 wIn (oInject 0 0) wRing).2 (managed_of ?_ ?_ ?_)),
    Goes.eq ((H.2.1 wSt 0 ?_).1),
    Goes.ex ((H.2.1 wSt 0 ?_).2.1),
    Goes.ex ((H.2.1 wSt 0 ?_).2.2.1 ?_),
    Goes.eq ((H.2.1 wSt 0 ?_).2.2.2),
    Goes.ex (H.2.2.1 wArm 0 wArmed ?_ ?_ ?_ (fun _ => rfl)),
    Goes.ex (H.2.2.2 wSt ?_)⟩ <;> decide +kernel

/-- Operands that meet the hypotheses of every clause of SuppliesAreWatched. -/
theorem wit_SuppliesAreWatched (H : Obligations.SuppliesAreWatched) :
    Goes (.vddWarn 0 600) (wSt)
    ∧ Goes (.vddRestored 0 900) (wWarned)
    ∧ Goes (.brownoutLift) (wWarned)
    ∧ Goes (.vddRange 600) (wSt) := by
  refine ⟨Goes.ex ((H wSt ?_).1 0 600 ?_ ?_ ?_),
    Goes.ex ((H wWarned ?_).2.1 0 900 ?_ ?_ ?_),
    Goes.eq ((H wWarned ?_).2.2.1 5 ?_ ?_),
    Goes.ex ((H wSt ?_).2.2.2.1 600)⟩ <;> decide +kernel

/-- Operands that meet the hypotheses of every clause of TemperatureAndClocksAreWatched. -/
theorem wit_TemperatureAndClocksAreWatched (H : Obligations.TemperatureAndClocksAreWatched) :
    Goes (.throttle 0 410) (wSt)
    ∧ Goes (.thermalLimitStep 0 410) (wThermal 400)
    ∧ Goes (.throttleOff) (wThermal 5000)
    ∧ Goes (.therm 0 440) (wSt)
    ∧ Goes (.thermClear 0 400) (wThermal 400)
    ∧ Goes (.thermalShutdown 0 460) (wSt)
    ∧ Goes (.refclkLost) (wSt)
    ∧ Goes (.refclkRestored) (wNoClock)
    ∧ Goes (.wyRefclkLost false) (wSt)
    ∧ Goes (.wyRefclkLost true) (wSt) := by
  refine ⟨Goes.ex ((H.1 wSt 0 410).1 ?_ ?_),
    Goes.eq ((H.1 (wThermal 400) 0 410).2.1 400 ?_ ?_),
    Goes.ex ((H.1 (wThermal 5000) 0 0).2.2.1 5000 ?_ ?_ ?_),
    Goes.ex ((H.1 wSt 0 440).2.2.2.1 ?_ ?_),
    Goes.ex ((H.1 (wThermal 400) 0 400).2.2.2.2.1 ?_ ?_),
    Goes.ex ((H.1 wSt 0 460).2.2.2.2.2 ?_ ?_),
    Goes.ex (H.2.1 wSt ?_),
    Goes.ex (H.2.2.1 wNoClock ?_),
    Goes.ex (H.2.2.2.1 wSt ?_),
    Goes.eq (H.2.2.2.2 wSt)⟩ <;> decide +kernel

/-- MAINTENANCE in a life-cycle state. -/
def wLc (l : Lc) (s : State) : State := { s with glb := { s.glb with mode := .maintenance }, cus := { s.cus with lc := l } }

/-- LC_TRANSITION with an unsigned token of 64 bytes. -/
def oLc : Op := wE 0x0F0B 0 0 0 0 64 0 0
def wLcSt (l : Lc) : State := wLc l { wSt with ops := [oLc], nextOp := 10 }

/-- The unsigned header of a transition from BLANK. -/
def wToken (target : Nat) : Bytes := leBytes 2 1 ++ [0, BitVec.ofNat 8 target] ++ List.replicate 60 0

/-- DEBUG_AUTH with its mode inline, or a token in host memory. -/
def oChallenge : Op := { oWord 0x0F0D 1 with desc := { (oWord 0x0F0D 1).desc with outCap := 48, outRef := 0x500000 } }
def oClose : Op := oWord 0x0F0D 3
def oOpen : Op := wE 0x0F0D 0 0 0 0 7287 0 0
def wToken2 (o : Op) : OpInput := { wI o with inp := 2 :: List.replicate 7286 0 }
def wDbg (fails : Nat) (o : Op) : State :=
  let s := wLc .vendorTest { wSt with ops := [o], nextOp := 10 }
  { s with cus := { s.cus with authFails := fails } }

def wLocksOut (l : Lc) (o : Op) : State :=
  let s := wLc l { wSt with ops := [o], nextOp := 10 }
  { s with cus := { s.cus with authFails := 8 } }

/-- An unsigned token with a format that is not 1. -/
def wBadToken : Bytes := [2, 0, 0, 1] ++ List.replicate 60 0

/-- A debug token of the state with a reserved field set. -/
def wBadDebug : Bytes := [2, 0, 0, 0, 9, 0, 1, 1, 3] ++ List.replicate 7278 0

/-- A challenge and a session about to expire. -/
def wExpires : State := { wSt with cus := { wSt.cus with challenge := some ([], 5), session := some (1, 5) } }

/-- The tamper inputs enabled with an ACTION each. -/
def wTamper (act : Nat) : State := setReg 0x0C0140 (BitVec.ofNat 32 (4 * act + 1)) wSt

/-- The four parts of a set, as they are read. -/
def wParts : List Bytes := [[1], [2], [3], [4]]

/-- What an update set says of itself, and a device with one staged in bank 1. -/
def wSet (id : Nat) : SetInfo :=
  { setId := id, svn := 0, raiseFloor := false, ownerSigned := false, capsuleId := 0, records := [], patchRevs := [],
    engines := State.reset.eng.info, digests := wParts.map (fun p => (algBytes .hash 64 [5] [p], algBytes .hash 64 [9] [p])) }
def wFlash (s : State) : State := { s with cus := { s.cus with up := { s.cus.up with flashLog2 := 24, sfdpOk := true, standbyReady := true } } }
def wStaged (s : State) : State :=
  { s with cus := { s.cus with up := { s.cus.up with
      copy0 := some { blankRecord with seq := 1, stageState := 3, stageBank := 1, stagedId := 7 }, bank0 := some (wSet 3), bank1 := some (wSet 7),
      flashLog2 := 24, sfdpOk := true, standbyReady := true, runningBank := 0 } } }
def oStage : Op := wE 0x0F0F 0 0 0 0 15078 0 0

/-- A hand-over that waits. -/
def wHandover : State :=
  let s := wStaged { wSt with ops := [oWaits 0x0F10], nextOp := 10, im := { wSt.im with waits := [(0, .handover 5)] } }
  { s with glb := { s.glb with mode := .quiesce } }

/-- A source's 1,024 samples, 0 and 1 in turn. -/
def wNoise : Nat := (2 ^ 1024 - 1) / 3

theorem measured_wParts (id : Nat) : 2 ∉ measured (wSet id) wParts := by simp [measured, wSet, wParts, List.range, List.range.loop]

/-- BOOT with every test passed, and a set in bank 0. -/
def wBoot : BootInput :=
  { otpMargin := [], otpBad := [], checkers := [], src0 := wNoise, src1 := wNoise, journalBad := [], journalLost := [], blobsBad := [], sfdpOk := true, flashLog2 := 24,
    bank0 := some (some (wSet 3)), bank1 := none, readFail := none, parts := wParts, kat := [], recordFail := false, fwStart := true,
    standby := true }

/-- No attempt left. -/
def wTried : State :=
  { State.reset with cus := { State.reset.cus with up := { State.reset.cus.up with copy0 := some { blankRecord with attempts := 3 } } } }

/-- The firmware is to start. -/
def wStarting : State := { State.reset with cus := { State.reset.cus with up := { State.reset.cus.up with step := 11 } } }

/-- A reset is due. -/
def wDue : State := { wSt with cus := { wSt.cus with resetDue := some 5 } }

/-- D3hot, with a backlog timer stopped. -/
def wD3 : State := { wSt with hp := { wSt.hp with d3hot := true }, qm := { wSt.qm with rings := [(0, { wRing with backlogLeft := some 9 })] } }

/-- No ring's backlog timer runs, by evaluation. -/
theorem noTimers {s : State} (h : s.qm.rings.all (fun e => decide (e.2.backlogAt = none)) = true) (n : Nat) (r : Ring) (hr : ring? s n = some r) :
    r.backlogAt = none := by
  simp only [ring?] at hr
  revert hr h
  induction s.qm.rings with
  | nil => simp [lookup]
  | cons e l ih =>
    simp only [lookup, List.all_cons, Bool.and_eq_true, decide_eq_true_eq]
    rintro ⟨h, k⟩ hr
    split at hr
    · injection hr with hr; exact hr ▸ h
    · exact ih k hr

/-- SETTING_WRITE of a register. -/
def oSetting (off mask value : Nat) : Op := wMg 0x0F13 (leBytes 4 off ++ leBytes 4 mask ++ leBytes 4 value)

/-- A register of the table, and its LOCK bit set. -/
def wReg (off : Nat) : Reg := (regAt off).getD { off := 0, host := false, lock := none, flds := [] }
def wLocked (off : Nat) : State := setReg off 0x80000000 wSt

/-- An event of type 0 pending. -/
def wEvent : State := { wSt with im := { wSt.im with events := put 0 { pending := true, count := 3, detail := 1, unsent := false } wSt.im.events } }

/-- Operands that meet the hypotheses of every clause of LifeCycleMoves. -/
theorem wit_LifeCycleMoves (H : Obligations.LifeCycleMoves) :
    Goes (.lcTransition 0 { wI oLc with inp := wToken 1 }) (wLcSt .blank)
    ∧ Goes (.lcTransition 0 { wI oLc with inp := wToken 6 }) (wLcSt .blank)
    ∧ Goes (.lcTransition 0 { wI oLc with inp := wToken 1 }) (wLcSt .inService) := by
  refine ⟨Goes.ex (H (wLcSt .blank) 0 { wI oLc with inp := wToken 1 } oLc wRing (managed_of ?_ ?_ ?_) rfl),
    Goes.ex (H (wLcSt .blank) 0 { wI oLc with inp := wToken 6 } oLc wRing (managed_of ?_ ?_ ?_) rfl),
    Goes.ex (H (wLcSt .inService) 0 { wI oLc with inp := wToken 1 } oLc wRing (managed_of ?_ ?_ ?_) rfl)⟩ <;> decide +kernel

/-- Operands that meet the hypotheses of every clause of KeysAreWiped. -/
theorem wit_KeysAreWiped (H : Obligations.KeysAreWiped) :
    Goes (.zeroise 0 wIn) (wLc .inService (wMgSt (wE 0x0F0C 0 0 0 0 0 0 0) []))
    ∧ Goes (.zeroise 0 { wIn with cut := some .early }) (wLc .inService (wMgSt (wE 0x0F0C 0 0 0 0 0 0 0) []))
    ∧ Goes (.tamperAsserted 0 true) (wSt)
    ∧ Goes (.tamperAsserted 0 false) (wSt)
    ∧ Goes (.tamperAsserted 0 true) (wTamper 0)
    ∧ Goes (.tamperAsserted 0 true) (wTamper 1)
    ∧ Goes (.tamperAsserted 0 true) (wTamper 2)
    ∧ Goes (.tamperLatchedClear 3) (wSt) := by
  refine ⟨Goes.ex ((H.1 (wLc .inService (wMgSt (wE 0x0F0C 0 0 0 0 0 0 0) [])) 0 wIn (wE 0x0F0C 0 0 0 0 0 0 0) wRing (managed_of ?_ ?_ ?_)).1 ?_),
    Goes.ex ((H.1 (wLc .inService (wMgSt (wE 0x0F0C 0 0 0 0 0 0 0) [])) 0 { wIn with cut := some .early } (wE 0x0F0C 0 0 0 0 0 0 0) wRing (managed_of ?_ ?_ ?_)).2 rfl),
    Goes.eq ((H.2 wSt 0 ?_).1 ?_ ?_),
    Goes.eq ((H.2 wSt 0 ?_).2.1),
    Goes.ex ((H.2 (wTamper 0) 0 ?_).2.2.1 ?_ ?_),
    Goes.ex ((H.2 (wTamper 1) 0 ?_).2.2.1 ?_ ?_),
    Goes.ex ((H.2 (wTamper 2) 0 ?_).2.2.1 ?_ ?_),
    Goes.eq ((H.2 wSt 0 ?_).2.2.2 3 ?_)⟩ <;> decide +kernel

/-- Operands that meet the hypotheses of every clause of DebugSessionsOpenAndClose. -/
theorem wit_DebugSessionsOpenAndClose (H : Obligations.DebugSessionsOpenAndClose) :
    Goes (.debugChallenge 0 wIn) (wDbg 8 oChallenge)
    ∧ Goes (.debugOpen 0 (wToken2 oOpen)) (wDbg 8 oOpen)
    ∧ Goes (.debugClose 0 wIn) (wDbg 8 oClose)
    ∧ Goes (.debugChallenge 0 wIn) (wDbg 0 oChallenge)
    ∧ Goes (.debugOpen 0 (wToken2 oOpen)) (wDbg 0 oOpen)
    ∧ Goes (.debugClose 0 wIn) (wDbg 0 oClose)
    ∧ Goes (.challengeExpiry) (wExpires)
    ∧ Goes (.debugSessionExpiry) (wExpires) := by
  refine ⟨Goes.ex ((H (wDbg 8 oChallenge) 0 wIn oChallenge wRing).1 (.debugChallenge 0 wIn, 1) (List.mem_of_getElem? (i := 0) rfl) (managed_of ?_ ?_ ?_) ?_ ?_),
    Goes.ex ((H (wDbg 8 oOpen) 0 (wToken2 oOpen) oOpen wRing).1 (.debugOpen 0 (wToken2 oOpen), 2) (List.mem_of_getElem? (i := 1) rfl) (managed_of ?_ ?_ ?_) ?_ ?_),
    Goes.ex ((H (wDbg 8 oClose) 0 wIn oClose wRing).1 (.debugClose 0 wIn, 3) (List.mem_of_getElem? (i := 2) rfl) (managed_of ?_ ?_ ?_) ?_ ?_),
    Goes.ex2 ((H (wDbg 0 oChallenge) 0 wIn oChallenge wRing).2.1 (managed_of ?_ ?_ ?_) ?_ ?_ ?_),
    Goes.ex ((H (wDbg 0 oOpen) 0 (wToken2 oOpen) oOpen wRing).2.2.1 (managed_of ?_ ?_ ?_) ?_ ?_),
    Goes.ex ((H (wDbg 0 oClose) 0 wIn oClose wRing).2.2.2.1 (managed_of ?_ ?_ ?_) ?_ ?_),
    Goes.eq ((H wExpires 0 wIn oClose wRing).2.2.2.2.1 [] 5 rfl ?_),
    Goes.ex ((H wExpires 0 wIn oClose wRing).2.2.2.2.2 1 5 rfl ?_)⟩ <;> decide +kernel

/-- Operands that meet the hypotheses of every clause of UpdatesAreStagedAndActivated. -/
theorem wit_UpdatesAreStagedAndActivated (H : Obligations.UpdatesAreStagedAndActivated) :
    Goes (.updateStage 0 (wI oStage)) (wFlash (wMgSt oStage []))
    ∧ Goes (.updateActivate 0 wIn) (wStaged (wMgSt (oWord 0x0F10 0) []))
    ∧ Goes (.updateActivate 0 { wIn with handover := false }) (wStaged (wMgSt (oWord 0x0F10 0) []))
    ∧ Goes (.updateActivate 0 wIn) (wFlash (wMgSt (oWord 0x0F10 0) []))
    ∧ Goes (.updateActivateReset 0 wIn) (wStaged (wMgSt (oWord 0x0F10 1) []))
    ∧ Goes (.handoverTimeout) (wHandover) := by
  refine ⟨Goes.ex (H.1 (wFlash (wMgSt oStage [])) 0 (wI oStage) oStage wRing (managed_of ?_ ?_ ?_) rfl (fun w h => nomatch (show w ∈ ([] : List (Nat × MgmtWait)) from h))),
    Goes.ex (H.2.1 (wStaged (wMgSt (oWord 0x0F10 0) [])) 0 wIn (oWord 0x0F10 0) wRing (fun w h => nomatch (show w ∈ ([] : List (Nat × MgmtWait)) from h)) (.updateActivate 0 wIn, activateHitless) (List.mem_of_getElem? (i := 0) rfl) (managed_of ?_ ?_ ?_)),
    Goes.ex (H.2.1 (wStaged (wMgSt (oWord 0x0F10 0) [])) 0 { wIn with handover := false } (oWord 0x0F10 0) wRing (fun w h => nomatch (show w ∈ ([] : List (Nat × MgmtWait)) from h)) (.updateActivate 0 { wIn with handover := false }, activateHitless) (List.mem_of_getElem? (i := 0) rfl) (managed_of ?_ ?_ ?_)),
    Goes.ex (H.2.1 (wFlash (wMgSt (oWord 0x0F10 0) [])) 0 wIn (oWord 0x0F10 0) wRing (fun w h => nomatch (show w ∈ ([] : List (Nat × MgmtWait)) from h)) (.updateActivate 0 wIn, activateHitless) (List.mem_of_getElem? (i := 0) rfl) (managed_of ?_ ?_ ?_)),
    Goes.ex (H.2.1 (wStaged (wMgSt (oWord 0x0F10 1) [])) 0 wIn (oWord 0x0F10 1) wRing (fun w h => nomatch (show w ∈ ([] : List (Nat × MgmtWait)) from h)) (.updateActivateReset 0 wIn, activateReset) (List.mem_of_getElem? (i := 1) rfl) (managed_of ?_ ?_ ?_)),
    Goes.ex (H.2.2 wHandover (oWaits 0x0F10) wRing 5 rfl ?_ ?_ (alone_of ?_) ?_)⟩ <;> decide +kernel

/-- Operands that meet the hypotheses of every clause of BootEndsInAMode. -/
theorem wit_BootEndsInAMode (H : Obligations.BootEndsInAMode) :
    Goes (.boot wBoot) (State.reset)
    ∧ Goes (.boot wBoot) (wTried)
    ∧ Goes (.boot { wBoot with sfdpOk := false }) (State.reset)
    ∧ Goes (.fwStartTimeout) (wStarting) := by
  refine ⟨Goes.ex ((H.1 State.reset wBoot rfl rfl rfl rfl rfl rfl rfl rfl rfl rfl ?_ ?_).1 (wSet 3) rfl ?_ rfl (measured_wParts 3) rfl rfl rfl ?_ ?_ rfl ?_ ?_),
    Goes.ex ((H.1 wTried wBoot rfl rfl rfl rfl rfl rfl rfl rfl rfl rfl ?_ ?_).2.1 rfl ?_ ?_ ?_ ?_),
    Goes.ex ((H.1 State.reset { wBoot with sfdpOk := false } rfl rfl rfl rfl rfl rfl rfl rfl rfl rfl ?_ ?_).2.2 rfl),
    Goes.ex (H.2 wStarting rfl rfl rfl)⟩ <;> decide +kernel

/-- Operands that meet the hypotheses of every clause of ResetsClearTheBlock. -/
theorem wit_ResetsClearTheBlock (H : Obligations.ResetsClearTheBlock) :
    Goes (.coldReset) (wSt)
    ∧ Goes (.supplyResetTrip 0 1) (wSt)
    ∧ Goes (.warmReset 2) (wSt)
    ∧ Goes (.warmReset 3) (wSt)
    ∧ Goes (.custodyReset) (wDue)
    ∧ Goes (.glbSysReset 0xA5A5) (wSt)
    ∧ Goes (.glbSysReset 0) (wSt)
    ∧ Goes (.flr) (wSt)
    ∧ Goes (.d3hotEntry true) (wSt)
    ∧ Goes (.d0Return true) (wD3)
    ∧ Goes (.atsInvalidation 4) (wSt) := by
  refine ⟨Goes.ex ((H.1 wSt).1),
    Goes.ex ((H.1 wSt).2.1 0 1 ?_ ?_),
    Goes.ex ((H.1 wSt).2.2.1 2 (.inl rfl)),
    Goes.ex ((H.1 wSt).2.2.1 3 (.inr rfl)),
    Goes.ex ((H.1 wDue).2.2.2.1 5 rfl ?_),
    Goes.ex ((H.1 wSt).2.2.2.2.1 ?_),
    Goes.eq ((H.1 wSt).2.2.2.2.2 0 ?_),
    Goes.ex (H.2.1 wSt ?_),
    Goes.ex (H.2.2.1 wSt true ?_),
    Goes.ex (H.2.2.2.1 wD3 true (noTimers ?_)),
    Goes.eq (H.2.2.2.2 wSt 4)⟩ <;> decide +kernel

/-- Operands that meet the hypotheses of every clause of RegistersAreWritten. -/
theorem wit_RegistersAreWritten (H : Obligations.RegistersAreWritten) :
    Goes (.settingWrite 0 wIn) (wMgSt (oSetting 0x020104 0xFF 5) [])
    ∧ Goes (.lockSet 0x020104) (wSt)
    ∧ Goes (.registerWrite 0 0x020104 4 5) (wLocked 0x020104)
    ∧ Goes (.slotSelect 5) (wSt)
    ∧ Goes (.calSelect 5) (wSt)
    ∧ Goes (.beatLoRead) (wSt)
    ∧ Goes (.eventPendingClear 0) (wEvent)
    ∧ Goes (.faultnStateClear) (wSt) := by
  refine ⟨Goes.ex2 (H.1 (wMgSt (oSetting 0x020104 0xFF 5) []) 0 wIn (oSetting 0x020104 0xFF 5) wRing (managed_of ?_ ?_ ?_)),
    Goes.ex ((H.2 wSt).1 0x020104 (wReg 0x020104) ?_ ?_ ?_),
    Goes.eq ((H.2 (wLocked 0x020104)).2.1 0x020104 (wReg 0x020104) 5 ?_ ?_ ?_ ?_),
    Goes.ex ((H.2 wSt).2.2.1 5 ?_),
    Goes.ex ((H.2 wSt).2.2.2.1 5 ?_),
    Goes.eq ((H.2 wSt).2.2.2.2.1 ?_ ?_),
    Goes.ex ((H.2 wEvent).2.2.2.2.2.1 0 { pending := true, count := 3, detail := 1, unsent := false } ?_ ?_),
    Goes.eq ((H.2 wSt).2.2.2.2.2.2.1 ?_)⟩ <;> decide +kernel

/-- Operands that meet the hypotheses of every clause of EightFailuresLockTokensOut. -/
theorem wit_EightFailuresLockTokensOut (H : Obligations.EightFailuresLockTokensOut) :
    Goes (.lcTransition 0 { wI oLc with inp := wToken 1 }) (wLocksOut .blank oLc)
    ∧ Goes (.lcTransition 0 { wI oLc with inp := wBadToken }) (wLcSt .blank)
    ∧ Goes (.debugChallenge 0 wIn) (wDbg 8 oChallenge)
    ∧ Goes (.debugOpen 0 (wToken2 oOpen)) (wDbg 8 oOpen)
    ∧ Goes (.debugClose 0 wIn) (wDbg 8 oClose)
    ∧ Goes (.debugOpen 0 { wI oOpen with inp := wBadDebug }) (wDbg 0 oOpen)
    ∧ Goes (.coldReset) (wDbg 8 oOpen) := by
  refine ⟨Goes.ex (((H.2.2 (wLocksOut .blank oLc) ?_).1 0 { wI oLc with inp := wToken 1 } oLc wRing).1 (managed_of ?_ ?_ ?_)),
    Goes.ex ((H.1 (wLcSt .blank) 0 { wI oLc with inp := wBadToken } oLc wRing ?_).1 (managed_of ?_ ?_ ?_) 3 _ rfl),
    Goes.ex (((H.2.2 (wDbg 8 oChallenge) ?_).1 0 wIn oChallenge wRing).2 (.debugChallenge 0 wIn, 1) (List.mem_of_getElem? (i := 0) rfl) (managed_of ?_ ?_ ?_) ?_),
    Goes.ex (((H.2.2 (wDbg 8 oOpen) ?_).1 0 (wToken2 oOpen) oOpen wRing).2 (.debugOpen 0 (wToken2 oOpen), 2) (List.mem_of_getElem? (i := 1) rfl) (managed_of ?_ ?_ ?_) ?_),
    Goes.ex (((H.2.2 (wDbg 8 oClose) ?_).1 0 wIn oClose wRing).2 (.debugClose 0 wIn, 3) (List.mem_of_getElem? (i := 2) rfl) (managed_of ?_ ?_ ?_) ?_),
    Goes.ex ((H.1 (wDbg 0 oOpen) 0 { wI oOpen with inp := wBadDebug } oOpen wRing ?_).2 (managed_of ?_ ?_ ?_) ?_ 3 _ rfl),
    Goes.ex ((H.2.2 (wDbg 8 oOpen) ?_).2.2)⟩ <;> decide +kernel

/-! #### Ports and the group -/

def wPort0 : Port := (State.reset.ports[0]?).getD
  { state := .down, lanes := 0, failed := 0, narrowed := false, peer := 1023, peerUid := [], active := false, lastLoad := 0, lastSent := 0,
    lastHeard := 0, fecCorrected := 0, fecUncorr := 0, dropped := 0, auth := 0, replay := 0, starved := 0, authWindow := (0, 0), helloMine := none,
    helloPeer := none, ctMine := none, rekeying := false, keys := none, keysAt := 0, oldKeys := none, txSeq := 0, rxSeq := none, rxOld := none,
    ackSeq := none, sent := [], unreported := none, channels := [], queue := [], assembly := none, retryAt := none, backoff := 0 }

/-- A port in a state, and a device with it as port 0. -/
def wPort (st : PortState) : Port := { wPort0 with state := st, lanes := 15 }
def wPorts (p : Port) (s : State) : State := { s with ports := p :: s.ports.drop 1 }

def wKeys : SessionKeys := { txKey := [1], rxKey := [2], txSalt := [3], rxSalt := [4] }
def wSecure : Port := { wPort .secure with keys := some wKeys, peer := 1, active := true }

/-- A frame. -/
def wFrame (len seq : Nat) (prot tagOk : Bool) (payload : Bytes) : FrameIn :=
  { vc := 0, prot := prot, reserved := false, len := len, delimited := 24 + len + (if prot then 16 else 0), free := 0x010101, seq := seq,
    ack := 0xFFFFFFFFFFFFFFFF, tagOk := tagOk, old := false, payload := payload }

/-- A charter that names this device as member 0, and members 1 and 2. -/
def wCharter (primary : Nat) (standby : Option Nat) : Charter :=
  { seq := 5, groupId := List.replicate 16 1, primary := primary, standby := standby, takeoverMs := 1000, minSvn := 0
    entries := [⟨0, List.replicate 16 0, [0]⟩, ⟨1, List.replicate 16 1, [1]⟩, ⟨2, List.replicate 16 2, [2]⟩], raw := [1, 2, 3] }

/-- A member with a session, one hop from port 0. -/
def wMem : Member := { blankMember with routes := [(0, 1, 5)], keys := some wKeys, heard := 5 }

/-- The device in the group, port 0 secure with member 1. -/
def wGrp (primary : Nat) (standby : Option Nat) (role : Nat) : State :=
  { wPorts wSecure wSt with
    stf := { wSt.stf with role := role, epoch := 3 }
    grp := { wSt.grp with
      charter := some (wCharter primary standby), joined := true, primary := primary, standby := standby, epoch := 3
      members := [(1, wMem), (2, wMem)] } }
def wGrpPort (p : Port) : State := wPorts p (wGrp 1 none 1)

/-- The member of a group state changed. -/
def wMember (f : Member → Member) (s : State) : State := { s with grp := { s.grp with members := [(1, f wMem), (2, wMem)] } }

/-- HELLO_A and HELLO_B by length and first byte. -/
def wHelloA : Bytes := 1 :: List.replicate 4259 1
def wHelloB : Bytes := 2 :: List.replicate 6198 1

/-- A message of member 1, and the member as it is heard. -/
def wVia : Via := { port := 0, src := 1, rseq := 0 }
def wHeard (x : Member) : Member := { x with window := (1, wSt.beat) }

theorem heard_of {s : State} {y : Member} {g : Bool} (h : member? s 1 = some y)
    (k : (y.keys.isSome && !y.excluded && !replayed y 0 && decide (admitMessage s.beat y = some (wHeard y))) = true) :
    Heard s wVia g (wHeard y) := by
  simp only [Bool.and_eq_true, Bool.not_eq_true', decide_eq_true_eq] at k
  exact ⟨y, h, k.1.1.1, fun _ => k.1.1.2, k.1.2, k.2⟩

/-- A charter fragment. -/
def wFrag (f count total : Nat) (data : Bytes) : CharterFrag := { seq := 6, frag := f, count := count, total := total, data := data }

def wAttest : AttestMsg :=
  { nonce := List.replicate 32 0, uid := List.replicate 16 1, charterSeq := 5, state := 4, debugOpen := false, measOk := true, setId := 0, svn := 0,
    sig := [] }

/-- A stateful group key at 15,400. -/
def wGroupKey : StfKey := newStf (List.replicate 16 0) 1 5 3 0 4096 true true
def wLmsKey (k : StfKey) (s : State) : State := { s with stf := { s.stf with keys := [(15400, k)] } }
def wLm (epoch leaseNo reqNo : Nat) : LeaseMsg :=
  { keyId := List.replicate 16 0, slot := 15400, sat := 0, leaseNo := leaseNo, start := 0, stop := 1024, deadline := 1000, epoch := epoch,
    reqNo := reqNo, code := 0 }
def wLease (d : Option Nat) : LeaseHeld := { start := 0, stop := 1024, number := 4, deadline := d }
def wGrant : Grant :=
  { sat := 1, number := 4, start := 0, stop := 1024, deadline := 5, reqNo := 2, mirrorAt := some 5, acked := false }

/-- A grant whose mirroring has just been asked for. -/
def wGrantNew : Grant := { wGrant with mirrorAt := some 99999999999999 }

/-- A device that is SOLE. -/
def wSole (s : State) : State := { s with stf := { s.stf with sole := true } }

/-- A group key that operation 0 creates. -/
def wCreating (n : Option Nat) : Creating := { op := 0, key := wSlot 0x0E02 [1] [], stf := none, number := n, acks := [], due := 5 }
def wWaits1 : Creating := { wCreating (some 15400) with due := 200000000000000 }
def wCreates (c : Creating) (s : State) : State := { s with ops := [wRun wDesc], nextOp := 10, grp := { s.grp with creating := [c] } }
def wPart (f count : Nat) : KeyFrag :=
  { slot := 15400, frag := f, count := count, total := 32, template := leBytes 2 0x0E02 ++ leBytes 2 0x20 ++ List.replicate 12 0, lineage := [],
    data := List.replicate 32 1 }
def wLive (s : State) : State := { s with kv := { s.kv with slots := [(15400, wSlot 0x0E02 [1] [])] } }

def oCharter : Op := wE 0x0F11 0 0 0 0 7283 0 0
def oGroup (op number : Nat) : Op := wMg 0x0F12 ([BitVec.ofNat 8 op, 0] ++ leBytes 2 15400 ++ leBytes 4 number ++ List.replicate 8 0)
def wGop (o : Op) (s : State) : State := { s with ops := [o], nextOp := 10 }

def wUnjoined (s : State) : State := { s with grp := { s.grp with joined := false } }
def wHeld : State := { wGrp 0 none 2 with grp := { (wGrp 0 none 2).grp with numbers := [(15400, { sat := 1, due := 5 })] } }

theorem noWaits {P : Nat × MgmtWait → Prop} : ∀ w ∈ ([] : List (Nat × MgmtWait)), P w := fun _ h => nomatch h

/-- Operands that meet the hypotheses of every clause of PortsTrainAndTakeFrames. -/
theorem wit_PortsTrainAndTakeFrames (H : Obligations.PortsTrainAndTakeFrames) :
    Goes (.portTraining 0 15) (wPorts (wPort .training) wSt)
    ∧ Goes (.portTraining 0 0) (wPorts (wPort .down) wSt)
    ∧ Goes (.laneFail 0 1) (wPorts wSecure wSt)
    ∧ Goes (.trainingRetry 0) (wPorts { wPort .down with retryAt := some 5 } wSt)
    ∧ Goes (.fecThreshold 0 5 1) (wPorts wSecure wSt)
    ∧ Goes (.fecThreshold 0 5 1000) (wPorts wSecure wSt)
    ∧ Goes (.portIdle 0) (wPorts wSecure wSt)
    ∧ Goes (.frameReceive 0 { wFrame 0 5 true true [] with reserved := true }) (wPorts wSecure wSt)
    ∧ Goes (.frameReceive 0 (wFrame 0 5 true false [])) (wPorts wSecure wSt)
    ∧ Goes (.frameReceive 0 (wFrame 0 5 true true [])) (wPorts { wSecure with rxSeq := some 7 } wSt)
    ∧ Goes (.frameReceive 0 (wFrame 0 5 true true [])) (wPorts wSecure wSt)
    ∧ Goes (.frameReceive 0 (wFrame 5 5 false true [1])) (wPorts (wPort .up) wSt) := by
  refine ⟨Goes.ex ((H.1 (wPorts (wPort .training) wSt) 0 (wPort .training) rfl).1 15 ?_ ?_ ?_ ?_ ?_),
    Goes.ex ((H.1 (wPorts (wPort .down) wSt) 0 (wPort .down) rfl).1 0 ?_ ?_ ?_ ?_ ?_),
    Goes.ex ((H.1 (wPorts wSecure wSt) 0 wSecure rfl).2.1 1 ?_ ?_ ?_),
    Goes.eq ((H.1 (wPorts { wPort .down with retryAt := some 5 } wSt) 0 _ rfl).2.2.1 5 rfl rfl ?_ ?_ ?_),
    Goes.ex ((H.1 (wPorts wSecure wSt) 0 wSecure rfl).2.2.2.1 5 1 ?_),
    Goes.ex ((H.1 (wPorts wSecure wSt) 0 wSecure rfl).2.2.2.1 5 1000 ?_),
    Goes.eq ((H.1 (wPorts wSecure wSt) 0 wSecure rfl).2.2.2.2 ?_ ?_),
    Goes.ex ((H.2 (wPorts wSecure wSt) 0 wSecure { wFrame 0 5 true true [] with reserved := true } rfl ?_).1 ?_),
    Goes.ex ((H.2 (wPorts wSecure wSt) 0 wSecure (wFrame 0 5 true false []) rfl ?_).2.1 ?_ ?_ ?_),
    Goes.ex ((H.2 (wPorts { wSecure with rxSeq := some 7 } wSt) 0 { wSecure with rxSeq := some 7 } (wFrame 0 5 true true []) rfl ?_).2.2.1 7 ?_ ?_ ?_ ?_),
    Goes.ex ((H.2 (wPorts wSecure wSt) 0 wSecure (wFrame 0 5 true true []) rfl ?_).2.2.2.1 ?_ ?_ ?_ ?_ ?_ (fun q h => nomatch (show (none : Option Nat) = some q from h))),
    Goes.ex ((H.2 (wPorts (wPort .up) wSt) 0 (wPort .up) (wFrame 5 5 false true [1]) rfl ?_).2.2.2.2 ?_ ?_ ?_ (fun q h => nomatch (show (none : Option Nat) = some q from h)))⟩ <;> decide +kernel

/-- Operands that meet the hypotheses of every clause of MalformedFramesAreDropped. -/
theorem wit_MalformedFramesAreDropped (H : Obligations.MalformedFramesAreDropped) :
    Goes (.frameReceive 0 { wFrame 0 5 true true [] with reserved := true }) (wPorts wSecure wSt)
    ∧ Goes (.frameReceive 0 { wFrame 0 5 true true [] with vc := 3 }) (wPorts wSecure wSt)
    ∧ Goes (.frameReceive 0 (wFrame 8193 5 true true [])) (wPorts wSecure wSt)
    ∧ Goes (.frameReceive 0 { wFrame 0 5 true true [] with delimited := 24 }) (wPorts wSecure wSt) := by
  refine ⟨Goes.ex (H (wPorts wSecure wSt) 0 wSecure { wFrame 0 5 true true [] with reserved := true } ?_ ?_ ?_ ?_),
    Goes.ex (H (wPorts wSecure wSt) 0 wSecure { wFrame 0 5 true true [] with vc := 3 } ?_ ?_ ?_ ?_),
    Goes.ex (H (wPorts wSecure wSt) 0 wSecure (wFrame 8193 5 true true []) ?_ ?_ ?_ ?_),
    Goes.ex (H (wPorts wSecure wSt) 0 wSecure { wFrame 0 5 true true [] with delimited := 24 } ?_ ?_ ?_ ?_)⟩ <;> decide +kernel

/-- Operands that meet the hypotheses of every clause of SessionsOpenAndStayAlive. -/
theorem wit_SessionsOpenAndStayAlive (H : Obligations.SessionsOpenAndStayAlive) :
    Goes (.heartbeat 0) (wPorts wSecure wSt)
    ∧ Goes (.creditReport 0) (wPorts { wSecure with unreported := some 5 } wSt)
    ∧ Goes (.creditStarved 0 0) (wPorts { wSecure with channels := [⟨0, some 5, false⟩, Channel.blank, Channel.blank] } wSt)
    ∧ Goes (.starveSessionEnd 0 0) (wPorts { wSecure with channels := [⟨0, some 5, false⟩, Channel.blank, Channel.blank] } wSt)
    ∧ Goes (.peerTimeout 0) (wPorts wSecure wSt)
    ∧ Goes (.helloA 0 wHelloA) (wGrpPort { wPort .up with helloMine := some [9] })
    ∧ Goes (.helloB 0 wHelloB) (wGrpPort { wPort .up with helloMine := some [9], helloPeer := some wHelloA, ctMine := some [8] })
    ∧ Goes (.restrictedTimeout 0) (wGrpPort { wPort .restricted with keys := some wKeys })
    ∧ Goes (.peerRetry 0) (wGrpPort { wPort .up with retryAt := some 5 })
    ∧ Goes (.rekey 0) (wGrpPort wSecure) := by
  refine ⟨Goes.eq ((H.1 (wPorts wSecure wSt) 0 wSecure rfl ?_).1 ?_),
    Goes.eq ((H.1 (wPorts { wSecure with unreported := some 5 } wSt) 0 { wSecure with unreported := some 5 } rfl ?_).2.1 ?_),
    Goes.ex ((H.1 (wPorts { wSecure with channels := [⟨0, some 5, false⟩, Channel.blank, Channel.blank] } wSt) 0 { wSecure with channels := [⟨0, some 5, false⟩, Channel.blank, Channel.blank] } rfl ?_).2.2.1 0 ?_ ?_),
    Goes.ex ((H.1 (wPorts { wSecure with channels := [⟨0, some 5, false⟩, Channel.blank, Channel.blank] } wSt) 0 { wSecure with channels := [⟨0, some 5, false⟩, Channel.blank, Channel.blank] } rfl ?_).2.2.2.1 0 ?_),
    Goes.ex ((H.1 (wPorts wSecure wSt) 0 wSecure rfl ?_).2.2.2.2 ?_),
    Goes.ex2 ((H.2 (wGrpPort { wPort .up with helloMine := some [9] }) 0 { wPort .up with helloMine := some [9] } rfl).1 wHelloA [9] rfl rfl rfl ?_ ?_ ?_ ?_),
    Goes.ex ((H.2 (wGrpPort { wPort .up with helloMine := some [9], helloPeer := some wHelloA, ctMine := some [8] }) 0 { wPort .up with helloMine := some [9], helloPeer := some wHelloA, ctMine := some [8] } rfl).2.1 wHelloB [9] wHelloA [8] rfl rfl rfl rfl ?_ ?_),
    Goes.ex ((H.2 (wGrpPort { wPort .restricted with keys := some wKeys }) 0 { wPort .restricted with keys := some wKeys } rfl).2.2.1 rfl ?_),
    Goes.ex2 ((H.2 (wGrpPort { wPort .up with retryAt := some 5 }) 0 { wPort .up with retryAt := some 5 } rfl).2.2.2.1 5 rfl rfl rfl ?_ ?_),
    Goes.ex ((H.2 (wGrpPort wSecure) 0 wSecure rfl).2.2.2.2 rfl rfl ?_)⟩ <;> decide +kernel

/-- Operands that meet the hypotheses of every clause of RoutesAndChartersAreLearned. -/
theorem wit_RoutesAndChartersAreLearned (H : Obligations.RoutesAndChartersAreLearned) :
    Goes (.route 0 [(2, 3)]) (wGrp 1 none 1)
    ∧ Goes (.route 0 []) (wGrp 1 none 1)
    ∧ Goes (.routeSend) (wGrp 1 none 1)
    ∧ Goes (.memberLost 1) (wMember (fun x => { x with routes := [], routeless := some 5 }) (wGrp 1 none 1))
    ∧ Goes (.charter 0 (wFrag 0 2 8003 [1, 2])) (wGrp 1 none 1)
    ∧ Goes (.charter 0 (wFrag 3 2 8003 [1, 2])) (wGrp 1 none 1)
    ∧ Goes (.charter 0 (wFrag 0 1 2 [1, 2])) (wGrp 1 none 1)
    ∧ Goes (.charterAssemblyTimeout 0) (wGrpPort { wSecure with assembly := some ⟨6, 2, 8003, 5, []⟩ }) := by
  refine ⟨Goes.ex2 ((H.1.1 (wGrp 1 none 1) 0 2 3 wSecure rfl rfl).1 ?_ ?_ ?_ ?_ ?_),
    Goes.ex ((H.1.1 (wGrp 1 none 1) 0 2 3 wSecure rfl rfl).2),
    Goes.ex (H.1.2.1 (wGrp 1 none 1) ?_ ?_),
    Goes.ex (H.1.2.2 (wMember (fun x => { x with routes := [], routeless := some 5 }) (wGrp 1 none 1)) 1 5 { wMem with routes := [], routeless := some 5 } rfl rfl rfl rfl ?_),
    Goes.eq ((H.2 (wGrp 1 none 1) 0 wSecure (wFrag 0 2 8003 [1, 2]) rfl (.inl rfl)).1 rfl ?_ ?_ ?_),
    Goes.ex ((H.2 (wGrp 1 none 1) 0 wSecure (wFrag 3 2 8003 [1, 2]) rfl (.inl rfl)).2.1 ?_),
    Goes.ex ((H.2 (wGrp 1 none 1) 0 wSecure (wFrag 0 1 2 [1, 2]) rfl (.inl rfl)).2.2.1 rfl rfl rfl),
    Goes.ex ((H.2 (wGrpPort { wSecure with assembly := some ⟨6, 2, 8003, 5, []⟩ }) 0 { wSecure with assembly := some ⟨6, 2, 8003, 5, []⟩ } (wFrag 0 1 2 []) rfl (.inl rfl)).2.2.2 ⟨6, 2, 8003, 5, []⟩ rfl ?_)⟩ <;> decide +kernel

/-- Operands that meet the hypotheses of every clause of MembersAreMetAndAttested. -/
theorem wit_MembersAreMetAndAttested (H : Obligations.MembersAreMetAndAttested) :
    Goes (.rHelloA wVia wHelloA) (wGrp 1 none 1)
    ∧ Goes (.rHelloB wVia wHelloB) (wMember (fun x => { x with helloMine := some [9], helloPeer := some wHelloA, ctMine := some [8] }) (wGrp 1 none 1))
    ∧ Goes (.attestReq wVia []) (wGrp 1 none 1)
    ∧ Goes (.attestResp wVia wAttest) (wMember (fun x => { x with asked := some (List.replicate 32 0, 5) }) (wGrp 1 none 1))
    ∧ Goes (.attestInterval 1) (wGrp 1 none 1)
    ∧ Goes (.attestTimeout 1) (wMember (fun x => { x with asked := some ([], 5) }) (wGrp 1 none 1)) := by
  refine ⟨Goes.ex ((H.1 (wGrp 1 none 1) wVia wMem rfl).1 wHelloA (wHeard wMem) ?_ ?_ ?_),
    Goes.ex ((H.1 (wMember (fun x => { x with helloMine := some [9], helloPeer := some wHelloA, ctMine := some [8] }) (wGrp 1 none 1)) wVia { wMem with helloMine := some [9], helloPeer := some wHelloA, ctMine := some [8] } rfl).2 wHelloB [9] wHelloA [8] rfl rfl rfl ?_ ?_),
    Goes.ex (H.2.1 (wGrp 1 none 1) wVia (wHeard wMem) [] 0 (heard_of rfl ?_) ?_),
    Goes.ex (H.2.2.1 (wMember (fun x => { x with asked := some (List.replicate 32 0, 5) }) (wGrp 1 none 1)) wVia (wHeard { wMem with asked := some (List.replicate 32 0, 5) }) wAttest (List.replicate 32 0) 5 (heard_of rfl ?_) rfl),
    Goes.ex (H.2.2.2.1 (wGrp 1 none 1) 1 wMem rfl ?_ ?_),
    Goes.ex (H.2.2.2.2 (wMember (fun x => { x with asked := some ([], 5) }) (wGrp 1 none 1)) 1 5 { wMem with asked := some ([], 5) } [] rfl rfl ?_)⟩ <;> decide +kernel

/-- Operands that meet the hypotheses of every clause of TheGroupIsControlled. -/
theorem wit_TheGroupIsControlled (H : Obligations.TheGroupIsControlled) :
    Goes (.role wVia 9) (wGrp 1 none 1)
    ∧ Goes (.role wVia 9) (wGrp 0 (some 1) 2)
    ∧ Goes (.role wVia 3) (wGrp 1 none 1)
    ∧ Goes (.roleSend) (wGrp 0 (some 1) 2)
    ∧ Goes (.takeover) (wGrp 1 (some 0) 3)
    ∧ Goes (.charterLoad 0 (wI oCharter)) (wGop oCharter (wGrp 1 none 1))
    ∧ Goes (.groupJoin 0 wIn) (wGop (oGroup 1 0) (wGrp 1 none 1))
    ∧ Goes (.groupJoin 0 wIn) (wGop (oGroup 1 0) (wUnjoined (wGrp 1 none 1)))
    ∧ Goes (.groupJoin 0 wIn) (wGop (oGroup 1 0) (wUnjoined (wGrp 0 none 2)))
    ∧ Goes (.groupLeave 0 wIn) (wGop (oGroup 2 0) (wLive (wGrp 1 none 1)))
    ∧ Goes (.groupLeave 0 wIn) (wGop (oGroup 2 0) (wGrp 0 none 2))
    ∧ Goes (.takePrimary 0 wIn) (wGop (oGroup 3 0) (wGrp 1 (some 0) 3))
    ∧ Goes (.takePrimary 0 wIn) (wGop (oGroup 3 0) (wGrp 1 none 1))
    ∧ Goes (.endLease 0 wIn) (wGop (oGroup 4 4) (wLmsKey { wGroupKey with leases := [wLease none] } (wGrp 1 none 1)))
    ∧ Goes (.endLease 0 wIn) (wGop (oGroup 4 4) (wGrp 1 none 1))
    ∧ Goes (.joinTimeout) (wWaiting (.joining 5) (oWaits 0x0F12) (wGrp 1 none 1)) := by
  refine ⟨Goes.ex (H.1.1 (wGrp 1 none 1) wVia (wHeard wMem) 9 (wCharter 1 none) (heard_of rfl ?_) rfl),
    Goes.ex (H.1.1 (wGrp 0 (some 1) 2) wVia (wHeard wMem) 9 (wCharter 0 (some 1)) (heard_of rfl ?_) rfl),
    Goes.ex (H.1.1 (wGrp 1 none 1) wVia (wHeard wMem) 3 (wCharter 1 none) (heard_of rfl ?_) rfl),
    Goes.ex (H.1.2.1 (wGrp 0 (some 1) 2) (wCharter 0 (some 1)) 1 rfl rfl ?_ ?_),
    Goes.ex (H.1.2.2 (wGrp 1 (some 0) 3) 0 ?_ ?_),
    Goes.ex ((H.2.1 (wGop oCharter (wGrp 1 none 1)) 0 (wI oCharter) oCharter wRing noWaits).1 (managed_of ?_ ?_ ?_)),
    Goes.ex ((H.2.1 (wGop (oGroup 1 0) (wGrp 1 none 1)) 0 wIn (oGroup 1 0) wRing noWaits).2.1 (managed_of ?_ ?_ ?_)),
    Goes.ex ((H.2.1 (wGop (oGroup 1 0) (wUnjoined (wGrp 1 none 1))) 0 wIn (oGroup 1 0) wRing noWaits).2.1 (managed_of ?_ ?_ ?_)),
    Goes.ex ((H.2.1 (wGop (oGroup 1 0) (wUnjoined (wGrp 0 none 2))) 0 wIn (oGroup 1 0) wRing noWaits).2.1 (managed_of ?_ ?_ ?_)),
    Goes.ex ((H.2.1 (wGop (oGroup 2 0) (wLive (wGrp 1 none 1))) 0 wIn (oGroup 2 0) wRing noWaits).2.2.1 (managed_of ?_ ?_ ?_)),
    Goes.ex ((H.2.1 (wGop (oGroup 2 0) (wGrp 0 none 2)) 0 wIn (oGroup 2 0) wRing noWaits).2.2.1 (managed_of ?_ ?_ ?_)),
    Goes.ex ((H.2.1 (wGop (oGroup 3 0) (wGrp 1 (some 0) 3)) 0 wIn (oGroup 3 0) wRing noWaits).2.2.2.1 (managed_of ?_ ?_ ?_) 0 ?_),
    Goes.ex ((H.2.1 (wGop (oGroup 3 0) (wGrp 1 none 1)) 0 wIn (oGroup 3 0) wRing noWaits).2.2.2.1 (managed_of ?_ ?_ ?_) 0 ?_),
    Goes.ex (((H.2.1 (wGop (oGroup 4 4) (wLmsKey { wGroupKey with leases := [wLease none] } (wGrp 1 none 1))) 0 wIn (oGroup 4 4) wRing noWaits).2.2.2.2 (managed_of ?_ ?_ ?_)).1 _ (wLease none) rfl rfl ?_),
    Goes.ex (((H.2.1 (wGop (oGroup 4 4) (wGrp 1 none 1)) 0 wIn (oGroup 4 4) wRing noWaits).2.2.2.2 (managed_of ?_ ?_ ?_)).2 ?_),
    Goes.ex (H.2.2 (wWaiting (.joining 5) (oWaits 0x0F12) (wGrp 1 none 1)) (oWaits 0x0F12) wRing 5 rfl ?_ ?_ (alone_of ?_))⟩ <;> decide +kernel

/-- Operands that meet the hypotheses of every clause of GroupKeysAreReplicated. -/
theorem wit_GroupKeysAreReplicated (H : Obligations.GroupKeysAreReplicated) :
    Goes (.numberReq wVia 6) (wGrp 0 none 2)
    ∧ Goes (.numberAssign wVia 0 15400) (wCreates (wCreating none) (wGrp 1 none 1))
    ∧ Goes (.keyReplicate wVia (wPart 0 2)) (wGrp 1 none 1)
    ∧ Goes (.keyReplicate wVia (wPart 0 1)) (wGrp 1 none 1)
    ∧ Goes (.keyCommitAck wVia 15400) (wCreates wWaits1 (wGrp 1 none 1))
    ∧ Goes (.keyRevoke wVia 15400 true) (wLive (wGrp 1 none 1))
    ∧ Goes (.keyRevoke wVia 15400 false) (wLive (wGrp 1 none 1))
    ∧ Goes (.numberUnconfirmed 15400) (wHeld)
    ∧ Goes (.keyReplicateTimeout 15400) (wGrp 1 none 1)
    ∧ Goes (.replicationTimeout 0) (wCreates (wCreating (some 15400)) (wGrp 1 none 1)) := by
  refine ⟨Goes.ex ((H.1 (wGrp 0 none 2) wVia (wHeard wMem) (heard_of rfl ?_)).1 6 15360 ?_ ?_),
    Goes.ex ((H.1 (wCreates (wCreating none) (wGrp 1 none 1)) wVia (wHeard wMem) (heard_of rfl ?_)).2.1 15400 (wCreating none) rfl ?_ ?_ rfl rfl rfl),
    Goes.ex ((H.1 (wGrp 1 none 1) wVia (wHeard wMem) (heard_of rfl ?_)).2.2.1 (wPart 0 2) ?_ ?_ rfl),
    Goes.ex ((H.1 (wGrp 1 none 1) wVia (wHeard wMem) (heard_of rfl ?_)).2.2.2.1 (wPart 0 1) rfl rfl rfl ?_ ?_ rfl ?_ ?_),
    Goes.ex ((H.1 (wCreates wWaits1 (wGrp 1 none 1)) wVia (wHeard wMem) (heard_of rfl ?_)).2.2.2.2.1 15400 wWaits1 (wRun wDesc) rfl rfl rfl ?_ ?_ rfl),
    Goes.ex ((H.1 (wLive (wGrp 1 none 1)) wVia (wHeard wMem) (heard_of rfl ?_)).2.2.2.2.2 15400 true ?_ ?_ rfl),
    Goes.ex ((H.1 (wLive (wGrp 1 none 1)) wVia (wHeard wMem) (heard_of rfl ?_)).2.2.2.2.2 15400 false ?_ ?_ rfl),
    Goes.ex (H.2.1 wHeld 15400 { sat := 1, due := 5 } rfl ?_),
    Goes.eq (H.2.2.1 (wGrp 1 none 1) 15400),
    Goes.ex (H.2.2.2 (wCreates (wCreating (some 15400)) (wGrp 1 none 1)) 15400 (wCreating (some 15400)) (wRun wDesc) rfl rfl rfl ?_ rfl)⟩ <;> decide +kernel

/-- Operands that meet the hypotheses of every clause of LeasesAreKept. -/
theorem wit_LeasesAreKept (H : Obligations.LeasesAreKept) :
    Goes (.leaseRequest wVia (wLm 2 0 1)) (wGrp 1 none 1)
    ∧ Goes (.leaseGrant wVia (wLm 2 0 1)) (wGrp 1 none 1)
    ∧ Goes (.mirror wVia (wLm 2 0 1)) (wGrp 1 none 1)
    ∧ Goes (.mirrorAck wVia (wLm 2 0 1)) (wGrp 1 none 1)
    ∧ Goes (.leaseRequest wVia (wLm 3 0 1)) (wLmsKey wGroupKey (wGrp 0 none 2))
    ∧ Goes (.leaseRequest wVia (wLm 3 0 1)) (wLmsKey wGroupKey (wGrp 1 none 1))
    ∧ Goes (.leaseGrant wVia (wLm 3 7 1)) (wLmsKey wGroupKey (wGrp 1 none 1))
    ∧ Goes (.mirror wVia (wLm 3 7 1)) (wLmsKey wGroupKey (wGrp 1 (some 0) 3))
    ∧ Goes (.mirrorAck wVia (wLm 3 0 1)) (wLmsKey wGroupKey (wSole (wGrp 0 (some 1) 2)))
    ∧ Goes (.mirrorAck wVia { wLm 3 0 1 with stop := 0 }) (wLmsKey wGroupKey (wSole (wGrp 0 (some 1) 2)))
    ∧ Goes (.mirrorAck wVia (wLm 3 4 1)) (wLmsKey { wGroupKey with grants := [wGrantNew] } (wGrp 0 (some 1) 2))
    ∧ Goes (.leaseAck wVia (wLm 3 4 1)) (wLmsKey { wGroupKey with grants := [wGrant] } (wGrp 0 (some 1) 2))
    ∧ Goes (.leaseReturn wVia (wLm 3 4 1)) (wLmsKey { wGroupKey with grants := [wGrant] } (wGrp 0 (some 1) 2))
    ∧ Goes (.leaseQuery wVia (wLm 3 4 1)) (wLmsKey { wGroupKey with grants := [wGrant] } (wGrp 0 (some 1) 2))
    ∧ Goes (.leaseRefuse wVia (wLm 3 4 1)) (wLmsKey { wGroupKey with asking := some (1, 5) } (wGrp 1 none 1))
    ∧ Goes (.leaseState wVia (wLm 3 4 1)) (wLmsKey { wGroupKey with leases := [wLease none] } (wGrp 1 none 1))
    ∧ Goes (.leaseState wVia { wLm 3 4 1 with code := 1 }) (wLmsKey { wGroupKey with leases := [wLease none] } (wGrp 1 none 1)) := by
  refine ⟨Goes.eq (((H (wGrp 1 none 1) wVia (wLm 2 0 1) (wHeard wMem) (heard_of rfl ?_)).1 ?_) (.leaseRequest wVia (wLm 2 0 1)) (List.mem_of_getElem? (i := 0) rfl)),
    Goes.eq (((H (wGrp 1 none 1) wVia (wLm 2 0 1) (wHeard wMem) (heard_of rfl ?_)).1 ?_) (.leaseGrant wVia (wLm 2 0 1)) (List.mem_of_getElem? (i := 1) rfl)),
    Goes.eq (((H (wGrp 1 none 1) wVia (wLm 2 0 1) (wHeard wMem) (heard_of rfl ?_)).1 ?_) (.mirror wVia (wLm 2 0 1)) (List.mem_of_getElem? (i := 2) rfl)),
    Goes.eq (((H (wGrp 1 none 1) wVia (wLm 2 0 1) (wHeard wMem) (heard_of rfl ?_)).1 ?_) (.mirrorAck wVia (wLm 2 0 1)) (List.mem_of_getElem? (i := 3) rfl)),
    Goes.ex (((H (wLmsKey wGroupKey (wGrp 0 none 2)) wVia (wLm 3 0 1) (wHeard wMem) (heard_of rfl ?_)).2.1 ?_).1 wGroupKey ?_ ?_ ?_ ?_ ?_ ?_),
    Goes.ex (((H (wLmsKey wGroupKey (wGrp 1 none 1)) wVia (wLm 3 0 1) (wHeard wMem) (heard_of rfl ?_)).2.1 ?_).2.1 ?_),
    Goes.ex2 (((H (wLmsKey wGroupKey (wGrp 1 none 1)) wVia (wLm 3 7 1) (wHeard wMem) (heard_of rfl ?_)).2.1 ?_).2.2.1 (wCharter 1 none) wGroupKey ?_ ?_ (.inl rfl) rfl ?_ ?_),
    Goes.ex (((H (wLmsKey wGroupKey (wGrp 1 (some 0) 3)) wVia (wLm 3 7 1) (wHeard wMem) (heard_of rfl ?_)).2.1 ?_).2.2.2.1 wGroupKey ?_ (fun e h => nomatch (show (none : Option Nat) = some e from h)) ?_ ?_ ?_),
    Goes.ex (((H (wLmsKey wGroupKey (wSole (wGrp 0 (some 1) 2))) wVia (wLm 3 0 1) (wHeard wMem) (heard_of rfl ?_)).2.1 ?_).2.2.2.2.1 wGroupKey ?_ ?_ ?_ ?_),
    Goes.ex (((H (wLmsKey wGroupKey (wSole (wGrp 0 (some 1) 2))) wVia { wLm 3 0 1 with stop := 0 } (wHeard wMem) (heard_of rfl ?_)).2.1 ?_).2.2.2.2.1 wGroupKey ?_ ?_ ?_ ?_),
    Goes.ex2 (((H (wLmsKey { wGroupKey with grants := [wGrantNew] } (wGrp 0 (some 1) 2)) wVia (wLm 3 4 1) (wHeard wMem) (heard_of rfl ?_)).2.1 ?_).2.2.2.2.2 { wGroupKey with grants := [wGrantNew] } wGrantNew ?_ ?_ ?_ ?_ ?_),
    Goes.eq ((((H (wLmsKey { wGroupKey with grants := [wGrant] } (wGrp 0 (some 1) 2)) wVia (wLm 3 4 1) (wHeard wMem) (heard_of rfl ?_)).2.2 { wGroupKey with grants := [wGrant] } ?_).1 ?_).1),
    Goes.eq ((((H (wLmsKey { wGroupKey with grants := [wGrant] } (wGrp 0 (some 1) 2)) wVia (wLm 3 4 1) (wHeard wMem) (heard_of rfl ?_)).2.2 { wGroupKey with grants := [wGrant] } ?_).1 ?_).2.1),
    Goes.ex ((((H (wLmsKey { wGroupKey with grants := [wGrant] } (wGrp 0 (some 1) 2)) wVia (wLm 3 4 1) (wHeard wMem) (heard_of rfl ?_)).2.2 { wGroupKey with grants := [wGrant] } ?_).1 ?_).2.2 0 ?_),
    Goes.ex (((H (wLmsKey { wGroupKey with asking := some (1, 5) } (wGrp 1 none 1)) wVia (wLm 3 4 1) (wHeard wMem) (heard_of rfl ?_)).2.2 { wGroupKey with asking := some (1, 5) } ?_).2.1 5 ?_),
    Goes.ex (((H (wLmsKey { wGroupKey with leases := [wLease none] } (wGrp 1 none 1)) wVia (wLm 3 4 1) (wHeard wMem) (heard_of rfl ?_)).2.2 { wGroupKey with leases := [wLease none] } ?_).2.2 (wLease none) ?_ ?_ rfl rfl rfl),
    Goes.ex (((H (wLmsKey { wGroupKey with leases := [wLease none] } (wGrp 1 none 1)) wVia { wLm 3 4 1 with code := 1 } (wHeard wMem) (heard_of rfl ?_)).2.2 { wGroupKey with leases := [wLease none] } ?_).2.2 (wLease none) ?_ ?_ rfl rfl rfl)⟩ <;> decide +kernel

/-- Operands that meet the hypotheses of every clause of LeaseTimersRun. -/
theorem wit_LeaseTimersRun (H : Obligations.LeaseTimersRun) :
    Goes (.leaseRequestRepeat 15400) (wLmsKey { wGroupKey with asking := some (1, 5) } (wGrp 1 none 1))
    ∧ Goes (.leaseDeadline 15400 4) (wLmsKey { wGroupKey with leases := [wLease (some 5)] } (wGrp 1 none 1))
    ∧ Goes (.standbyAckTimeout 15400 4) (wLmsKey { wGroupKey with grants := [wGrant] } (wGrp 0 (some 1) 2)) := by
  refine ⟨Goes.ex ((H (wLmsKey { wGroupKey with asking := some (1, 5) } (wGrp 1 none 1)) 15400 { wGroupKey with asking := some (1, 5) } rfl).1 1 5 rfl ?_),
    Goes.ex ((H (wLmsKey { wGroupKey with leases := [wLease (some 5)] } (wGrp 1 none 1)) 15400 { wGroupKey with leases := [wLease (some 5)] } rfl).2.1 (wLease (some 5)) 5 ?_ rfl rfl ?_),
    Goes.ex ((H (wLmsKey { wGroupKey with grants := [wGrant] } (wGrp 0 (some 1) 2)) 15400 { wGroupKey with grants := [wGrant] } rfl).2.2 wGrant 5 rfl rfl ?_)⟩ <;> decide +kernel

/-! #### The block's own work -/

/-- A freed buffer of 8 bytes, some of them written. -/
def wFreed : Buffer := { owner := 0, size := 8, banks := [3], live := false }
def wBufs : State := { wSt with bufs := [(5, wFreed)], bufMem := [(bufKey 5 0, 7), (bufKey 5 5, 9), (bufKey 6 0, 1)] }

/-- A pin whose first tree is there, with the background jobs enabled. -/
def wHole : Pin := { slot := 5, blocks := 3, trees := 4, present := [0], live := true, closing := false, users := [] }
def wJobs : State := setReg 0x050200 0x2000 { wSt with hf := { wSt.hf with pins := [(2, wHole)] } }

/-- A persisted slot found damaged, with its blob. -/
def wBlob : Blob := { slot := { wSlot 0x0501 (List.replicate 56 1) [] with persist := true }, granules := 2, sound := true }
def wDamaged : State :=
  { wKv with
    kv := { wKv.kv with
      slots := put 4 { wSlot 0x0501 [] [] with persist := true, state := .damaged } wKv.kv.slots, blobs := [(4, wBlob)] } }

/-- The custody of slot 4. -/
def wStf4 (k : StfKey) (s : State) : State := { s with stf := { s.stf with keys := [(4, k)] } }

/-- A journal nearly full. -/
def wFull : State :=
  let r : JRec := { type := 2, slot := 4, seq := 1, keyId := [], a := 0, b := 0, c := 0 }
  { wStf4 wStf wSt with stf := { (wStf4 wStf wSt).stf with half0 := List.replicate 12200 r } }

/-- The half that is not in use still holds records. -/
def wOldHalf : State := { wFull with stf := { wFull.stf with active := 1 } }

/-- Operands that meet the hypotheses of every clause of TheBlockTendsItself. -/
theorem wit_TheBlockTendsItself (H : Obligations.TheBlockTendsItself) :
    Goes (.bufWipe 5) (wBufs)
    ∧ Goes (.fillJob 2) (wJobs)
    ∧ Goes (.workingSetFill 4) (wStf4 { wStf with setReady := false } wSt)
    ∧ Goes (.drbgReseed 2) (wSt)
    ∧ Goes (.slotReload 4) (wDamaged) := by
  refine ⟨Goes.ex (H.1 wBufs 5 wFreed ?_ rfl rfl (fun o h => nomatch (show o ∈ ([] : List Op) from h)) ?_),
    Goes.eq (H.2.1 wJobs 2 1 wHole rfl rfl rfl ?_ ?_ ?_ ?_),
    Goes.ex2 (H.2.2.1 (wStf4 { wStf with setReady := false } wSt) 4 { wStf with setReady := false } rfl rfl),
    Goes.eq (H.2.2.2.1 wSt 2 Drbg.blank rfl ?_ ?_),
    Goes.ex (H.2.2.2.2 wDamaged 4 { wSlot 0x0501 [] [] with persist := true, state := .damaged } wBlob rfl rfl rfl rfl)⟩ <;> decide +kernel

/-- Operands that meet the hypotheses of every clause of IndicesAreReserved. -/
theorem wit_IndicesAreReserved (H : Obligations.IndicesAreReserved) :
    Goes (.reservationCommit 4 true) (wStf4 { wStf with reserving := some 1024 } wKv)
    ∧ Goes (.reservationCommit 4 false) (wStf4 { wStf with reserving := some 1024 } wKv)
    ∧ Goes (.journalCompaction) (wFull)
    ∧ Goes (.journalCompaction) (wOldHalf)
    ∧ Goes (.leaseWaitExpiry 0) (wStf4 { wStf with group := true } (wAt oStfSign))
    ∧ Goes (.leaseWaitExpiry 0) (wStf4 { wStf with group := true, lapsed := true } (wAt oStfSign)) := by
  refine ⟨Goes.ex ((H.1 (wStf4 { wStf with reserving := some 1024 } wKv) 4 1024 { wStf with reserving := some 1024 } rfl rfl).1 ?_),
    Goes.ex ((H.1 (wStf4 { wStf with reserving := some 1024 } wKv) 4 1024 { wStf with reserving := some 1024 } rfl rfl).2 { wSlot 0x0501 (List.replicate 56 1) [] with persist := true } rfl),
    Goes.ex ((H.2.1 wFull ?_).1 ?_ ?_),
    Goes.eq ((H.2.1 wOldHalf ?_).2 ?_),
    Goes.ex (H.2.2 (wStf4 { wStf with group := true } (wAt oStfSign)) 0 oStfSign wRing { wStf with group := true } rfl (alone_of ?_) ?_ ?_ ?_ rfl ?_ ?_),
    Goes.ex (H.2.2 (wStf4 { wStf with group := true, lapsed := true } (wAt oStfSign)) 0 oStfSign wRing { wStf with group := true, lapsed := true } rfl (alone_of ?_) ?_ ?_ ?_ rfl ?_ ?_)⟩ <;> decide +kernel

/-- Operands that meet the hypotheses of every clause of OutsidePortsAnswer. -/
theorem wit_OutsidePortsAnswer (H : Obligations.OutsidePortsAnswer) :
    Goes (.spdmRequest true false 1) (wSt)
    ∧ Goes (.tapAccess 1 []) (wSt)
    ∧ Goes (.tapAccess 0 []) (wSt)
    ∧ Goes (.tapAccess 7 [5, 1]) (wSt)
    ∧ Goes (.tapAccess 0x10 [3, 0, 0, 0]) (wLc .vendorTest wSt) := by
  refine ⟨Goes.ex2 (H.1 wSt true false 1 ?_ ?_ ?_ ?_),
    Goes.eq ((H.2 wSt []).1),
    Goes.ex2 ((H.2 wSt []).2.1),
    Goes.eq ((H.2 wSt [5, 1]).2.2.1 7 ?_ ?_),
    Goes.ex ((H.2 (wLc .vendorTest wSt) [3, 0, 0, 0]).2.2.2 ?_ rfl ?_)⟩ <;> decide +kernel

/-! #### States and commands that meet the hypotheses of the statements about every command -/

/-- The next state, where there is one. -/
def nextOf (x : Host.Outcome State Fault Refusal) : State := match x with | .next t => t | _ => State.reset

theorem wit_ResetIsCanonical : State.reset.pending = [] := rfl

theorem wit_StepKeepsTheMemoriesCanonical :
    ∃ t, Memory.wf State.reset.hostMem ∧ Memory.wf State.reset.bufMem ∧ step State.reset = .next t := ⟨_, by decide, by decide, rfl⟩

theorem wit_CommandsLeaveTheQueue : ∃ t, exec .beatLoRead wSt = .next t := ⟨_, rfl⟩

theorem wit_BeatAndOtpAreKept :
    (∃ t, exec .coldReset wSt = .next t ∧ t.beat ≠ wSt.beat)
    ∧ ∃ t, exec (.lcTransition 0 { wI oLc with inp := wToken 1 }) (wLcSt .blank) = .next t
      ∧ burnt t.cus.otp ≠ burnt (wLcSt .blank).cus.otp :=
  ⟨⟨_, rfl, by decide +kernel⟩, _, rfl, fun h => absurd (congrArg Prod.fst h) (by decide +kernel)⟩

theorem wit_ReleaseOnlyAtMultiples :
    ∃ t, op? (wOps [wFin]) 0 = some wFin ∧ exec (.release 0) (wOps [wFin]) = .next t ∧ op? t 0 = none :=
  ⟨_, by decide +kernel, rfl, by decide +kernel⟩

theorem wit_LockBitsClearOnlyOnColdReset :
    ∃ g, regAt 0x020104 = some g ∧ g.lock = some 0x020104 ∧ bit (regWord (wLocked 0x020104) 0x020104).toNat 31 = true :=
  ⟨wReg 0x020104, by decide +kernel, by decide +kernel, by decide +kernel⟩

/-! #### Ill-formed commands, one for each check -/

theorem test_wf_refuses_1 : (
    [.kemKeygen 0 { wIn with selfCheck := 3 },
     .kemKeygen 0 { wIn with fails := [0x180] },
     .boot { wBoot with otpMargin := [8192] },
     .boot { wBoot with otpBad := [8192] },
     .boot { wBoot with checkers := [281] },
     .boot { wBoot with blobsBad := [16384] },
     .boot { wBoot with parts := [[1]] },
     .boot { wBoot with src0 := 4 * wNoise },
     .boot { wBoot with src1 := 4 * wNoise },
     .boot { wBoot with kat := [(1024, 0)] },
     .frameReceive 4 (wFrame 0 0 true true []),
     .frameReceive 0 { wFrame 0 0 true true [] with vc := 4 },
     .frameReceive 0 (wFrame 65536 0 true true []),
     .frameReceive 0 (wFrame 0 (2 ^ 64) true true []),
     .frameReceive 0 { wFrame 0 0 true true [] with ack := 2 ^ 64 },
     .rHelloA { wVia with port := 4 } [],
     .rHelloB { wVia with src := 1024 } [],
     .charter 4 (wFrag 0 1 2 []),
     .charter 0 (wFrag 256 1 2 []),
     .charter 0 (wFrag 0 256 2 []),
     .charter 0 (wFrag 0 1 (2 ^ 32) []),
     .keyReplicate wVia { wPart 0 1 with slot := 65536 },
     .keyReplicate wVia (wPart 256 1),
     .keyReplicate wVia (wPart 0 256),
     .keyReplicate wVia { wPart 0 1 with total := 2 ^ 32 },
     .leaseRequest wVia { wLm 3 0 1 with keyId := [] },
     .leaseGrant wVia { wLm 3 0 1 with slot := 65536 },
     .leaseAck wVia { wLm 3 0 1 with sat := 65536 }] : List Instr).all (fun c => !c.wf) = true := by decide +kernel

theorem test_wf_refuses_2 : (
    [.leaseRefuse wVia (wLm 3 (2 ^ 32) 1),
     .mirror wVia { wLm 3 0 1 with start := 2 ^ 64 },
     .mirrorAck wVia { wLm 3 0 1 with stop := 2 ^ 64 },
     .leaseQuery wVia { wLm 3 0 1 with deadline := 2 ^ 64 },
     .leaseState wVia (wLm (2 ^ 32) 0 1),
     .leaseReturn wVia (wLm 3 0 (2 ^ 32)),
     .leaseReturn wVia { wLm 3 0 1 with code := 2 ^ 32 },
     .attestResp wVia { wAttest with nonce := [] },
     .attestResp wVia { wAttest with state := 256 },
     .attestResp wVia { wAttest with setId := 2 ^ 32 },
     .attestResp wVia { wAttest with svn := 2 ^ 16 },
     .sqDoorbellScan 1024 0 none,
     .sqDoorbellTail 0 64 0,
     .sqInvalidate 0 0 (2 ^ 32),
     .doorbellStray 0 (2 ^ 24) 4,
     .doorbellStray 0 0 3,
     .ringZeroEnable (2 ^ 32),
     .eventPendingClear 384,
     .registerWrite 6 0 4 0,
     .registerWrite 0 (2 ^ 24) 4 0,
     .registerWrite 0 0 3 0,
     .registerWrite 0 0 4 (2 ^ 64),
     .warmReset 8,
     .vddWarn 6 0,
     .vddWarn 0 8192,
     .throttle 8 0,
     .throttle 0 (-161),
     .throttle 0 601] : List Instr).all (fun c => !c.wf) = true := by decide +kernel

theorem test_wf_refuses_3 : (
    [.tamperAsserted 4 true,
     .faultMessage (2 ^ 64),
     .autoRecovery 1024 true,
     .fetch 4096 [],
     .fetch 0 [[]],
     .scatterWalk 0 3 [] false false,
     .scatterWalk 0 0 [[]] false false,
     .lnOwnerWipe 32,
     .bankWipe 128,
     .msixMessage 4480,
     .bufWipe 16384,
     .fillJob 64,
     .workingSetFill 16384,
     .leaseDeadline 0 (2 ^ 32),
     .drbgReseed 7,
     .scrubRead (2 ^ 32) 0 none none true,
     .scrubRead 0 4 none none true,
     .portTraining 0 16,
     .laneFail 0 4,
     .creditStarved 0 3,
     .memberLost 1024,
     .role wVia (2 ^ 32),
     .numberReq wVia (2 ^ 32),
     .numberAssign wVia 0 15359,
     .numberAssign wVia 0 16384,
     .keyCommitAck wVia 16384,
     .tapAccess 256 [],
     .msixUnmask 2049] : List Instr).all (fun c => !c.wf) = true := by decide +kernel

theorem test_wf_refuses_4 : (
    [.atsInvalidation (2 ^ 20)] : List Instr).all (fun c => !c.wf) = true := by decide +kernel

/-! #### Single values worked out in the spec's examples -/

/-- The slot of a row on operands of these lengths. -/
def wSlotOf (sp : OpSpec) (o : Op) : Nat := sp.slot (wAt o) o (wI o)

-- 04 worked example; 05 worked examples; 08, 09, 10, 06, 11 and 20 worked examples.
theorem test_slot_mldsaSign : wSlotOf mldsaSignSpec (wE 0x0112 0x0202 0 2 0 10000 16 3309) = 294848 := by decide +kernel
theorem test_slot_mldsaVerify : wSlotOf mldsaVerifySpec (wE 0x0113 0x0202 0 0 0 3952 3314 0) = 9399 := by decide +kernel
theorem test_slot_kemDecaps : wSlotOf kemDecapsSpec (wE 0x0103 0x0102 0 1 0 1088 16 0) = 6250 := by decide +kernel
theorem test_slot_cmKeygen : wSlotOf cmKeygenSpec (wE 0x0401 0x0707 0 0 0 0 16 1047360) = 13892000 := by decide +kernel
theorem test_slot_ecdsaSign : wSlotOf ecdsaSignSpec (wE 0x0502 0x0901 0x0301 7 0 6000 0 64) = 6649 := by decide +kernel
theorem test_slot_ecdsaVerify : wSlotOf ecdsaVerifySpec (wE 0x0503 0x0901 0x0300 7 0 1024 64 0) = 11637 := by decide +kernel
theorem test_slot_rsaVerify1024 :
    let o := wE 0x0513 0x0C01 0x0100 0 0 3136 128 0
    rsaVerifySpec.slot (wAt o) o (wIbig o 1024 0) = 1387 := by decide +kernel
theorem test_slot_rsaVerify1032 :
    let o := wE 0x0513 0x0C01 0x0100 0 0 3137 129 0
    rsaVerifySpec.slot (wAt o) o (wIbig o 1032 0) = 2137 := by decide +kernel
theorem test_slot_streamFeed : wSlotOf streamFeedSpec (wE 0x0602 0x0D01 0x9000 37 0 4194304 0 0) = 327930 := by decide +kernel
theorem test_slot_streamTail : wSlotOf streamTailSpec (wE 0x0603 0x0D01 0x9000 37 0 1611429 0 0) = 164090 := by decide +kernel
theorem test_slot_treeReduced : wSlotOf treeReducedSpec (wE 0x0222 0x1001 0 0 0 160 0 568) = 2558 := by decide +kernel
theorem test_slot_treeBuild : wSlotOf treeBuildSpec (wE 0x0221 0x1001 1 0 0 33554432 0 0) = 240068 := by decide +kernel
theorem test_slot_keyDerive : wSlotOf deriveSpec (wE 0x0704 0x0E02 0 12 0 16 8 0) = 1250 := by decide +kernel
theorem test_slot_stfKeygen : wSlotOf stfKeygenSpec (wE 0x0301 0x0501 0x0012 0 0 0 16 0) = 170899 := by decide +kernel
def wRenew (o : Op) : State := { wAt o with kv := { wKv.kv with slots := [(2, wSlot 0x0203 [1] [2]), (17, wSlot 0x0A03 [1] [2])] } }
theorem test_slot_reattest :
    let o := wE 0x0801 0x0B02 0x8301 2 17 20264 256 5069
    reattestSpec.slot (wRenew o) o { wI o with inp := leBytes 2 2048 ++ List.replicate 20262 0 } = 448132 := by decide +kernel

-- 07 worked example: the working set of H15, W4 is 520 blocks; the HSS signature is 2,672 bytes.
theorem test_stf_sizes : setBlocks 32 1 15 = 520 ∧ hssSigLen 32 1 15 2 = 2672 := by decide

-- 17 worked example: the patterns of IN_SERVICE and RETURNED, and the torn array that matches neither.
theorem test_patterns : lcPattern 4 = 0x9F9FCFCF_E7E7F3F3_F9F9FCFC_7E7E3F3F ∧ lcPattern 5 = 0xBFBFDFDF_EFEFF7F7_FBFBFDFD_FEFE7F7F
    ∧ patternState 0x9F9FCFCF_E7E7F3F3_FBFBFDFD_FEFE7F7F = none := by decide +kernel
theorem test_token : let t := decodeToken ([1, 0, 4, 5, 2, 0, 0, 0] ++ List.replicate 56 0)
    t.format = 1 ∧ t.source = 4 ∧ t.target = 5 ∧ t.role = 2 ∧ roleFor 4 5 = some 2 := by decide +kernel

-- 03 worked example: the descriptor's fields, and the first word of its completion.
theorem test_descriptor :
    let d := decodeDesc ([0x05, 0x05, 0x00, 0x80, 0x11, 0x2A, 0, 0, 0x01, 0x0A, 0, 0, 0x2C, 0x81, 0, 0] ++ leBytes 8 0x2710
      ++ leBytes 8 0x4000001234500000 ++ List.replicate 12 0 ++ leBytes 4 0x40 ++ leBytes 8 0xC000000000000000 ++ List.replicate 72 0)
    d.opcode = 0x0505 ∧ d.phase = true ∧ d.tag = 0x2A11 ∧ d.suite = 0x0A01 ∧ keySlot d.keyA = 300 ∧ d.inLen = 10000
      ∧ refKind d.inRef = .scatter ∧ d.auxLen = 64 ∧ refKind d.auxRef = .inline := by decide +kernel
theorem test_completion_entry :
    let c := { mkCompletion wSt { wOp wDesc with sqIndex := 77, gen := 3 } .ok .valid [] [] with tag := 0x2A11, gen := 3 }
    entryBytes 37 false c = leBytes 4 0x01030000 ++ leBytes 4 0x2A11 ++ leBytes 4 0 ++ leBytes 4 0x004D0001 ++ leBytes 4 0x25 ++ List.replicate 12 0 := by
  decide +kernel

-- 13 worked example: used entries, and an index word of each orbit.
theorem test_index_words : used 16 3 20 = 15 ∧ indexWord 16 20 = 0x00010004 ∧ indexWord 16 3 = 3 ∧ linOf 16 8 = some 8 := by decide

-- 16 worked example: the message words of an LN unit's SELF_CHECK and of a supply warning.
theorem test_fault_words : decodeFault (0x23809005 * 2 ^ 32) = { source := 0x08E, kind := 2, severity := 2, sequence := 5, address := 0 }
    ∧ decodeFault (0x50004812 * 2 ^ 32 + 0x293) = { source := 0x140, kind := 1, severity := 1, sequence := 0x12, address := 659 } := by decide +kernel

-- 12 worked example: a template's bytes.
theorem test_template : let t := decodeTemplate [0x03, 0x0E, 0x10, 0, 0, 0x06, 0, 0, 0, 0, 0, 0, 0, 0, 0, 0]
    t.suite = 0x0E03 ∧ t.dest = 0x10 ∧ t.usage = 0x0600 := by decide +kernel

-- 18 worked example: the capsule's two records.
theorem test_capsule :
    decodeCapsule ([1, 0, 2, 0, 0x40, 0, 0, 0, 0x31, 0, 0, 0] ++ List.replicate 20 0
      ++ [1, 0, 0, 0, 0x00, 0x07, 0x0B, 0x00, 0xFF, 0x01, 0x00, 0x80, 0x40, 0x01, 0x00, 0x80]
      ++ [2, 0, 0, 0, 0, 0, 0, 0, 0, 0, 0, 0, 0xD8, 0xFF, 0, 0]) 64
    = some (0x31, [.reg 0x0B0700 0x800001FF 0x80000140, .cal 0 (-40)]) := by decide +kernel

-- 19 worked example: a lease credit of 7 − 2, and the DETAIL of peer 3 on four lanes.
theorem test_credit :
    let p := { wSecure with ackSeq := some 5000, sent := [(5001, 2), (5002, 0), (5003, 2)], channels := [⟨8, none, false⟩, ⟨16, none, false⟩, ⟨7, none, false⟩] }
    credit p 2 = 5 := by decide +kernel

-- 20 worked example: an ABORTED release 117 quanta after its dispatch.
theorem test_abort_release :
    let o := { wFin with dispatch := 900000, slot := 13892000, cancel := true, checkpoint := true }
    (op? (nextOf (exec (.abortRelease 0) { wOps [o] with beat := 1631250 })) 0) = none
      ∧ (op? (nextOf (exec (.abortRelease 0) { wOps [o] with beat := 1631249 })) 0).isSome = true := by decide +kernel
end

section
/-! SUPPORT. The functions of the block that leave the register file alone, one equation for each, in the order of the model's files: no
ring, engine, link or fault writes a register of the host. -/
namespace Sys2Proof.Machine

/-- A fold of steps that leave the register file alone leaves it alone. -/
@[simp] theorem foldl_regs {α : Type} (f : State → α → State) (h : ∀ t x, (f t x).regs = t.regs) :
    ∀ (l : List α) (s : State), (l.foldl f s).regs = s.regs
  | [], _ => rfl
  | x :: l, s => by rw [List.foldl_cons, foldl_regs f h l, h]

/-! Ops -/

@[simp] theorem writeHost_regs (space iova : Nat) (bs : Bytes) (s : State) : (writeHost space iova bs s).regs = s.regs := by
  simp [writeHost]

@[simp] theorem writeBuf_regs (handle off : Nat) (bs : Bytes) (s : State) : (writeBuf handle off bs s).regs = s.regs := by
  simp only [writeBuf]; split <;> simp

@[simp] theorem writePiece_regs (space : Nat) (p : OutPiece) (s : State) : (writePiece space p s).regs = s.regs := by
  simp only [writePiece]; split <;> simp

@[simp] theorem unwriteBuf_regs (handle off len : Nat) (s : State) : (unwriteBuf handle off len s).regs = s.regs := by simp [unwriteBuf]

@[simp] theorem draw_regs (s : State) : (draw s).2.regs = s.regs := by simp [draw]

@[simp] theorem freeBytes_regs (n : Nat) (s : State) : (freeBytes n s).2.regs = s.regs := by simp [freeBytes]

@[simp] theorem wakePme_regs (s : State) : (wakePme s).regs = s.regs := by
  simp only [wakePme]; split <;> simp

@[simp] theorem raise_regs (k detail : Nat) (s : State) : (raise_ k detail s).regs = s.regs := by
  simp only [raise_]; split <;> simp

@[simp] theorem settleSwitch_regs (s : State) : (settleSwitch s).regs = s.regs := by
  simp only [settleSwitch]; split <;> simp

@[simp] theorem switchUnits_regs (us : List UnitRef) (s : State) : (switchUnits us s).regs = s.regs := by
  simp only [switchUnits]; split <;> simp

@[simp] theorem returnBanks_regs (bs : List Nat) (s : State) : (returnBanks bs s).regs = s.regs := by simp [returnBanks]

/-! KvOps -/

@[simp] theorem sweepWiping_regs (s : State) : (sweepWiping s).regs = s.regs := by simp [sweepWiping]

@[simp] theorem damageSlot_regs (n : Nat) (s : State) : (damageSlot n s).regs = s.regs := by
  simp only [damageSlot]; (repeat' split) <;> simp

@[simp] theorem clearWork_regs (us : List UnitRef) (s : State) : (clearWork us s).regs = s.regs := by simp [clearWork]

@[simp] theorem dirty_regs (us : List Nat) (s : State) : (dirty us s).regs = s.regs := by simp [dirty]

@[simp] theorem dirtyOwned_regs (inst : Nat) (s : State) : (dirtyOwned inst s).regs = s.regs := by simp [dirtyOwned]

@[simp] theorem countDraw_regs (k : Nat) (s : State) : (countDraw k s).regs = s.regs := by simp [countDraw]

@[simp] theorem drawBytes_regs (n : Nat) (s : State) : (drawBytes n s).2.regs = s.regs := by simp [drawBytes]

/-! Deliver -/

@[simp] theorem directWrite_regs (o : Op) (s : State) : (directWrite o s).regs = s.regs := by
  simp only [directWrite]; split <;> simp

@[simp] theorem takeBack_regs (space : Nat) (u : Undo) (s : State) : (takeBack space u s).regs = s.regs := by simp [takeBack]

@[simp] theorem takeBackAt_regs (inst : Nat) (u : Option Undo) (s : State) : (takeBackAt inst u s).regs = s.regs := by
  simp only [takeBackAt]; (repeat' split) <;> simp

@[simp] theorem pushOut_regs (ring : Nat) (c : Completion) (s : State) : (pushOut ring c s).regs = s.regs := by simp [pushOut]

@[simp] theorem stopMember_regs (s : State) (o : Op) : (stopMember s o).regs = s.regs := by simp [stopMember]

@[simp] theorem stopMembers_regs (ring : Nat) (s : State) : (stopMembers ring s).regs = s.regs := by
  simp only [stopMembers]; split <;> simp

@[simp] theorem settle_regs (o : Op) (c : Completion) (s : State) : (settle o c s).regs = s.regs := by
  simp only [settle]; (repeat' split) <;> simp

@[simp] theorem unload_regs (o : Op) (s : State) : (unload o s).regs = s.regs := by
  simp only [unload]
  rcases undoOf o o.desc.outCap with _ | u <;> (repeat' split) <;> simp

@[simp] theorem endEarly_regs (o : Op) (st : Status) (opdata : Bytes) (s : State) : (endEarly o st opdata s).regs = s.regs := by
  simp [endEarly]

@[simp] theorem writePieces_regs (inst : Nat) (ps : List OutPiece) (s : State) : (writePieces inst ps s).regs = s.regs := by
  simp [writePieces]

@[simp] theorem failPieces_regs (st : Status) (inst : Nat) (ps : List OutPiece) (s : State) : (failPieces st inst ps s).regs = s.regs := by
  simp only [failPieces]; split <;> simp

@[simp] theorem commitData_regs (outcome : Status) (c : Completion) (s : State) : (commitData outcome c s).2.regs = s.regs := by
  simp only [commitData]; (repeat' split) <;> simp

@[simp] theorem commitNextData_regs (outcome : Status) :
    ∀ (cs : List Completion) (s : State), (commitNextData outcome cs s).2.regs = s.regs
  | [], _ => rfl
  | c :: rest, s => by
    simp only [commitNextData]; split
    · exact commitNextData_regs outcome rest s
    · exact commitData_regs outcome c s

@[simp] theorem writeEntry_regs (n : Nat) (r : Ring) (c : Completion) (rest : List Completion) (s : State) :
    (writeEntry n r c rest s).regs = s.regs := by
  simp [writeEntry]

@[simp] theorem commitFront_regs (n : Nat) (outcome : Status) (s : State) : (commitFront n outcome s).regs = s.regs := by
  have data := fun c => commitData_regs outcome c s
  simp only [commitFront]
  split; · rfl
  split; · rfl
  split; · rfl
  split; · simp
  split
  · rename_i h; exact (congrArg (·.2.regs) h).symm.trans (data _)
  · rename_i h; exact (writeEntry_regs ..).trans ((congrArg (·.2.regs) h).symm.trans (data _))

/-! Gate -/

@[simp] theorem failStream_regs (o : Op) (s : State) : (failStream o s).regs = s.regs := by
  simp only [failStream]; split <;> simp

@[simp] theorem stageMember_regs (o : Op) (r : Run) (s : State) : (stageMember o r s).regs = s.regs := by simp [stageMember]

@[simp] theorem takeWork_regs (o : Op) (created : Option Nat) (s : State) : (takeWork o created s).regs = s.regs := by
  simp only [takeWork]; (repeat' split) <;> simp

@[simp] theorem damageKeys_regs (o : Op) (i : OpInput) (s : State) : (damageKeys o i s).regs = s.regs := by
  simp only [damageKeys]; split <;> simp

@[simp] theorem unAsk_regs (id : Nat) (s : State) : (unAsk id s).regs = s.regs := by
  simp only [unAsk]; split <;> simp

@[simp] theorem completeWait_regs (id : Nat) (st : Status) (opdata : Bytes) (s : State) : (completeWait id st opdata s).regs = s.regs := by
  simp only [completeWait]; split <;> simp

/-! Rings -/

@[simp] theorem stray_regs (inst d : Nat) (s : State) : (stray inst d s).regs = s.regs := by simp [stray]

@[simp] theorem dbIgnored_regs (n : Nat) (event : Bool) (s : State) : (dbIgnored n event s).regs = s.regs := by
  simp only [dbIgnored]; split <;> simp

@[simp] theorem indexReadFailed_regs (n : Nat) (s : State) : (indexReadFailed n s).regs = s.regs := by simp [indexReadFailed]

@[simp] theorem sqDoorbellScan_regs (inst d : Nat) (hint : Option Nat) (s : State) : (sqDoorbellScan inst d hint s).regs = s.regs := by
  simp only [sqDoorbellScan]; (repeat' split) <;> simp

@[simp] theorem sqDoorbellTail_regs (inst d w : Nat) (s : State) : (sqDoorbellTail inst d w s).regs = s.regs := by
  simp only [sqDoorbellTail]; (repeat' split) <;> simp

@[simp] theorem cqDoorbell_regs (inst d : Nat) (head : Option Nat) (s : State) : (cqDoorbell inst d head s).regs = s.regs := by
  simp only [cqDoorbell]; (repeat' split) <;> simp

@[simp] theorem sqInvalidate_regs (inst d w : Nat) (s : State) : (sqInvalidate inst d w s).regs = s.regs := by
  simp only [sqInvalidate]; (repeat' split) <;> simp

@[simp] theorem cqModWrite_regs (inst d w : Nat) (s : State) : (cqModWrite inst d w s).regs = s.regs := by
  simp only [cqModWrite]; (repeat' split) <;> simp

@[simp] theorem doorbellStray_regs (inst off width : Nat) (s : State) : (doorbellStray inst off width s).regs = s.regs := by
  simp only [doorbellStray]; (repeat' split) <;> simp

@[simp] theorem fetch_regs (n : Nat) : ∀ (es : List Bytes) (s : State), (fetch n es s).regs = s.regs
  | [], _ => rfl
  | e :: es, s => by simp only [fetch]; (repeat' split) <;> simp [fetch_regs n es]

@[simp] theorem noteAts_regs (n : Nat) (s : State) : (noteAts n s).regs = s.regs := by
  simp only [noteAts]; (repeat' split) <;> simp

@[simp] theorem ringFetchError_regs (n : Nat) (s : State) : (ringFetchError n s).regs = s.regs := by
  simp only [ringFetchError]; (repeat' split) <;> simp

@[simp] theorem indexBlockWrite_regs (n : Nat) (s : State) : (indexBlockWrite n s).regs = s.regs := by
  simp only [indexBlockWrite]; (repeat' split) <;> simp

@[simp] theorem ringWriteError_regs (n : Nat) (s : State) : (ringWriteError n s).regs = s.regs := by
  simp only [ringWriteError]; (repeat' split) <;> simp

@[simp] theorem commit_regs (n : Nat) (outcome : Status) (s : State) : (commit n outcome s).regs = s.regs := by simp [commit]

@[simp] theorem heldWrite_regs (n : Nat) (s : State) : (heldWrite n s).regs = s.regs := by
  simp only [heldWrite]; (repeat' split) <;> simp

@[simp] theorem backlogTimer_regs (n : Nat) (head : Option Nat) (s : State) : (backlogTimer n head s).regs = s.regs := by
  simp only [backlogTimer]; (repeat' split) <;> simp

@[simp] theorem moderationTimer_regs (n : Nat) (s : State) : (moderationTimer n s).regs = s.regs := by
  simp only [moderationTimer]; (repeat' split) <;> simp

@[simp] theorem deliver_regs (v : Nat) (s : State) : (deliver v s).regs = s.regs := by
  simp only [deliver]; (repeat' split) <;> simp

@[simp] theorem msixMessage_regs (src : Nat) (s : State) : (msixMessage src s).regs = s.regs := by
  simp only [msixMessage]; (repeat' split) <;> simp

@[simp] theorem msixUnmask_regs (v : Nat) (s : State) : (msixUnmask v s).regs = s.regs := by
  simp only [msixUnmask]; split <;> simp

@[simp] theorem cancelOne_regs (id : Nat) (s : State) : (cancelOne id s).regs = s.regs := by
  simp only [cancelOne]; (repeat' split) <;> simp

@[simp] theorem cancelAll_regs (ids : List Nat) (s : State) : (cancelAll ids s).regs = s.regs := by simp [cancelAll]

@[simp] theorem cancelRing_regs (n : Nat) (s : State) : (cancelRing n s).regs = s.regs := by simp [cancelRing]

@[simp] theorem beginDestroy_regs (n : Nat) (s : State) : (beginDestroy n s).1.regs = s.regs := by
  simp only [beginDestroy]; split <;> simp

@[simp] theorem settleCancels_regs (s : State) : (settleCancels s).regs = s.regs :=
  foldl_regs _ (fun t w => by (repeat' split) <;> simp) _ s

@[simp] theorem freeRings_regs (hit : Nat → Ring → Bool) (s : State) : (freeRings hit s).regs = s.regs := by simp [freeRings]

@[simp] theorem finishDestroy_regs (id n dropped : Nat) (s : State) : (finishDestroy id n dropped s).regs = s.regs := by
  simp [finishDestroy]

@[simp] theorem settleRingZero_regs (s : State) : (settleRingZero s).regs = s.regs := by
  simp only [settleRingZero]; (repeat' split) <;> simp

@[simp] theorem ringDestroyDiscard_regs (n : Nat) (s : State) : (ringDestroyDiscard n s).regs = s.regs := by
  simp only [ringDestroyDiscard]; (repeat' split) <;> simp

@[simp] theorem ringZeroDisable_regs (s : State) : (ringZeroDisable s).regs = s.regs := by
  simp only [ringZeroDisable]; split <;> simp

/-! LinkOps -/

@[simp] theorem updMember_regs (m : Nat) (f : Member → Member) (s : State) : (updMember m f s).regs = s.regs := by simp [updMember]

@[simp] theorem settleLanes_regs (s : State) : (settleLanes s).regs = s.regs := by simp [settleLanes]

@[simp] theorem raisePort_regs (n e : Nat) (s : State) : (raisePort n e s).regs = s.regs := by
  simp only [raisePort]; split <;> simp

@[simp] theorem dropCount_regs (n k : Nat) (s : State) : (dropCount n k s).regs = s.regs := by simp [dropCount]

@[simp] theorem sendNow_regs (n : Nat) (payload : Bytes) (s : State) : (sendNow n payload s).regs = s.regs := by
  simp only [sendNow]; split <;> simp

@[simp] theorem pumpList_regs (n : Nat) : ∀ (es : List (Nat × Bytes)) (s : State), (pumpList n es s).regs = s.regs
  | [], _ => rfl
  | e :: es, s => by simp only [pumpList]; (repeat' split) <;> simp [pumpList_regs n es]

@[simp] theorem pump_regs (n : Nat) (s : State) : (pump n s).regs = s.regs := by
  simp only [pump]; split <;> simp

@[simp] theorem portSend_regs (n vc : Nat) (payload : Bytes) (s : State) : (portSend n vc payload s).regs = s.regs := by
  simp only [portSend]; (repeat' split) <;> simp

@[simp] theorem sendHop_regs (n msg vc : Nat) (body : Bytes) (s : State) : (sendHop n msg vc body s).regs = s.regs := by
  simp only [sendHop]; split <;> simp

@[simp] theorem sendRoutes_regs (s : State) : (sendRoutes s).regs = s.regs := by simp [sendRoutes]

@[simp] theorem memberBack_regs (s : State) (m : Nat) : (memberBack s m).regs = s.regs := by
  simp only [memberBack]; (repeat' split) <;> simp

@[simp] theorem settleRoutes_regs (before : List (Nat × Nat × Nat)) (s : State) : (settleRoutes before s).regs = s.regs := by
  simp only [settleRoutes]; split <;> simp

@[simp] theorem dropRoutes_regs (n : Nat) (s : State) : (dropRoutes n s).regs = s.regs := by simp [dropRoutes]

@[simp] theorem endSession_regs (n : Nat) (s : State) : (endSession n s).regs = s.regs := by simp [endSession]

@[simp] theorem linkDown_regs (n : Nat) (to_ : PortState) (retry : Option Nat) (s : State) : (linkDown n to_ retry s).regs = s.regs := by
  simp only [linkDown]; split <;> simp

@[simp] theorem retrain_regs (n : Nat) (s : State) : (retrain n s).regs = s.regs := by simp [retrain]

@[simp] theorem linkEngine_regs (s : State) : (linkEngine s).regs = s.regs := by
  simp only [linkEngine]; split <;> simp

@[simp] theorem sendPlain_regs (dst msg : Nat) (body : Bytes) (s : State) : (sendPlain dst msg body s).regs = s.regs := by
  simp only [sendPlain]; split <;> simp

@[simp] theorem openRouted_regs (m : Nat) (s : State) : (openRouted m s).regs = s.regs := by
  simp only [openRouted]; (repeat' split) <;> simp

@[simp] theorem sendRouted_regs (dst msg vc : Nat) (body : Bytes) (s : State) : (sendRouted dst msg vc body s).regs = s.regs := by
  simp only [sendRouted]; (repeat' split) <;> simp

/-! Activation -/

@[simp] theorem finishHandover_regs (s : State) : (finishHandover s).regs = s.regs := by simp [finishHandover]

@[simp] theorem endHandover_regs (s : State) : (endHandover s).regs = s.regs := by
  simp only [endHandover]; split <;> simp

/-! Faults -/

@[simp] theorem logRec_regs (r : FaultRec) (s : State) : (logRec r s).regs = s.regs := by
  simp only [logRec]; split <;> simp

@[simp] theorem closeWindow_regs (s : State) : (closeWindow s).regs = s.regs := by
  simp only [closeWindow]; (repeat' split) <;> simp

@[simp] theorem placeRec_regs (r : FaultRec) (s : State) : (placeRec r s).regs = s.regs := by
  simp only [placeRec]; (repeat' split) <;> simp

@[simp] theorem clearLive_regs (src : Nat) (s : State) : (clearLive src s).regs = s.regs := by simp [clearLive]

@[simp] theorem record_regs (m : FaultMsg) (s : State) : (record m s).1.regs = s.regs := by
  simp only [record]; (repeat' split) <;> simp

@[simp] theorem blackBox_regs (s : State) : (blackBox s).regs = s.regs := by simp [blackBox]

@[simp] theorem assertFaultN_regs (s : State) : (assertFaultN s).regs = s.regs := by simp [assertFaultN]

@[simp] theorem note_regs (src kind addr : Nat) (s : State) : (note src kind addr s).regs = s.regs := by
  simp only [note]; split <;> simp

@[simp] theorem closeSession_regs (s : State) : (closeSession s).regs = s.regs := by
  simp only [closeSession]; split <;> simp

@[simp] theorem reclaim_regs (u : UnitRef) (s : State) : (reclaim u s).regs = s.regs := by simp [reclaim]

@[simp] theorem loseUnit_regs (s : State) (u : UnitRef) : (loseUnit s u).regs = s.regs := by simp [loseUnit]

@[simp] theorem eclipseUnit_regs (u : UnitRef) (s : State) : (eclipseUnit u s).regs = s.regs := by simp [eclipseUnit]

@[simp] theorem eclipseStore_regs (cls : Nat) (s : State) : (eclipseStore cls s).regs = s.regs := by simp [eclipseStore]

@[simp] theorem cancelDispatched_regs (s : State) : (cancelDispatched s).regs = s.regs := by simp [cancelDispatched]

@[simp] theorem supersedeModeSets_regs (s : State) : (supersedeModeSets s).regs = s.regs :=
  foldl_regs _ (fun t w => by split <;> simp) _ s

@[simp] theorem enterSafe_regs (r : FaultRec) (s : State) : (enterSafe r s).regs = s.regs := by
  simp only [enterSafe]; (repeat' split) <;> simp

@[simp] theorem halt_regs (s : State) : (halt s).regs = s.regs := by simp [halt]

@[simp] theorem failEntropy_regs (n : Nat) (s : State) : (failEntropy n s).regs = s.regs := by
  simp only [failEntropy]; (repeat' split) <;> simp

@[simp] theorem containedMem_regs (address : Nat) (s : State) : (containedMem address s).regs = s.regs := by
  simp only [containedMem]; split <;> simp

@[simp] theorem eclipsePort_regs (p : Nat) (s : State) : (eclipsePort p s).regs = s.regs := by simp [eclipsePort]

@[simp] theorem loseLane_regs (s : State) : (loseLane s).regs = s.regs := by
  simp only [loseLane]; split <;> simp

@[simp] theorem contain_regs (m : FaultMsg) (s : State) : (contain m s).regs = s.regs := by
  simp only [contain]; (repeat' split) <;> simp

@[simp] theorem collect_regs (m : FaultMsg) (s : State) : (collect m s).regs = s.regs := by
  simp only [collect]; (repeat' split) <;> simp

@[simp] theorem sendFault_regs (src kind sev addr : Nat) (s : State) : (sendFault src kind sev addr s).regs = s.regs := by simp [sendFault]

@[simp] theorem collectOwn_regs (kind sev addr : Nat) (s : State) : (collectOwn kind sev addr s).regs = s.regs := by simp [collectOwn]

@[simp] theorem receiveFault_regs (m : FaultMsg) (s : State) : (receiveFault m s).regs = s.regs := by
  simp only [receiveFault]; (repeat' split) <;> simp

@[simp] theorem strand_regs (needs : State → Op → List UnitKind) (s : State) : (strand needs s).regs = s.regs := by simp [strand]

@[simp] theorem firstWindowClose_regs (s : State) : (firstWindowClose s).regs = s.regs := by
  simp only [firstWindowClose]; (repeat' split) <;> simp

@[simp] theorem faultnStateClear_regs (s : State) : (faultnStateClear s).regs = s.regs := by
  simp only [faultnStateClear]; split <;> simp

@[simp] theorem eventPendingClear_regs (k : Nat) (s : State) : (eventPendingClear k s).regs = s.regs := by
  simp only [eventPendingClear]; split <;> simp

/-! Cache -/

@[simp] theorem takeTop_regs (n set : Nat) (s : State) : (takeTop n set s).regs = s.regs := by
  simp only [takeTop]; split <;> simp

@[simp] theorem takeSet_regs (n blocks : Nat) (s : State) : (takeSet n blocks s).regs = s.regs := by simp [takeSet]

@[simp] theorem dropTrees_regs (n : Nat) (s : State) : (dropTrees n s).regs = s.regs := by simp [dropTrees]

/-! GroupOps -/

@[simp] theorem replicateTo_regs (slot : Nat) (k : KeySlot) (dst : Nat) (s : State) : (replicateTo slot k dst s).regs = s.regs := by
  simp only [replicateTo]; split <;> simp

@[simp] theorem confirmCreates_regs (s : State) : (confirmCreates s).regs = s.regs :=
  foldl_regs _ (fun t c => by dsimp only; (repeat' split) <;> simp) _ s

@[simp] theorem takeNumber_regs (op n : Nat) (s : State) : (takeNumber op n s).regs = s.regs := by
  simp only [takeNumber]; (repeat' split) <;> simp

@[simp] theorem startGroupKey_regs (s : State) (o : Op) (k : KeySlot) (stf : Option StfKey) (opdata : Bytes) :
    (startGroupKey s o k stf opdata).st.regs = s.regs := by
  simp only [startGroupKey]; split <;> simp

@[simp] theorem askRevoke_regs (n code op : Nat) (s : State) : (askRevoke n code op s).regs = s.regs := by
  simp only [askRevoke]; split <;> simp

@[simp] theorem startRevoke_regs (n code : Nat) (o : Op) (s : State) : (startRevoke n code o s).regs = s.regs := by
  simp only [startRevoke]; split <;> simp

/-! StfOps -/

@[simp] theorem updKey_regs (n : Nat) (f : StfKey → StfKey) (s : State) : (updKey n f s).regs = s.regs := by simp [updKey]

@[simp] theorem journal_regs (type slot : Nat) (keyId : Bytes) (a b c : Nat) (s : State) : (journal type slot keyId a b c s).regs = s.regs := by
  simp [journal]

@[simp] theorem requestLease_regs (n : Nat) (s : State) : (requestLease n s).regs = s.regs := by
  simp only [requestLease]; (repeat' split) <;> simp

@[simp] theorem holdLease_regs (n number start stop ticks : Nat) (s : State) : (holdLease n number start stop ticks s).regs = s.regs := by
  simp only [holdLease]; (repeat' split) <;> simp

@[simp] theorem endLeaseOf_regs (n number : Nat) (lapse : Bool) (s : State) : (endLeaseOf n number lapse s).regs = s.regs := by
  simp [endLeaseOf]

@[simp] theorem sendGrant_regs (n : Nat) (g : Grant) (s : State) : (sendGrant n g s).regs = s.regs := by
  simp only [sendGrant]; (repeat' split) <;> simp

@[simp] theorem grantLease_regs (n sat reqNo : Nat) (s : State) : (grantLease n sat reqNo s).regs = s.regs := by
  simp only [grantLease]; (repeat' split) <;> simp

@[simp] theorem ownLease_regs (n : Nat) (s : State) : (ownLease n s).regs = s.regs := by
  simp only [ownLease]; (repeat' split) <;> simp

@[simp] theorem confirmOwn_regs (s : State) : (confirmOwn s).regs = s.regs := by
  simp only [confirmOwn]; split <;> simp

@[simp] theorem wantLease_regs (n : Nat) (s : State) : (wantLease n s).regs = s.regs := by
  simp only [wantLease]; split <;> simp

@[simp] theorem retireStateful_regs (n : Nat) (s : State) : (retireStateful n s).regs = s.regs := by
  simp only [retireStateful]; split <;> simp

@[simp] theorem statefulSkip_regs (n : Nat) (s : State) : (statefulSkip n s).regs = s.regs := by simp [statefulSkip]

@[simp] theorem journalCreated_regs (n : Nat) (s : State) : (journalCreated n s).regs = s.regs := by
  simp only [journalCreated]; (repeat' split) <;> simp

@[simp] theorem applyKvState_regs (e : KvEffect) (s : State) : (applyKvState e s).regs = s.regs := by
  simp only [applyKvState]; (repeat' split) <;> simp

/-! Custody -/

@[simp] theorem dueReset_regs (s : State) : (dueReset s).regs = s.regs := by simp [dueReset]

@[simp] theorem reseedAll_regs (s : State) : (reseedAll s).regs = s.regs := by simp [reseedAll]

@[simp] theorem wipeBuffers_regs (hit : Nat → Buffer → Bool) (s : State) : (wipeBuffers hit s).regs = s.regs := by simp [wipeBuffers]

@[simp] theorem wipeSlots_regs (hit : Nat → KeySlot → Bool) (s : State) : (wipeSlots hit s).regs = s.regs := by simp [wipeSlots]

@[simp] theorem zeroise_regs (s : State) : (zeroise s).regs = s.regs := by simp [zeroise]

@[simp] theorem wipeVolatile_regs (s : State) : (wipeVolatile s).regs = s.regs := by simp [wipeVolatile]

/-! Create -/

@[simp] theorem createNow_regs (s : State) (o : Op) (i : OpInput) (k : NewKey) : (createNow s o i k).st.regs = s.regs := by
  simp only [createNow]; (repeat' split) <;> simp

@[simp] theorem createStaged_regs (s : State) (o : Op) (i : OpInput) (k : NewKey) : (createStaged s o i k).st.regs = s.regs := by
  simp only [createStaged]; (repeat' split) <;> simp

@[simp] theorem effectNow_regs (s : State) (o : Op) (e : KvEffect) : (effectNow s o e).st.regs = s.regs := by
  simp only [effectNow]; split <;> simp

/-! Power -/

@[simp] theorem setSupply_regs (n mv : Nat) (f : Supply → Supply) (s : State) : (setSupply n mv f s).regs = s.regs := by simp [setSupply]

@[simp] theorem vddWarn_regs (n mv : Nat) (s : State) : (vddWarn n mv s).regs = s.regs := by
  simp only [vddWarn]; (repeat' split) <;> simp

@[simp] theorem vddRestored_regs (n mv : Nat) (s : State) : (vddRestored n mv s).regs = s.regs := by
  simp only [vddRestored]; (repeat' split) <;> simp

@[simp] theorem brownoutLift_regs (s : State) : (brownoutLift s).regs = s.regs := by
  simp only [brownoutLift]; (repeat' split) <;> simp

@[simp] theorem vddRange_regs (mv : Nat) (s : State) : (vddRange mv s).regs = s.regs := by
  simp only [vddRange]; (repeat' split) <;> simp

@[simp] theorem setTemp_regs (n : Nat) (t : ℤ) (s : State) : (setTemp n t s).regs = s.regs := by simp [setTemp]

@[simp] theorem throttle_regs (n : Nat) (t : ℤ) (s : State) : (throttle n t s).regs = s.regs := by
  simp only [throttle]; split <;> simp

@[simp] theorem thermalStep_regs (n : Nat) (t : ℤ) (s : State) : (thermalStep n t s).regs = s.regs := by
  simp only [thermalStep]; (repeat' split) <;> simp

@[simp] theorem clearSensors_regs (s : State) : (clearSensors s).regs = s.regs :=
  foldl_regs _ (fun t i => by split <;> simp) _ s

@[simp] theorem settleSensors_regs (s : State) : (settleSensors s).regs = s.regs := by
  simp only [settleSensors]; (repeat' split) <;> simp

@[simp] theorem throttleOff_regs (s : State) : (throttleOff s).regs = s.regs := by
  simp only [throttleOff]; (repeat' split) <;> simp

@[simp] theorem therm_regs (n : Nat) (t : ℤ) (s : State) : (therm n t s).regs = s.regs := by
  simp only [therm]; split <;> simp

@[simp] theorem thermClear_regs (n : Nat) (t : ℤ) (s : State) : (thermClear n t s).regs = s.regs := by
  simp only [thermClear]; split <;> simp

@[simp] theorem thermalShutdown_regs (n : Nat) (t : ℤ) (s : State) : (thermalShutdown n t s).regs = s.regs := by
  simp only [thermalShutdown]; split <;> simp

@[simp] theorem checkSensors_regs (s : State) : (checkSensors s).regs = s.regs := by
  simp only [checkSensors]; (repeat' split) <;> simp

@[simp] theorem refclkLost_regs (s : State) : (refclkLost s).regs = s.regs := by
  simp only [refclkLost]; split <;> simp

@[simp] theorem refclkRestored_regs (s : State) : (refclkRestored s).regs = s.regs := by
  simp only [refclkRestored]; split <;> simp

/-! Pipeline -/

@[simp] theorem energyGrant_regs (needs : State → Op → List UnitKind) (id : Nat) (s : State) : (energyGrant needs id s).regs = s.regs := by
  simp only [energyGrant]; (repeat' split) <;> simp

@[simp] theorem unyield_regs (id : Nat) (s : State) : (unyield id s).regs = s.regs := by simp [unyield]

@[simp] theorem resumeOne_regs (s : State) (id : Nat) : (resumeOne s id).regs = s.regs := by
  simp only [resumeOne]; (repeat' split) <;> simp

@[simp] theorem resumeYielded_regs (s : State) : (resumeYielded s).regs = s.regs := by simp [resumeYielded]

@[simp] theorem leaseNow_regs (needs : State → Op → List UnitKind) (banks : Desc → Option Nat) (id given : Nat) (s : State) :
    (leaseNow needs banks id given s).regs = s.regs := by
  simp only [leaseNow]; (repeat' split) <;> simp

@[simp] theorem bankLease_regs (needs : State → Op → List UnitKind) (banks : Desc → Option Nat) (id given : Nat) (s : State) :
    (bankLease needs banks id given s).regs = s.regs := by
  simp [bankLease]

@[simp] theorem lnOwnerWipe_regs (unit : Nat) (s : State) : (lnOwnerWipe unit s).regs = s.regs := by
  simp only [lnOwnerWipe]; split <;> simp

@[simp] theorem scatterWalk_regs (id fieldNo : Nat) (words : List Bytes) (failed poison : Bool) (s : State) :
    (scatterWalk id fieldNo words failed poison s).regs = s.regs := by
  simp only [scatterWalk]; (repeat' split) <;> simp

@[simp] theorem eclipseSuspect_regs (o : Op) (s : State) : (eclipseSuspect o s).regs = s.regs := by
  simp only [eclipseSuspect]; split <;> simp

@[simp] theorem partDone_regs (o : Op) (s : State) : (partDone o s).regs = s.regs := by simp [partDone]

@[simp] theorem engineDone_regs (id : Nat) (s : State) : (engineDone id s).regs = s.regs := by
  simp only [engineDone]; (repeat' split) <;> simp

@[simp] theorem bankWipe_regs (b : Nat) (s : State) : (bankWipe b s).regs = s.regs := by
  simp only [bankWipe]; split <;> simp

@[simp] theorem dmaReadTimeout_regs (id : Nat) (s : State) : (dmaReadTimeout id s).regs = s.regs := by
  simp only [dmaReadTimeout]; (repeat' split) <;> simp

/-! Buffers -/

@[simp] theorem bufWipe_regs (h : Nat) (s : State) : (bufWipe h s).regs = s.regs := by
  simp only [bufWipe]; (repeat' split) <;> simp

@[simp] theorem freeBuffersOf_regs (inst : Nat) (s : State) : (freeBuffersOf inst s).regs = s.regs := by simp [freeBuffersOf]

/-! Links -/

@[simp] theorem startHello_regs (n : Nat) (s : State) : (startHello n s).regs = s.regs := by
  simp only [startHello]; (repeat' split) <;> simp

@[simp] theorem startRekey_regs (n : Nat) (s : State) : (startRekey n s).regs = s.regs := by simp [startRekey]

@[simp] theorem refusePeer_regs (n : Nat) (s : State) : (refusePeer n s).regs = s.regs := by simp [refusePeer]

@[simp] theorem sendCharter_regs (n : Nat) (s : State) : (sendCharter n s).regs = s.regs := by
  simp only [sendCharter]; split <;> simp

@[simp] theorem addNeighbour_regs (n m : Nat) (s : State) : (addNeighbour n m s).regs = s.regs := by simp [addNeighbour]

@[simp] theorem openHop_regs (n : Nat) (st : PortState) (member : Nat) (hello : Bytes) (k : SessionKeys) (s : State) :
    (openHop n st member hello k s).regs = s.regs := by
  simp only [openHop]; (repeat' split) <;> simp

@[simp] theorem helloInA_regs (n : Nat) (h : Bytes) (s : State) : (helloInA n h s).regs = s.regs := by
  simp only [helloInA]; (repeat' split) <;> simp

@[simp] theorem helloInB_regs (n : Nat) (b : Bytes) (s : State) : (helloInB n b s).regs = s.regs := by
  simp only [helloInB]; (repeat' split) <;> simp

@[simp] theorem restrictedTimeout_regs (n : Nat) (s : State) : (restrictedTimeout n s).regs = s.regs := by
  simp only [restrictedTimeout]; (repeat' split) <;> simp

@[simp] theorem peerRetry_regs (n : Nat) (s : State) : (peerRetry n s).regs = s.regs := by
  simp only [peerRetry]; (repeat' split) <;> simp

@[simp] theorem rekey_regs (n : Nat) (s : State) : (rekey n s).regs = s.regs := by
  simp only [rekey]; (repeat' split) <;> simp

@[simp] theorem portTraining_regs (n working : Nat) (s : State) : (portTraining n working s).regs = s.regs := by
  simp only [portTraining]; (repeat' split) <;> simp

@[simp] theorem laneFail_regs (n lane : Nat) (s : State) : (laneFail n lane s).regs = s.regs := by
  simp only [laneFail]; (repeat' split) <;> simp

@[simp] theorem trainingRetry_regs (n : Nat) (s : State) : (trainingRetry n s).regs = s.regs := by
  simp only [trainingRetry]; (repeat' split) <;> simp

@[simp] theorem fecSecond_regs (n corrected uncorrectable : Nat) (s : State) : (fecSecond n corrected uncorrectable s).regs = s.regs := by
  simp only [fecSecond]; (repeat' split) <;> simp

@[simp] theorem wyRefclk_regs (present : Bool) (s : State) : (wyRefclk present s).regs = s.regs := by
  simp only [wyRefclk]; split
  · rfl
  · exact foldl_regs _ (fun t n => by split <;> simp) _ _

/-- What is done on a session leaves the register file alone where each port's part does. -/
@[simp] theorem onSession_regs (n : Nat) (f : Port → State) (s : State) (h : ∀ p, (f p).regs = s.regs) :
    (onSession n f s).regs = s.regs := by
  simp only [onSession]; (repeat' split) <;> simp [h]

@[simp] theorem heartbeat_regs (n : Nat) (s : State) : (heartbeat n s).regs = s.regs := by
  simp only [heartbeat]; refine onSession_regs _ _ _ fun p => ?_; (repeat' split) <;> simp

@[simp] theorem creditReport_regs (n : Nat) (s : State) : (creditReport n s).regs = s.regs := by
  simp only [creditReport]; refine onSession_regs _ _ _ fun p => ?_; (repeat' split) <;> simp

@[simp] theorem portIdle_regs (n : Nat) (s : State) : (portIdle n s).regs = s.regs := by
  simp only [portIdle]; (repeat' split) <;> simp

@[simp] theorem creditStarved_regs (n vc : Nat) (s : State) : (creditStarved n vc s).regs = s.regs := by
  simp only [creditStarved]; refine onSession_regs _ _ _ fun p => ?_; (repeat' split) <;> simp

@[simp] theorem starveSessionEnd_regs (n vc : Nat) (s : State) : (starveSessionEnd n vc s).regs = s.regs := by
  simp only [starveSessionEnd]; refine onSession_regs _ _ _ fun p => ?_; (repeat' split) <;> simp

@[simp] theorem peerTimeout_regs (n : Nat) (s : State) : (peerTimeout n s).regs = s.regs := by
  simp only [peerTimeout]; refine onSession_regs _ _ _ fun p => ?_; (repeat' split) <;> simp

@[simp] theorem tagFailed_regs (n : Nat) (s : State) : (tagFailed n s).regs = s.regs := by
  simp only [tagFailed]; (repeat' split) <;> simp

@[simp] theorem envelopeIn_regs (n vc : Nat) (e : Bytes) (restricted : Bool) (s : State) : (envelopeIn n vc e restricted s).regs = s.regs := by
  simp only [envelopeIn]; (repeat' split) <;> simp

@[simp] theorem frameReceive_regs (n : Nat) (f : FrameIn) (s : State) : (frameReceive n f s).regs = s.regs := by
  simp only [frameReceive]; (repeat' split) <;> simp

@[simp] theorem routeIn_regs (n : Nat) (entries : List (Nat × Nat)) (s : State) : (routeIn n entries s).regs = s.regs := by
  simp only [routeIn]; (repeat' split) <;> simp

@[simp] theorem routeSend_regs (s : State) : (routeSend s).regs = s.regs := by
  simp only [routeSend]; split <;> simp

@[simp] theorem memberLost_regs (m : Nat) (s : State) : (memberLost m s).regs = s.regs := by
  simp only [memberLost]; (repeat' split) <;> simp

/-! Stateful -/

@[simp] theorem reservationCommit_regs (n : Nat) (ok : Bool) (s : State) : (reservationCommit n ok s).regs = s.regs := by
  simp only [reservationCommit]; (repeat' split) <;> simp

@[simp] theorem workingSetFill_regs (n : Nat) (s : State) : (workingSetFill n s).regs = s.regs := by simp [workingSetFill]

@[simp] theorem leaseWaitExpiry_regs (id : Nat) (s : State) : (leaseWaitExpiry id s).regs = s.regs := by
  simp only [leaseWaitExpiry]; (repeat' split) <;> simp

@[simp] theorem sealedImportRun_regs (s : State) (o : Op) (i : OpInput) : (sealedImportRun s o i).st.regs = s.regs := by
  simp only [sealedImportRun]; (repeat' split) <;> simp

@[simp] theorem journalCompaction_regs (s : State) : (journalCompaction s).regs = s.regs := by
  simp only [journalCompaction]; (repeat' split) <;> simp

@[simp] theorem journalScan_regs (bad lost : List Nat) (s : State) : (journalScan bad lost s).regs = s.regs := by simp [journalScan]

/-! Vault -/

@[simp] theorem importWrappedRun_regs (s : State) (o : Op) (i : OpInput) : (importWrappedRun s o i).st.regs = s.regs := by
  simp only [importWrappedRun]; (repeat' split) <;> simp

@[simp] theorem slotReload_regs (n : Nat) (s : State) : (slotReload n s).regs = s.regs := by
  simp only [slotReload]; (repeat' split) <;> simp

@[simp] theorem drbgReseed_regs (k : Nat) (s : State) : (drbgReseed k s).regs = s.regs := by
  simp only [drbgReseed]; (repeat' split) <;> simp

/-! HashForest -/

@[simp] theorem dropTree_regs (slot : Nat) (tree : Option Nat) (s : State) : (dropTree slot tree s).regs = s.regs := by simp [dropTree]

@[simp] theorem suspect_regs (o : Op) (s : State) : (suspect o s).regs = s.regs := by simp [suspect]

@[simp] theorem storeTree_regs (n tree : Nat) (s : State) : (storeTree n tree s).regs = s.regs := by
  simp only [storeTree]; (repeat' split) <;> simp

@[simp] theorem consumeTree_regs (o : Op) (n : Nat) (tree : Option Nat) (s : State) : (consumeTree o n tree s).regs = s.regs := by
  simp [consumeTree]

@[simp] theorem consumeTrees_regs (o : Op) (i : OpInput) (n tree : Nat) (s : State) : (consumeTrees o i n tree s).regs = s.regs := by
  simp only [consumeTrees]; (repeat' split) <;> simp

@[simp] theorem fillJob_regs (k : Nat) (s : State) : (fillJob k s).regs = s.regs := by
  simp only [fillJob]; (repeat' split) <;> simp

/-! Memory -/

@[simp] theorem withdrawUnit_regs (ck : Nat) (s : State) : (withdrawUnit ck s).regs = s.regs := by
  simp only [withdrawUnit]; (repeat' split) <;> simp

@[simp] theorem hardFault_regs (addr : Nat) (s : State) : (hardFault addr s).regs = s.regs := by
  simp only [hardFault]; split <;> simp

@[simp] theorem useInjection_regs (ck : Nat) (s : State) : (useInjection ck s).regs = s.regs := by simp [useInjection]

@[simp] theorem spendInjection_regs (i : Injection) (addr : Nat) (s : State) : (spendInjection i addr s).regs = s.regs := by
  simp [spendInjection]

@[simp] theorem scrubWrite_regs (addr : Nat) (s : State) : (scrubWrite addr s).regs = s.regs := by
  simp only [scrubWrite]; split <;> simp

@[simp] theorem countWeak_regs (addr : Nat) (s : State) : (countWeak addr s).regs = s.regs := by
  simp only [countWeak]; (repeat' split) <;> simp

@[simp] theorem noteCorrection_regs (addr : Nat) (counts : Bool) (s : State) : (noteCorrection addr counts s).regs = s.regs := by
  simp only [noteCorrection]; split <;> simp

@[simp] theorem countCorrected_regs (addr : Nat) (counts : Bool) (s : State) : (countCorrected addr counts s).regs = s.regs := by
  simp only [countCorrected]; (repeat' split) <;> simp

@[simp] theorem poisonEntry_regs (n k : Nat) (s : State) : (poisonEntry n k s).regs = s.regs := by simp [poisonEntry]

@[simp] theorem uncorrectable_regs (addr : Nat) (slot tree : Option Nat) (s : State) : (uncorrectable addr slot tree s).regs = s.regs := by
  simp only [uncorrectable]; (repeat' split) <;> simp

@[simp] theorem scrubRead_regs (addr : Nat) (own : Seen) (slot tree : Option Nat) (passEnd : Bool) (s : State) :
    (scrubRead addr own slot tree passEnd s).regs = s.regs := by
  simp only [scrubRead]; (repeat' split) <;> simp

@[simp] theorem memMessage_regs (m : FaultMsg) (s : State) : (memMessage m s).regs = s.regs := by
  simp only [memMessage]; (repeat' split) <;> simp

@[simp] theorem scrubBehind_regs (s : State) : (scrubBehind s).regs = s.regs := by
  simp only [scrubBehind]; split <;> simp

/-! Charter -/

@[simp] theorem setRole_regs (role epoch : Nat) (sole : Bool) (s : State) : (setRole role epoch sole s).regs = s.regs := by simp [setRole]

@[simp] theorem leaveSole_regs (s : State) : (leaveSole s).regs = s.regs := by
  simp only [leaveSole]; split <;> simp

@[simp] theorem mirrorAll_regs (s : State) : (mirrorAll s).regs = s.regs := by
  simp only [mirrorAll]; split <;> simp

@[simp] theorem takeOver_regs (s : State) : (takeOver s).regs = s.regs := by
  simp only [takeOver]; split <;> simp

@[simp] theorem takeover_regs (s : State) : (takeover s).regs = s.regs := by
  simp only [takeover]; split <;> simp

@[simp] theorem learnEpoch_regs (src epoch : Nat) (s : State) : (learnEpoch src epoch s).regs = s.regs := by
  simp only [learnEpoch]; (repeat' split) <;> simp

@[simp] theorem leaveGroup_regs (keepCharter : Bool) (s : State) : (leaveGroup keepCharter s).regs = s.regs := by simp [leaveGroup]

@[simp] theorem settlePeer_regs (c : Charter) (n : Nat) (s : State) : (settlePeer c n s).regs = s.regs := by
  simp only [settlePeer]; (repeat' split) <;> simp

@[simp] theorem settleRole_regs (old : Option Charter) (c : Charter) (me : Nat) (s : State) : (settleRole old c me s).regs = s.regs := by
  simp only [settleRole]; (repeat' split) <;> simp

@[simp] theorem commitCharter_regs (c : Charter) (s : State) : (commitCharter c s).regs = s.regs := by
  simp only [commitCharter]; (repeat' split) <;> simp

@[simp] theorem finishJoin_regs (s : State) : (finishJoin s).regs = s.regs :=
  foldl_regs _ (fun t w => by split <;> simp) _ _

@[simp] theorem tryJoin_regs (s : State) : (tryJoin s).regs = s.regs := by
  simp only [tryJoin]; split <;> simp

@[simp] theorem endLease_regs (n number : Nat) (s : State) : (endLease n number s).regs = s.regs := by
  simp only [endLease]; (repeat' split) <;> simp

@[simp] theorem groupControlRun_regs (s : State) (o : Op) : (groupControlRun s o).st.regs = s.regs := by
  simp only [groupControlRun]; (repeat' split) <;> simp

@[simp] theorem joinTimeout_regs (s : State) : (joinTimeout s).regs = s.regs :=
  foldl_regs _ (fun t w => by (repeat' split) <;> simp) _ s

@[simp] theorem dropAssembly_regs (n : Nat) (s : State) : (dropAssembly n s).regs = s.regs := by simp [dropAssembly]

@[simp] theorem charterIn_regs (n : Nat) (f : CharterFrag) (s : State) : (charterIn n f s).regs = s.regs := by
  simp only [charterIn]; (repeat' split) <;> simp

@[simp] theorem charterAssemblyTimeout_regs (n : Nat) (s : State) : (charterAssemblyTimeout n s).regs = s.regs := by
  simp only [charterAssemblyTimeout]; (repeat' split) <;> simp

/-! Lattice -/

@[simp] theorem secretOut_regs (s : State) (o : Op) (i : OpInput) (ct ss : Bytes) (keyField : Nat) :
    (secretOut s o i ct ss keyField).st.regs = s.regs := by
  simp only [secretOut]; split <;> simp

/-! Fixity -/

@[simp] theorem updStream_regs (h : Nat) (f : Stream → Stream) (s : State) : (updStream h f s).regs = s.regs := by simp [updStream]

@[simp] theorem dropStream_regs (h : Nat) (s : State) : (dropStream h s).regs = s.regs := by simp [dropStream]

@[simp] theorem saveState_regs (o : Op) (s : State) : (saveState o s).regs = s.regs := by
  simp only [saveState]; split <;> simp

@[simp] theorem laneYield_regs (needs : State → Op → List UnitKind) (banks : Desc → Option Nat) (id given : Nat) (s : State) :
    (laneYield needs banks id given s).regs = s.regs := by
  simp only [laneYield]; (repeat' split) <;> simp

@[simp] theorem closeStreams_regs (hit : Stream → Bool) (s : State) : (closeStreams hit s).regs = s.regs := by simp [closeStreams]

/-! LongNumber -/

@[simp] theorem checkedKey_regs (s : State) (o : Op) (i : OpInput) (r : Run) (h : r.st.regs = s.regs) :
    (checkedKey s o i r).st.regs = s.regs := by
  simp only [checkedKey]; split <;> simp [h]

/-! Instances -/

@[simp] theorem pauseFetch_regs (inst : Nat) (s : State) : (pauseFetch inst s).regs = s.regs := by simp [pauseFetch]

@[simp] theorem wipeInst_regs (inst : Nat) (s : State) : (wipeInst inst s).regs = s.regs := by simp [wipeInst]

@[simp] theorem resetDeferralEnd_regs (n : Nat) (s : State) : (resetDeferralEnd n s).regs = s.regs := by
  simp only [resetDeferralEnd]; (repeat' split) <;> simp

@[simp] theorem finishRemove_regs (id n : Nat) (s : State) : (finishRemove id n s).regs = s.regs := by simp [finishRemove]

@[simp] theorem removeDrainEnd_regs (n : Nat) (s : State) : (removeDrainEnd n s).regs = s.regs := by
  simp only [removeDrainEnd]; (repeat' split) <;> simp

@[simp] theorem atsInvalidation_regs (pasid : Nat) (s : State) : (atsInvalidation pasid s).regs = s.regs := by simp [atsInvalidation]

@[simp] theorem d3hotEntry_regs (pmeEn : Bool) (s : State) : (d3hotEntry pmeEn s).regs = s.regs := by
  simp only [d3hotEntry]; split <;> simp

@[simp] theorem d0Return_regs (busMaster : Bool) (s : State) : (d0Return busMaster s).regs = s.regs := by simp [d0Return]

/-! Modes -/

@[simp] theorem bootEvents_regs (m : Mode) (s : State) : (enterMode.bootEvents m s).regs = s.regs := by
  simp only [enterMode.bootEvents]; (repeat' split) <;> simp

@[simp] theorem enterMode_regs (m : Mode) (s : State) : (enterMode m s).regs = s.regs := by
  simp only [enterMode, bootEvents_regs]
  (repeat' split) <;> simp

@[simp] theorem leaveSafe_regs (m : Mode) (detail : Nat) (s : State) : (leaveSafe m detail s).regs = s.regs := by simp [leaveSafe]

@[simp] theorem drainStop_regs (s : State) : (drainStop s).regs = s.regs := by simp [drainStop]

@[simp] theorem startDrain_regs (t : Mode) (ms : Nat) (s : State) : (startDrain t ms s).regs = s.regs := by
  simp only [startDrain]; split <;> simp

@[simp] theorem drainEnd_regs (s : State) : (drainEnd s).regs = s.regs := by
  simp only [drainEnd]; split
  · rfl
  · exact (foldl_regs _ (fun t w => by split <;> simp) _ _).trans (enterMode_regs _ s)

@[simp] theorem drainLimit_regs (s : State) : (drainLimit s).regs = s.regs := by
  simp only [drainLimit]; (repeat' split) <;> simp

@[simp] theorem dormantPowerDown_regs (s : State) : (dormantPowerDown s).regs = s.regs := by
  simp only [dormantPowerDown]; split <;> simp

/-! Recovery -/

@[simp] theorem unEclipse_regs (t : Target) (s : State) : (unEclipse t s).regs = s.regs := by
  simp only [unEclipse]; split <;> simp

@[simp] theorem reinitFailed_regs (t : Target) (s : State) : (reinitFailed t s).regs = s.regs := by
  simp only [reinitFailed]; split <;> simp

@[simp] theorem reinit_regs (fails : List Nat) : ∀ (es : List (Nat × Target)) (s : State), (reinit fails es s).regs = s.regs
  | [], _ => rfl
  | e :: es, s => by rw [reinit, reinit_regs fails es]; split <;> simp

@[simp] theorem clearCounts_regs (srcs : List Nat) (s : State) : (clearCounts srcs s).regs = s.regs := by simp [clearCounts]

@[simp] theorem recovered_regs (src : Nat) (s : State) : (recovered src s).regs = s.regs := by simp [recovered]

@[simp] theorem autoRecovery_regs (src : Nat) (pass : Bool) (s : State) : (autoRecovery src pass s).regs = s.regs := by
  simp only [autoRecovery]; (repeat' split) <;> simp

/-! Lifecycle -/

@[simp] theorem setOtp_regs (o : Otp) (s : State) : (setOtp o s).regs = s.regs := by simp [setOtp]

@[simp] theorem endTransition_regs (t : Token) (s : State) : (endTransition t s).regs = s.regs := by simp [endTransition]

@[simp] theorem runTransition_regs (t : Token) (cut : Option Cut) (s : State) : (runTransition t cut s).st.regs = s.regs := by
  unfold runTransition
  extract_lets mark s₁ s₂
  have mark_regs : ∀ d u, (mark d u).regs = u.regs := by
    intro d u; simp only [mark]; split <;> simp
  have h₁ : s₁.regs = s.regs := mark_regs _ _
  have h₂ : s₂.regs = s.regs := by
    simp only [s₂]; split <;> simp [mark_regs, h₁]
  split; · exact h₁
  have seed : ∀ r : Bytes × State, r = (if drawsSeed t = true then drawBytes 64 s₂ else ([], s₂)) → r.2.regs = s.regs := by
    rintro r rfl; split <;> simp [h₂]
  split
  rename_i s₃ h₃
  replace h₃ : s₃.regs = s.regs := seed _ h₃.symm
  extract_lets s₄ bs
  have h₄ : s₄.regs = s.regs := by
    simp only [s₄]; split <;> simp [h₃]
  have drawn : ∀ k u, draw s₄ = (k, u) → u.regs = s.regs := fun _ _ h => by rw [← h₄, ← draw_regs s₄, h]
  (repeat' split) <;> simp [h₄] <;> exact drawn _ _ ‹_›

@[simp] theorem countAuth_regs (s : State) : (countAuth s).regs = s.regs := by simp [countAuth]

@[simp] theorem transitionRun_regs (t : Token) (reasons : List (Nat × Status)) (i : OpInput) (s : State) :
    (transitionRun t reasons i s).st.regs = s.regs := by
  simp only [transitionRun]; (repeat' split) <;> simp

@[simp] theorem openSession_regs (t : Token) (s : State) : (openSession t s).st.regs = s.regs := by
  simp only [openSession]; (repeat' split) <;> simp

@[simp] theorem debugDo_regs (mode : Nat) (record : Bytes) (s : State) : (debugDo mode record s).st.regs = s.regs := by
  simp only [debugDo]; (repeat' split) <;> simp

@[simp] theorem challengeExpiry_regs (s : State) : (challengeExpiry s).regs = s.regs := by
  simp only [challengeExpiry]; (repeat' split) <;> simp

@[simp] theorem sessionExpiry_regs (s : State) : (sessionExpiry s).regs = s.regs := by
  simp only [sessionExpiry]; (repeat' split) <;> simp

@[simp] theorem tamper_regs (i : Nat) (asserted : Bool) (s : State) : (tamper i asserted s).regs = s.regs := by
  simp only [tamper]; (repeat' split) <;> simp

@[simp] theorem tamperLatchedClear_regs (mask : Nat) (s : State) : (tamperLatchedClear mask s).regs = s.regs := by
  simp only [tamperLatchedClear]; split <;> simp

/-! Registers -/

@[simp] theorem applyCal_regs (item : Nat) (delta : ℤ) (s : State) : (applyCal item delta s).regs = s.regs := by
  simp only [applyCal]; (repeat' split) <;> simp

/-! Update -/

@[simp] theorem commitRecord_regs (r : ActRec) (s : State) : (commitRecord r s).regs = s.regs := by simp [commitRecord]

@[simp] theorem putBank_regs (b : Nat) (x : Option SetInfo) (s : State) : (putBank b x s).regs = s.regs := by simp [putBank]

@[simp] theorem refuse_regs (s : State) (st : Status) (r : Nat) : (refuse s st r).st.regs = s.regs := by simp [refuse]

@[simp] theorem recordLost_regs (s : State) : (recordLost s).st.regs = s.regs := by simp [recordLost]

@[simp] theorem stageSteps_regs (o : Op) (i : OpInput) (s : State) : (stageSteps o i s).st.regs = s.regs := by
  simp only [stageSteps]; (repeat' split) <;> simp

@[simp] theorem activateRun_regs (s : State) (o : Op) (i : OpInput) : (activateRun s o i).st.regs = s.regs := by
  simp only [activateRun]; (repeat' split) <;> simp

@[simp] theorem handoverFails_regs (id : Nat) (s : State) : (handoverFails id s).regs = s.regs := by
  simp only [handoverFails]; split <;> simp

@[simp] theorem handoverTimeout_regs (s : State) : (handoverTimeout s).regs = s.regs := by
  simp only [handoverTimeout]; (repeat' split) <;> simp

@[simp] theorem standbyLost_regs (s : State) : (standbyLost s).regs = s.regs := by
  simp only [standbyLost]; (repeat' split) <;> simp

/-! Admission -/

@[simp] theorem idleLatch_regs (s : State) (cls : Nat) : (idleLatch s cls).regs = s.regs := by
  simp only [idleLatch]; split <;> simp

@[simp] theorem idleLatches_regs (s : State) : (idleLatches s).regs = s.regs := by simp [idleLatches]

@[simp] theorem enterOp_regs (n : Nat) (r : Ring) (c : Cached) (rest : List Cached) (s : State) : (enterOp n r c rest s).regs = s.regs := by
  simp only [enterOp]; split <;> simp

/-- An arbiter's turn moves its credits on, no register. -/
theorem arbitrate_regs {cls n : Nat} {s t : State} (h : arbitrate cls s = some (n, t)) : t.regs = s.regs := by
  simp only [arbitrate] at h
  (repeat' split at h) <;> simp only [reduceCtorEq, Option.some.injEq, Prod.mk.injEq] at h
  all_goals rw [← h.2, setArbiter_regs, idleLatch_regs]

@[simp] theorem admitHead_regs (n : Nat) (r : Ring) (c : Cached) (rest : List Cached) (s : State) : (admitHead n r c rest s).regs = s.regs := by
  simp only [admitHead]
  (repeat' split) <;> simp
  exact arbitrate_regs ‹_›

@[simp] theorem admission_regs (n : Nat) (s : State) : (admission n s).regs = s.regs := by
  simp only [admission]; (repeat' split) <;> simp

@[simp] theorem assemblyTimeout_regs (n : Nat) (s : State) : (assemblyTimeout n s).regs = s.regs := by
  simp only [assemblyTimeout]; split <;> simp

/-! Members -/

@[simp] theorem fromMember_regs (v : Via) (good : Bool) (f : State → State) (s : State) (h : ∀ t, (f t).regs = t.regs) :
    (fromMember v good f s).regs = s.regs := by
  simp only [fromMember]; (repeat' split) <;> simp [h]

@[simp] theorem askAttest_regs (m : Nat) (s : State) : (askAttest m s).regs = s.regs := by simp [askAttest]

@[simp] theorem exclude_regs (m : Nat) (s : State) : (exclude m s).regs = s.regs :=
  (foldl_regs _ (fun t n => by split <;> simp) _ _).trans (by simp)

@[simp] theorem replicateAll_regs (m : Nat) (s : State) : (replicateAll m s).regs = s.regs := by
  simp only [replicateAll]; split <;> simp

@[simp] theorem attestReq_regs (v : Via) (nonce : Bytes) (s : State) : (attestReq v nonce s).regs = s.regs := by
  simp only [attestReq]; refine fromMember_regs _ _ _ _ fun t => ?_; (repeat' split) <;> simp

@[simp] theorem attestResp_regs (v : Via) (a : AttestMsg) (s : State) : (attestResp v a s).regs = s.regs := by
  refine fromMember_regs _ _ _ s fun t => ?_
  have charters : ∀ l : List Nat, (l.foldl (fun t n => if ((t.ports[n]?).map (·.peer == v.src)).getD false then sendCharter n t else t) t).regs
      = t.regs := fun l => foldl_regs _ (fun t n => by split <;> simp) l t
  (repeat' split) <;> simp [apply_ite State.regs, charters]

@[simp] theorem attestInterval_regs (m : Nat) (s : State) : (attestInterval m s).regs = s.regs := by
  simp only [attestInterval]; (repeat' split) <;> simp

@[simp] theorem attestTimeout_regs (m : Nat) (s : State) : (attestTimeout m s).regs = s.regs := by
  simp only [attestTimeout]; (repeat' split) <;> simp

@[simp] theorem rHelloInA_regs (v : Via) (h : Bytes) (s : State) : (rHelloInA v h s).regs = s.regs := by
  simp only [rHelloInA]; (repeat' split) <;> simp

@[simp] theorem queryLeases_regs (s : State) : (queryLeases s).regs = s.regs := by simp [queryLeases]

@[simp] theorem rHelloInB_regs (v : Via) (b : Bytes) (s : State) : (rHelloInB v b s).regs = s.regs := by
  simp only [rHelloInB]; (repeat' split) <;> simp

@[simp] theorem roleIn_regs (v : Via) (epoch : Nat) (s : State) : (roleIn v epoch s).regs = s.regs := by simp [roleIn]

@[simp] theorem roleSend_regs (s : State) : (roleSend s).regs = s.regs := by
  simp only [roleSend]; (repeat' split) <;> simp

@[simp] theorem numberReq_regs (v : Via) (ref : Nat) (s : State) : (numberReq v ref s).regs = s.regs := by
  simp only [numberReq]; refine fromMember_regs _ _ _ _ fun t => ?_; (repeat' split) <;> simp

@[simp] theorem numberAssign_regs (v : Via) (ref n : Nat) (s : State) : (numberAssign v ref n s).regs = s.regs := by
  simp only [numberAssign]; refine fromMember_regs _ _ _ _ fun t => ?_; (repeat' split) <;> simp

@[simp] theorem numberUnconfirmed_regs (n : Nat) (s : State) : (numberUnconfirmed n s).regs = s.regs := by
  simp only [numberUnconfirmed]; (repeat' split) <;> simp

@[simp] theorem commitReplica_regs (i : Incoming) (data : Bytes) (s : State) : (commitReplica i data s).regs = s.regs := by
  simp only [commitReplica]; split <;> simp

@[simp] theorem finishReplica_regs (i : Incoming) (data : Bytes) (s : State) : (finishReplica i data s).regs = s.regs := by
  simp only [finishReplica]; (repeat' split) <;> simp

@[simp] theorem keyReplicate_regs (v : Via) (f : KeyFrag) (s : State) : (keyReplicate v f s).regs = s.regs := by
  simp only [keyReplicate]; refine fromMember_regs _ _ _ _ fun t => ?_; (repeat' split) <;> simp

@[simp] theorem keyReplicateTimeout_regs (n : Nat) (s : State) : (keyReplicateTimeout n s).regs = s.regs := by simp [keyReplicateTimeout]

@[simp] theorem confirmRevokes_regs (s : State) : (confirmRevokes s).regs = s.regs :=
  foldl_regs _ (fun t r => by split <;> simp) _ s

@[simp] theorem keyCommitAck_regs (v : Via) (n : Nat) (s : State) : (keyCommitAck v n s).regs = s.regs := by simp [keyCommitAck]

@[simp] theorem keyRevoke_regs (v : Via) (n : Nat) (destroy : Bool) (s : State) : (keyRevoke v n destroy s).regs = s.regs := by
  simp only [keyRevoke]; refine fromMember_regs _ _ _ _ fun t => ?_; (repeat' split) <;> simp

@[simp] theorem failMember_regs (op : Nat) (s : State) : (failMember op s).regs = s.regs := by simp [failMember]

@[simp] theorem replicationTimeout_regs (op : Nat) (s : State) : (replicationTimeout op s).regs = s.regs := by
  simp only [replicationTimeout]; (repeat' split) <;> simp

/-! Leases -/

@[simp] theorem leaseFrom_regs (v : Via) (m : LeaseMsg) (epoch : Bool) (f : State → State) (s : State) (h : ∀ t, (f t).regs = t.regs) :
    (leaseFrom v m epoch f s).regs = s.regs :=
  fromMember_regs v true _ s fun t => by (repeat' split) <;> simp [h]

@[simp] theorem refuseLease_regs (v : Via) (m : LeaseMsg) (code : Nat) (s : State) : (refuseLease v m code s).regs = s.regs := by
  simp [refuseLease]

@[simp] theorem leaseRequest_regs (v : Via) (m : LeaseMsg) (s : State) : (leaseRequest v m s).regs = s.regs := by
  simp only [leaseRequest]; refine leaseFrom_regs _ _ _ _ _ fun t => ?_; (repeat' split) <;> simp

@[simp] theorem leaseGrant_regs (v : Via) (m : LeaseMsg) (s : State) : (leaseGrant v m s).regs = s.regs := by
  simp only [leaseGrant]; refine leaseFrom_regs _ _ _ _ _ fun t => ?_; (repeat' split) <;> simp

@[simp] theorem updGrant_regs (n sat number : Nat) (f : Grant → Option Grant) (s : State) : (updGrant n sat number f s).regs = s.regs := by
  simp [updGrant]

@[simp] theorem leaseAck_regs (v : Via) (m : LeaseMsg) (s : State) : (leaseAck v m s).regs = s.regs := by
  simp only [leaseAck]; refine leaseFrom_regs _ _ _ _ _ fun t => ?_; (repeat' split) <;> simp

@[simp] theorem leaseRefuse_regs (v : Via) (m : LeaseMsg) (s : State) : (leaseRefuse v m s).regs = s.regs := by
  simp only [leaseRefuse]; refine leaseFrom_regs _ _ _ _ _ fun t => ?_; (repeat' split) <;> simp

@[simp] theorem mirror_regs (v : Via) (m : LeaseMsg) (s : State) : (mirror v m s).regs = s.regs := by
  simp only [mirror]; refine leaseFrom_regs _ _ _ _ _ fun t => ?_; (repeat' split) <;> simp

@[simp] theorem mirrorAck_regs (v : Via) (m : LeaseMsg) (s : State) : (mirrorAck v m s).regs = s.regs := by
  simp only [mirrorAck]; refine leaseFrom_regs _ _ _ _ _ fun t => ?_; (repeat' split) <;> simp

@[simp] theorem leaseQuery_regs (v : Via) (m : LeaseMsg) (s : State) : (leaseQuery v m s).regs = s.regs := by
  simp only [leaseQuery]; refine leaseFrom_regs _ _ _ _ _ fun t => ?_; (repeat' split) <;> simp

@[simp] theorem leaseState_regs (v : Via) (m : LeaseMsg) (s : State) : (leaseState v m s).regs = s.regs := by
  simp only [leaseState]; refine leaseFrom_regs _ _ _ _ _ fun t => ?_; (repeat' split) <;> simp

@[simp] theorem leaseReturn_regs (v : Via) (m : LeaseMsg) (s : State) : (leaseReturn v m s).regs = s.regs := by
  simp only [leaseReturn]; refine leaseFrom_regs _ _ _ _ _ fun t => ?_; (repeat' split) <;> simp

@[simp] theorem leaseRequestRepeat_regs (n : Nat) (s : State) : (leaseRequestRepeat n s).regs = s.regs := by
  simp only [leaseRequestRepeat]; (repeat' split) <;> simp

@[simp] theorem leaseDeadline_regs (n number : Nat) (s : State) : (leaseDeadline n number s).regs = s.regs := by
  simp only [leaseDeadline]; (repeat' split) <;> simp

@[simp] theorem standbyAckTimeout_regs (n number : Nat) (s : State) : (standbyAckTimeout n number s).regs = s.regs := by
  simp only [standbyAckTimeout]; (repeat' split) <;> simp

/-! Outside -/

@[simp] theorem spdmRequest_regs (doe pecOk : Bool) (sessions : Nat) (s : State) : (spdmRequest doe pecOk sessions s).regs = s.regs := by
  simp only [spdmRequest]; split <;> simp

@[simp] theorem tapAccess_regs (code : Nat) (data : Bytes) (s : State) : (tapAccess code data s).regs = s.regs := by
  simp only [tapAccess]; (repeat' split) <;> simp

/-! Release -/

@[simp] theorem makeLive_regs (n : Nat) (s : State) : (makeLive n s).regs = s.regs := by
  simp only [makeLive]; (repeat' split) <;> simp

@[simp] theorem dropStaged_regs (n : Nat) (s : State) : (dropStaged n s).regs = s.regs := by
  simp only [dropStaged]; (repeat' split) <;> simp

@[simp] theorem dropStf_regs (n : Nat) (s : State) : (dropStf n s).regs = s.regs := by simp [dropStf]

@[simp] theorem dropBuffer_regs (h : Nat) (s : State) : (dropBuffer h s).regs = s.regs := by
  simp only [dropBuffer]; split <;> simp

@[simp] theorem liftCap_regs (s : State) (n first : Nat) : (liftCap s n first).regs = s.regs := by simp [liftCap]

@[simp] theorem applyEffect_regs (s : State) (a1 : Effect) : (applyEffect s a1).regs = s.regs := by
  simp only [applyEffect]; (repeat' split) <;> simp

@[simp] theorem undoEffect_regs (s : State) (a1 : Effect) : (undoEffect s a1).regs = s.regs := by
  simp only [undoEffect]; split <;> simp

@[simp] theorem spoilDirect_regs (o : Op) (st : Status) (s : State) : (spoilDirect o st s).regs = s.regs := by
  simp only [spoilDirect]; (repeat' split) <;> simp

@[simp] theorem spoilRunning_regs (s : State) : (spoilRunning s).regs = s.regs := by simp [spoilRunning]

@[simp] theorem releaseMarks_regs (o : Op) (st : Status) (s : State) : (releaseMarks o st s).regs = s.regs := by
  simp only [releaseMarks]; (repeat' split) <;> simp

@[simp] theorem abandonGroupKey_regs (id : Nat) (s : State) : (abandonGroupKey id s).regs = s.regs := by simp [abandonGroupKey]

@[simp] theorem releaseWith_regs (o : Op) (st : Status) (s : State) : (releaseWith o st s).regs = s.regs := by
  simp only [releaseWith]; (repeat' split) <;> simp

@[simp] theorem countExtended_regs (o : Op) (s : State) : (countExtended o s).regs = s.regs := by
  simp only [countExtended]; split <;> simp

@[simp] theorem release_regs (id : Nat) (s : State) : (release id s).regs = s.regs := by
  simp only [release]; (repeat' split) <;> simp

@[simp] theorem watchdog_regs (id : Nat) (s : State) : (watchdog id s).regs = s.regs := by
  simp only [watchdog]; (repeat' split) <;> simp

@[simp] theorem retryLimit_regs (opcode off id : Nat) (count : State → State) (s : State) (h : ∀ t, (count t).regs = t.regs) :
    (retryLimit opcode off id count s).regs = s.regs := by
  simp only [retryLimit]; (repeat' split) <;> simp [h]

@[simp] theorem cmRetryLimit_regs (id : Nat) (s : State) : (cmRetryLimit id s).regs = s.regs := by simp [cmRetryLimit]

@[simp] theorem rsaRetryLimit_regs (id : Nat) (s : State) : (rsaRetryLimit id s).regs = s.regs := by simp [rsaRetryLimit]

@[simp] theorem dirtyUnits_regs (o : Op) (s : State) : (dirtyUnits o s).regs = s.regs := by simp [dirtyUnits]

@[simp] theorem cancelCheckpoint_regs (id : Nat) (s : State) : (cancelCheckpoint id s).regs = s.regs := by
  simp only [cancelCheckpoint]; (repeat' split) <;> simp

@[simp] theorem abortRelease_regs (id : Nat) (s : State) : (abortRelease id s).regs = s.regs := by
  simp only [abortRelease]; (repeat' split) <;> simp

@[simp] theorem rollbackMember_regs (s : State) (m : GroupMember) : (rollbackMember s m).regs = s.regs := by
  simp only [rollbackMember]; (repeat' split) <;> simp

@[simp] theorem commitMember_regs (s : State) (m : GroupMember) : (commitMember s m).regs = s.regs :=
  foldl_regs _ (fun t e => by dsimp only; (repeat' split) <;> simp) _ s

@[simp] theorem writeOutputs_regs (cs : List Completion) (s : State) : (writeOutputs cs s).2.regs = s.regs := by
  have keep : ∀ (cs : List Completion) (acc : List Completion × State),
      (cs.foldl (fun acc c => let r := commitData .ok c acc.2; (acc.1 ++ r.1, r.2)) acc).2.regs = acc.2.regs := by
    intro cs
    induction cs with
    | nil => exact fun _ => rfl
    | cons c cs ih => exact fun acc => (ih _).trans (commitData_regs _ c _)
  exact keep cs _

@[simp] theorem rollBack_regs (g : Group) (id : Nat) (st : Status) (s : State) : (rollBack g id st s).2.regs = s.regs := by simp [rollBack]

@[simp] theorem failOutput_regs (g : Group) (k : Nat) (st : Status) (s : State) : (failOutput g k st s).2.regs = s.regs := by
  simp only [failOutput]; split <;> simp

@[simp] theorem groupOutcome_regs (g : Group) (k : Nat) (st : Status) (s : State) : (groupOutcome g k st s).2.1.regs = s.regs := by
  simp only [groupOutcome]; (repeat' split) <;> simp

@[simp] theorem finishGroup_regs (n : Nat) (g : Group) (cs : List Completion) (s : State) : (finishGroup n g cs s).regs = s.regs := by
  simp [finishGroup]

@[simp] theorem groupCommit_regs (n : Nat) (st : Status) (k : Nat) (s : State) : (groupCommit n st k s).regs = s.regs := by
  simp only [groupCommit]; (repeat' split) <;> simp

/-! Path -/

@[simp] theorem engineEnd_regs (id : Nat) (s : State) : (engineEnd id s).regs = s.regs := by
  simp only [engineEnd]; (repeat' split) <;> simp

@[simp] theorem faultMessage_regs (wire : Nat) (s : State) : (faultMessage wire s).regs = s.regs := by simp [faultMessage]

/-! Resets -/

@[simp] theorem resetVault_regs (s : State) : (resetVault s).regs = s.regs := by simp [resetVault]

@[simp] theorem wipeRunning_regs (s : State) : (wipeRunning s).regs = s.regs := by simp [wipeRunning]

@[simp] theorem flrDrop_regs (s : State) : (flrDrop s).regs = s.regs := by simp [flrDrop]

@[simp] theorem flrFree_regs (s : State) : (flrFree s).regs = s.regs := by simp [flrFree]

@[simp] theorem flrMode_regs (s : State) : (flrMode s).regs = s.regs := by
  simp only [flrMode]; split <;> simp

@[simp] theorem flrHandover_regs (s : State) : (flrHandover s).regs = s.regs := by
  simp only [flrHandover]; split <;> simp

@[simp] theorem setUp_regs (step : Nat) (s : State) : (setUp step s).regs = s.regs := by simp [setUp]

@[simp] theorem bootFail_regs (code : Nat) (s : State) : (bootFail code s).regs = s.regs := by simp [bootFail]

@[simp] theorem bootStart_regs (s : State) : (bootStart s).regs = s.regs := by simp [bootStart]

@[simp] theorem bootCheckers_regs (bad : List Nat) (s : State) : (bootCheckers bad s).regs = s.regs := by simp [bootCheckers]

@[simp] theorem bootOtp_regs (b : BootInput) (s : State) : (bootOtp b s).regs = s.regs := by simp [bootOtp]

@[simp] theorem decodeNow_regs (s : State) : (decodeNow s).regs = s.regs := by simp [decodeNow]

@[simp] theorem bootMarker_regs (s : State) : (bootMarker s).regs = s.regs := by
  simp only [bootMarker]; (repeat' split) <;> simp

@[simp] theorem bootEntropy_regs (b : BootInput) (s : State) : (bootEntropy b s).regs = s.regs := by
  simp only [bootEntropy]; (repeat' split) <;> simp

@[simp] theorem bootFlash_regs (b : BootInput) (s : State) : (bootFlash b s).regs = s.regs := by
  simp only [bootFlash]; (repeat' split) <;> simp

@[simp] theorem recoveryHold_regs (s : State) : (recoveryHold s).regs = s.regs := by simp [recoveryHold]

@[simp] theorem bootBank_regs (b : BootInput) (s : State) : (bootBank b s).regs = s.regs := by
  simp only [bootBank]; (repeat' split) <;> simp

@[simp] theorem bootSet_regs (b : BootInput) (s : State) : (bootSet b s).regs = s.regs := by
  simp only [bootSet]; (repeat' split) <;> simp

@[simp] theorem bootTests_regs (kat : List (Nat × Nat)) (s : State) : (bootTests kat s).regs = s.regs := by
  simp only [bootTests]; split <;> simp

@[simp] theorem bootConfirm_regs (b : BootInput) (s : State) : (bootConfirm b s).regs = s.regs := by
  simp only [bootConfirm]; (repeat' split) <;> simp

@[simp] theorem restoreBlob_regs (bad : List Nat) (s : State) (e : Nat × Blob) : (restoreBlob bad s e).regs = s.regs := by
  simp only [restoreBlob]; (repeat' split) <;> simp

@[simp] theorem restoreSlots_regs (bad : List Nat) (s : State) : (restoreSlots bad s).regs = s.regs := by simp [restoreSlots]

@[simp] theorem wantLeases_regs (s : State) : (wantLeases s).regs = s.regs := by simp [wantLeases]

@[simp] theorem startPorts_regs (s : State) : (startPorts s).regs = s.regs := by simp [startPorts]

@[simp] theorem bootEnd_regs (b : BootInput) (s : State) : (bootEnd b s).regs = s.regs := by
  simp only [bootEnd]; split <;> simp

@[simp] theorem bootFirmware_regs (b : BootInput) (s : State) : (bootFirmware b s).regs = s.regs := by
  simp only [bootFirmware]; split <;> simp

@[simp] theorem fwStartTimeout_regs (s : State) : (fwStartTimeout s).regs = s.regs := by
  simp only [fwStartTimeout]; split <;> simp

/-! RegWrite -/

@[simp] theorem beatLoRead_regs (s : State) : (beatLoRead s).regs = s.regs := by
  simp only [beatLoRead]; split <;> simp

@[simp] theorem bar2Word_regs (off w : Nat) (s : State) : (bar2Word off w s).regs = s.regs := by
  simp only [bar2Word]; (repeat' split) <;> simp

end Sys2Proof.Machine
end

section
/-! SUPPORT. LOCK bits of a register file, and the rows of the catalogue that keep them. -/
namespace Sys2Proof.Machine

/-! #### LOCK bits -/

/-- The register at an offset of the table holds a LOCK bit. -/
def hasLock (off : Nat) : Bool := (regAt off).any (fun g => g.lock == some off)

/-- The LOCK bit of a register of a register file. -/
def lockBit (regs : List (Nat × Word)) (off : Nat) : Bool := bit ((lookup off regs).getD 0).toNat 31

/-- Every LOCK bit that is set in `a` is set in `b`. -/
def LocksKept (a b : List (Nat × Word)) : Prop := ∀ off, hasLock off = true → lockBit a off = true → lockBit b off = true

@[simp] theorem LocksKept.refl (a : List (Nat × Word)) : LocksKept a a := fun _ _ h => h

theorem LocksKept.trans {a b c : List (Nat × Word)} (h : LocksKept a b) (k : LocksKept b c) : LocksKept a c :=
  fun off ho hb => k off ho (h off ho hb)

/-- A run keeps every LOCK bit that is set in `regs`, and so does what follows it. -/
structure Run.LocksKept (r : Run) (regs : List (Nat × Word)) : Prop where
  st : Machine.LocksKept regs r.st.regs
  post : ∀ t, Machine.LocksKept t.regs (r.post t).regs
  onFail : ∀ t, Machine.LocksKept t.regs (r.onFail t).regs

@[simp] theorem Run.locksKept_iff (r : Run) (regs : List (Nat × Word)) :
    r.LocksKept regs ↔ Machine.LocksKept regs r.st.regs ∧ (∀ t, Machine.LocksKept t.regs (r.post t).regs)
      ∧ ∀ t, Machine.LocksKept t.regs (r.onFail t).regs :=
  ⟨fun h => ⟨h.st, h.post, h.onFail⟩, fun h => ⟨h.1, h.2.1, h.2.2⟩⟩

/-- An opcode's run, and what a failure before dispatch leaves, keep every LOCK bit that is set. -/
structure OpSpec.LocksKept (sp : OpSpec) : Prop where
  run : ∀ s o i, (sp.run s o i).LocksKept s.regs
  early : ∀ st o s, Machine.LocksKept s.regs (sp.early st o s).regs

@[simp] theorem ringCreateSpec_locksKept : ringCreateSpec.LocksKept := by
  refine ⟨fun s o i => ?_, fun _ _ _ => .refl _⟩; simp only [ringCreateSpec]; (repeat' split) <;> simp

@[simp] theorem ringDestroySpec_locksKept : ringDestroySpec.LocksKept := by
  refine ⟨fun s o i => ?_, fun _ _ _ => .refl _⟩; simp only [ringDestroySpec]; split <;> simp

@[simp] theorem ringCancelSpec_locksKept : ringCancelSpec.LocksKept := by
  refine ⟨fun s o i => ?_, fun _ _ _ => .refl _⟩; simp only [ringCancelSpec]; (repeat' split) <;> simp

@[simp] theorem faultAckSpec_locksKept : faultAckSpec.LocksKept := by
  refine ⟨fun s o i => ?_, fun _ _ _ => .refl _⟩; simp [faultAckSpec]

@[simp] theorem startGroupKey_after (s : State) (o : Op) (k : KeySlot) (stf : Option StfKey) (opdata : Bytes) (u : State) :
    ((startGroupKey s o k stf opdata).post u).regs = u.regs ∧ ((startGroupKey s o k stf opdata).onFail u).regs = u.regs := by
  simp only [startGroupKey]; split
  · exact ⟨rfl, rfl⟩
  · refine ⟨?_, rfl⟩; dsimp only; (repeat' split) <;> simp

@[simp] theorem createNow_after (s : State) (o : Op) (i : OpInput) (k : NewKey) (u : State) :
    ((createNow s o i k).post u).regs = u.regs ∧ ((createNow s o i k).onFail u).regs = u.regs := by
  simp only [createNow]; (repeat' split) <;> simp

@[simp] theorem createStaged_after (s : State) (o : Op) (i : OpInput) (k : NewKey) (u : State) :
    ((createStaged s o i k).post u).regs = u.regs ∧ ((createStaged s o i k).onFail u).regs = u.regs := by
  simp only [createStaged]; (repeat' split) <;> simp

@[simp] theorem effectNow_after (s : State) (o : Op) (e : KvEffect) (u : State) :
    ((effectNow s o e).post u).regs = u.regs ∧ ((effectNow s o e).onFail u).regs = u.regs := by
  simp only [effectNow]; split
  · exact ⟨rfl, rfl⟩
  · refine ⟨?_, rfl⟩; dsimp only; (repeat' split) <;> simp

@[simp] theorem bufCreateSpec_locksKept : bufCreateSpec.LocksKept := by
  refine ⟨fun s o i => ?_, fun _ _ _ => .refl _⟩; simp only [bufCreateSpec]; split <;> simp

@[simp] theorem bufLoadSpec_locksKept : bufLoadSpec.LocksKept := by
  refine ⟨fun s o i => ?_, fun _ _ _ => .refl _⟩; simp [bufLoadSpec]

@[simp] theorem bufFreeSpec_locksKept : bufFreeSpec.LocksKept := by
  refine ⟨fun s o i => ?_, fun _ _ _ => .refl _⟩; simp [bufFreeSpec]

@[simp] theorem stfKeygenSpec_locksKept : stfKeygenSpec.LocksKept := by
  refine ⟨fun s o i => ?_, fun _ _ _ => .refl _⟩; simp only [stfKeygenSpec]; (repeat' split) <;> simp

@[simp] theorem stfSignSpec_locksKept : stfSignSpec.LocksKept := by
  refine ⟨fun s o i => ?_, fun _ _ _ => .refl _⟩; simp only [stfSignSpec]; (repeat' split) <;> simp

@[simp] theorem stfVerifySpec_locksKept : stfVerifySpec.LocksKept := by
  refine ⟨fun s o i => ?_, fun _ _ _ => .refl _⟩; simp [stfVerifySpec]

@[simp] theorem stfSplitSpec_locksKept : stfSplitSpec.LocksKept := by
  refine ⟨fun s o i => ?_, fun _ _ _ => .refl _⟩; simp only [stfSplitSpec]; (repeat' split) <;> simp

@[simp] theorem stfStatusSpec_locksKept : stfStatusSpec.LocksKept := by
  refine ⟨fun s o i => ?_, fun _ _ _ => .refl _⟩; simp [stfStatusSpec]

@[simp] theorem sealedImportRun_after (s : State) (o : Op) (i : OpInput) (u : State) :
    ((sealedImportRun s o i).post u).regs = u.regs ∧ ((sealedImportRun s o i).onFail u).regs = u.regs := by
  simp only [sealedImportRun]; (repeat' split) <;> simp

@[simp] theorem importWrappedRun_after (s : State) (o : Op) (i : OpInput) (u : State) :
    ((importWrappedRun s o i).post u).regs = u.regs ∧ ((importWrappedRun s o i).onFail u).regs = u.regs := by
  simp only [importWrappedRun]; (repeat' split) <;> simp

@[simp] theorem importWrappedSpec_locksKept : importWrappedSpec.LocksKept := by
  refine ⟨fun s o i => ?_, fun _ _ _ => .refl _⟩; simp only [importWrappedSpec]; split <;> simp

@[simp] theorem importPublicSpec_locksKept : importPublicSpec.LocksKept := by
  refine ⟨fun s o i => ?_, fun _ _ _ => .refl _⟩; simp only [importPublicSpec]; split <;> simp

@[simp] theorem generateSpec_locksKept : generateSpec.LocksKept := by
  refine ⟨fun s o i => ?_, fun _ _ _ => .refl _⟩; simp [generateSpec]

@[simp] theorem deriveSpec_locksKept : deriveSpec.LocksKept := by
  refine ⟨fun s o i => ?_, fun _ _ _ => .refl _⟩; simp [deriveSpec]

@[simp] theorem exportWrappedSpec_locksKept : exportWrappedSpec.LocksKept := by
  refine ⟨fun s o i => ?_, fun _ _ _ => .refl _⟩; simp [exportWrappedSpec]

@[simp] theorem exportPublicSpec_locksKept : exportPublicSpec.LocksKept := by
  refine ⟨fun s o i => ?_, fun _ _ _ => .refl _⟩; simp [exportPublicSpec]

@[simp] theorem setAttrSpec_locksKept : setAttrSpec.LocksKept := by
  refine ⟨fun s o i => ?_, fun _ _ _ => .refl _⟩; simp only [setAttrSpec]; (repeat' split) <;> simp

@[simp] theorem invalidateSpec_locksKept : invalidateSpec.LocksKept := by
  refine ⟨fun s o i => ?_, fun _ _ _ => .refl _⟩; simp [invalidateSpec]

@[simp] theorem persistSpec_locksKept : persistSpec.LocksKept := by
  refine ⟨fun s o i => ?_, fun _ _ _ => .refl _⟩; simp only [persistSpec]; (repeat' split) <;> simp

@[simp] theorem destroySpec_locksKept : destroySpec.LocksKept := by
  refine ⟨fun s o i => ?_, fun _ _ _ => .refl _⟩; simp [destroySpec]

@[simp] theorem randomSpec_locksKept : randomSpec.LocksKept := by
  refine ⟨fun s o i => ?_, fun _ _ _ => .refl _⟩; simp [randomSpec]

@[simp] theorem slhKeygenSpec_locksKept : slhKeygenSpec.LocksKept := by
  have top : ∀ (c : Option Nat) (set : Nat) (t : State), ((c.map (fun n => takeTop n set t)).getD t).regs = t.regs := by
    intro c; cases c <;> simp
  refine ⟨fun s o i => ?_, fun _ _ _ => .refl _⟩; simp [slhKeygenSpec, top]

@[simp] theorem slhSignSpec_locksKept : slhSignSpec.LocksKept := by
  refine ⟨fun s o i => ?_, fun _ _ _ => .refl _⟩; simp only [slhSignSpec]; (repeat' split) <;> simp

@[simp] theorem slhVerifySpec_locksKept : slhVerifySpec.LocksKept := by
  refine ⟨fun s o i => ?_, fun _ _ _ => .refl _⟩; simp [slhVerifySpec]

@[simp] theorem slhPinSpec_locksKept : slhPinSpec.LocksKept := by
  refine ⟨fun s o i => ?_, fun _ _ _ => .refl _⟩; simp only [slhPinSpec]; (repeat' split) <;> simp

@[simp] theorem slhUnpinSpec_locksKept : slhUnpinSpec.LocksKept := by
  refine ⟨fun s o i => ?_, fun _ _ _ => .refl _⟩; simp only [slhUnpinSpec]; split <;> simp

@[simp] theorem treeBuildSpec_locksKept : treeBuildSpec.LocksKept := by
  refine ⟨fun s o i => ?_, fun _ _ _ => .refl _⟩; simp [treeBuildSpec]

@[simp] theorem treeReducedSpec_locksKept : treeReducedSpec.LocksKept := by
  refine ⟨fun s o i => ?_, fun _ _ _ => .refl _⟩; simp only [treeReducedSpec]; split <;> simp

@[simp] theorem injectSpec_locksKept : injectSpec.LocksKept := by
  refine ⟨fun s o i => ?_, fun _ _ _ => .refl _⟩; simp [injectSpec]

@[simp] theorem injectArmSpec_locksKept : injectArmSpec.LocksKept := ⟨injectSpec_locksKept.run, injectSpec_locksKept.early⟩

@[simp] theorem injectDisarmSpec_locksKept : injectDisarmSpec.LocksKept := ⟨injectSpec_locksKept.run, injectSpec_locksKept.early⟩

@[simp] theorem charterLoadSpec_locksKept : charterLoadSpec.LocksKept := by
  refine ⟨fun s o i => ?_, fun _ _ _ => .refl _⟩; simp only [charterLoadSpec]; (repeat' split) <;> simp

@[simp] theorem groupControlRun_after (s : State) (o : Op) (u : State) :
    ((groupControlRun s o).post u).regs = u.regs ∧ ((groupControlRun s o).onFail u).regs = u.regs := by
  simp only [groupControlRun]; (repeat' split) <;> simp

@[simp] theorem groupControlSpec_locksKept : groupControlSpec.LocksKept := by
  refine ⟨fun s o i => ?_, fun _ _ _ => .refl _⟩; simp [groupControlSpec]

@[simp] theorem groupRow_locksKept (op : Nat) : (groupRow op).LocksKept := ⟨groupControlSpec_locksKept.run, groupControlSpec_locksKept.early⟩

@[simp] theorem secretOut_after (s : State) (o : Op) (i : OpInput) (ct ss : Bytes) (keyField : Nat) (u : State) :
    ((secretOut s o i ct ss keyField).post u).regs = u.regs ∧ ((secretOut s o i ct ss keyField).onFail u).regs = u.regs := by
  simp only [secretOut]; split <;> simp

@[simp] theorem kemKeygenSpec_locksKept : kemKeygenSpec.LocksKept := by
  refine ⟨fun s o i => ?_, fun _ _ _ => .refl _⟩; simp only [kemKeygenSpec]; split <;> simp

@[simp] theorem kemEncapsSpec_locksKept : kemEncapsSpec.LocksKept := by
  refine ⟨fun s o i => ?_, fun _ _ _ => .refl _⟩; simp only [kemEncapsSpec]; split <;> simp

@[simp] theorem kemDecapsSpec_locksKept : kemDecapsSpec.LocksKept := by
  refine ⟨fun s o i => ?_, fun _ _ _ => .refl _⟩; simp only [kemDecapsSpec]; split <;> simp

@[simp] theorem mldsaKeygenSpec_locksKept : mldsaKeygenSpec.LocksKept := by
  refine ⟨fun s o i => ?_, fun _ _ _ => .refl _⟩; simp [mldsaKeygenSpec]

@[simp] theorem mldsaSignSpec_locksKept : mldsaSignSpec.LocksKept := by
  refine ⟨fun s o i => ?_, fun _ _ _ => .refl _⟩; simp [mldsaSignSpec]

@[simp] theorem mldsaVerifySpec_locksKept : mldsaVerifySpec.LocksKept := by
  refine ⟨fun s o i => ?_, fun _ _ _ => .refl _⟩; simp [mldsaVerifySpec]

@[simp] theorem fndsaVerifySpec_locksKept : fndsaVerifySpec.LocksKept := by
  refine ⟨fun s o i => ?_, fun _ _ _ => .refl _⟩; simp only [fndsaVerifySpec]; split <;> simp

@[simp] theorem cmKeygenSpec_locksKept : cmKeygenSpec.LocksKept := by
  refine ⟨fun s o i => ?_, fun _ _ _ => .refl _⟩; simp [cmKeygenSpec]

@[simp] theorem cmEncapsSpec_locksKept : cmEncapsSpec.LocksKept := by
  refine ⟨fun s o i => ?_, fun _ _ _ => .refl _⟩; simp only [cmEncapsSpec]; split <;> simp

@[simp] theorem cmDecapsSpec_locksKept : cmDecapsSpec.LocksKept := by
  refine ⟨fun s o i => ?_, fun _ _ _ => .refl _⟩; simp [cmDecapsSpec]

@[simp] theorem hqcKeygenSpec_locksKept : hqcKeygenSpec.LocksKept := by
  refine ⟨fun s o i => ?_, fun _ _ _ => .refl _⟩; simp [hqcKeygenSpec]

@[simp] theorem hqcEncapsSpec_locksKept : hqcEncapsSpec.LocksKept := by
  refine ⟨fun s o i => ?_, fun _ _ _ => .refl _⟩; simp [hqcEncapsSpec]

@[simp] theorem hqcDecapsSpec_locksKept : hqcDecapsSpec.LocksKept := by
  refine ⟨fun s o i => ?_, fun _ _ _ => .refl _⟩; simp [hqcDecapsSpec]

@[simp] theorem streamOpenSpec_locksKept : streamOpenSpec.LocksKept := by
  refine ⟨fun s o i => ?_, fun _ _ _ => .refl _⟩; simp only [streamOpenSpec]; split <;> simp

@[simp] theorem streamFeedSpec_locksKept : streamFeedSpec.LocksKept := by
  refine ⟨fun s o i => ?_, fun _ _ _ => .refl _⟩; simp only [streamFeedSpec]; split <;> simp

@[simp] theorem streamTailSpec_locksKept : streamTailSpec.LocksKept := by
  refine ⟨fun s o i => ?_, fun st o s => ?_⟩ <;> simp only [streamTailSpec] <;> (repeat' split) <;> simp

@[simp] theorem streamSaveSpec_locksKept : streamSaveSpec.LocksKept := by
  refine ⟨fun s o i => ?_, fun _ _ _ => .refl _⟩; simp only [streamSaveSpec]; split <;> simp

@[simp] theorem streamRestoreSpec_locksKept : streamRestoreSpec.LocksKept := by
  refine ⟨fun s o i => ?_, fun _ _ _ => .refl _⟩; simp only [streamRestoreSpec]; (repeat' split) <;> simp

@[simp] theorem digestSpec_locksKept : digestSpec.LocksKept := by
  refine ⟨fun s o i => ?_, fun _ _ _ => .refl _⟩; simp [digestSpec]

@[simp] theorem digestCompareSpec_locksKept : digestCompareSpec.LocksKept := by
  refine ⟨fun s o i => ?_, fun _ _ _ => .refl _⟩; simp [digestCompareSpec]

@[simp] theorem macSpec_locksKept : macSpec.LocksKept := by
  refine ⟨fun s o i => ?_, fun _ _ _ => .refl _⟩; simp [macSpec]

@[simp] theorem macCompareSpec_locksKept : macCompareSpec.LocksKept := by
  refine ⟨fun s o i => ?_, fun _ _ _ => .refl _⟩; simp [macCompareSpec]

@[simp] theorem gcmEncryptSpec_locksKept : gcmEncryptSpec.LocksKept := by
  refine ⟨fun s o i => ?_, fun _ _ _ => .refl _⟩; simp [gcmEncryptSpec]

@[simp] theorem gcmDecryptSpec_locksKept : gcmDecryptSpec.LocksKept := by
  refine ⟨fun s o i => ?_, fun _ _ _ => .refl _⟩; simp only [gcmDecryptSpec]; split <;> simp

@[simp] theorem checkedKey_after (s : State) (o : Op) (i : OpInput) (r : Run) (u : State)
    (h : (r.post u).regs = u.regs ∧ (r.onFail u).regs = u.regs) :
    ((checkedKey s o i r).post u).regs = u.regs ∧ ((checkedKey s o i r).onFail u).regs = u.regs := by
  simp only [checkedKey]; split <;> simp [h]

@[simp] theorem ecKeygenSpec_locksKept : ecKeygenSpec.LocksKept := by
  refine ⟨fun s o i => ?_, fun _ _ _ => .refl _⟩; simp only [ecKeygenSpec]; split <;> simp

@[simp] theorem ecdsaSignSpec_locksKept : ecdsaSignSpec.LocksKept := by
  refine ⟨fun s o i => ?_, fun _ _ _ => .refl _⟩; simp [ecdsaSignSpec]

@[simp] theorem ecdsaVerifySpec_locksKept : ecdsaVerifySpec.LocksKept := by
  refine ⟨fun s o i => ?_, fun _ _ _ => .refl _⟩; simp only [ecdsaVerifySpec]; split <;> simp

@[simp] theorem eddsaSignSpec_locksKept : eddsaSignSpec.LocksKept := by
  refine ⟨fun s o i => ?_, fun _ _ _ => .refl _⟩; simp [eddsaSignSpec]

@[simp] theorem eddsaVerifySpec_locksKept : eddsaVerifySpec.LocksKept := by
  refine ⟨fun s o i => ?_, fun _ _ _ => .refl _⟩; simp only [eddsaVerifySpec]; split <;> simp

@[simp] theorem ecdhSpec_locksKept : ecdhSpec.LocksKept := by
  refine ⟨fun s o i => ?_, fun _ _ _ => .refl _⟩; simp only [ecdhSpec]; split <;> simp

@[simp] theorem rsaKeygenSpec_locksKept : rsaKeygenSpec.LocksKept := by
  refine ⟨fun s o i => ?_, fun _ _ _ => .refl _⟩; simp [rsaKeygenSpec]

@[simp] theorem rsaSignSpec_locksKept : rsaSignSpec.LocksKept := by
  refine ⟨fun s o i => ?_, fun _ _ _ => .refl _⟩; simp [rsaSignSpec]

@[simp] theorem rsaVerifySpec_locksKept : rsaVerifySpec.LocksKept := by
  refine ⟨fun s o i => ?_, fun _ _ _ => .refl _⟩; simp only [rsaVerifySpec]; split <;> simp

@[simp] theorem rsaEncryptSpec_locksKept : rsaEncryptSpec.LocksKept := by
  refine ⟨fun s o i => ?_, fun _ _ _ => .refl _⟩; simp only [rsaEncryptSpec]; split <;> simp

@[simp] theorem rsaDecryptSpec_locksKept : rsaDecryptSpec.LocksKept := by
  refine ⟨fun s o i => ?_, fun _ _ _ => .refl _⟩; simp only [rsaDecryptSpec]; split <;> simp

@[simp] theorem dsaVerifySpec_locksKept : dsaVerifySpec.LocksKept := by
  refine ⟨fun s o i => ?_, fun _ _ _ => .refl _⟩; simp only [dsaVerifySpec]; split <;> simp

/-! #### Parts of compound operations -/

theorem signSpec_locksKept (suite : Nat) : (signSpec suite).LocksKept := by
  simp only [signSpec]; split <;> simp

theorem verifySpec_locksKept (suite : Nat) : (verifySpec suite).LocksKept := by
  simp only [verifySpec]; (repeat' split) <;> simp

theorem signPart_locksKept (s : State) (o : Op) (i : OpInput) (suite det key : Nat) (m : Bytes) :
    (signPart s o i suite det key m).LocksKept s.regs := (signSpec_locksKept suite).run _ _ _

/-- The second part of a composite signature starts where the first ends. -/
theorem compositeSign_locksKept (s : State) (o : Op) (i : OpInput) (suite det : Nat) (ctx m : Bytes) :
    (compositeSign s o i suite det ctx m).LocksKept s.regs := by
  have parts := fun k p k' q => (signPart_locksKept s o i (pairOf suite).1 det k p).st.trans
    (signPart_locksKept (signPart s o i (pairOf suite).1 det k p).st o i (pairOf suite).2 det k' q).st
  simp only [compositeSign]
  split <;> simp [parts]

@[simp] theorem compositeSignSpec_locksKept : compositeSignSpec.LocksKept :=
  ⟨fun s o i => compositeSign_locksKept s o i _ _ _ _, fun _ _ _ => .refl _⟩

@[simp] theorem compositeVerifySpec_locksKept : compositeVerifySpec.LocksKept := by
  refine ⟨fun s o i => ?_, fun _ _ _ => .refl _⟩; simp [compositeVerifySpec]

theorem oldSpec_locksKept (suite : Nat) : (oldSpec suite).LocksKept := by
  simp only [oldSpec]; split
  · exact compositeVerifySpec_locksKept
  · exact verifySpec_locksKept suite

/-- A re-attestation verifies the old signature and signs the statement from where that ends. -/
@[simp] theorem reattestSpec_locksKept : reattestSpec.LocksKept := by
  refine ⟨fun s o i => ?_, fun _ _ _ => .refl _⟩
  have old := ((oldSpec_locksKept o.desc.suite).run s (oldOp o) i).st
  have one := fun t suite det k m => (signPart_locksKept t o i suite det k m).st
  have two := fun t suite det c m => (compositeSign_locksKept t o i suite det c m).st
  simp only [reattestSpec]
  (repeat' split) <;> simp [old, old.trans (one _ _ _ _ _), old.trans (two _ _ _ _ _)]

@[simp] theorem instCreateSpec_locksKept : instCreateSpec.LocksKept := by
  refine ⟨fun s o i => ?_, fun _ _ _ => .refl _⟩; simp only [instCreateSpec]; split <;> simp

@[simp] theorem instSetShareSpec_locksKept : instSetShareSpec.LocksKept := by
  refine ⟨fun s o i => ?_, fun _ _ _ => .refl _⟩; simp only [instSetShareSpec]; split <;> simp

@[simp] theorem instResetSpec_locksKept : instResetSpec.LocksKept := by
  refine ⟨fun s o i => ?_, fun _ _ _ => .refl _⟩; simp only [instResetSpec]; (repeat' split) <;> simp

@[simp] theorem instRemoveSpec_locksKept : instRemoveSpec.LocksKept := by
  refine ⟨fun s o i => ?_, fun _ _ _ => .refl _⟩; simp only [instRemoveSpec]; split <;> simp

@[simp] theorem modeSetSpec_locksKept : modeSetSpec.LocksKept := by
  refine ⟨fun s o i => ?_, fun _ _ _ => .refl _⟩; simp only [modeSetSpec]; (repeat' split) <;> simp

@[simp] theorem modeSetRow_locksKept (t : Nat) : (modeSetRow t).LocksKept := ⟨modeSetSpec_locksKept.run, modeSetSpec_locksKept.early⟩

@[simp] theorem reinitSpec_locksKept : reinitSpec.LocksKept := by
  refine ⟨fun s o i => ?_, fun _ _ _ => .refl _⟩; simp [reinitSpec]

@[simp] theorem runTransition_after (t : Token) (cut : Option Cut) (s u : State) :
    ((runTransition t cut s).post u).regs = u.regs ∧ ((runTransition t cut s).onFail u).regs = u.regs := by
  unfold runTransition
  extract_lets
  split; · exact ⟨rfl, rfl⟩
  split
  extract_lets
  (repeat' split) <;> exact ⟨rfl, rfl⟩

@[simp] theorem transitionRun_after (t : Token) (reasons : List (Nat × Status)) (i : OpInput) (s u : State) :
    ((transitionRun t reasons i s).post u).regs = u.regs ∧ ((transitionRun t reasons i s).onFail u).regs = u.regs := by
  simp only [transitionRun]; (repeat' split) <;> simp

@[simp] theorem lcTransitionSpec_locksKept : lcTransitionSpec.LocksKept := by
  refine ⟨fun s o i => ?_, fun _ _ _ => .refl _⟩; simp only [lcTransitionSpec]; split <;> simp

@[simp] theorem zeroiseSpec_locksKept : zeroiseSpec.LocksKept := by
  refine ⟨fun s o i => ?_, fun _ _ _ => .refl _⟩; simp only [zeroiseSpec]; (repeat' split) <;> simp

@[simp] theorem openSession_after (t : Token) (s u : State) :
    ((openSession t s).post u).regs = u.regs ∧ ((openSession t s).onFail u).regs = u.regs := by
  simp only [openSession]; split <;> simp

@[simp] theorem debugDo_after (mode : Nat) (record : Bytes) (s u : State) :
    ((debugDo mode record s).post u).regs = u.regs ∧ ((debugDo mode record s).onFail u).regs = u.regs := by
  simp only [debugDo]; (repeat' split) <;> simp

@[simp] theorem debugSpec_locksKept (mode : Nat) : (debugSpec mode).LocksKept := by
  refine ⟨fun s o i => ?_, fun _ _ _ => .refl _⟩; simp only [debugSpec]; split <;> simp

@[simp] theorem refuse_after (s : State) (st : Status) (r : Nat) (u : State) :
    ((refuse s st r).post u).regs = u.regs ∧ ((refuse s st r).onFail u).regs = u.regs := by
  simp [refuse]

@[simp] theorem recordLost_after (s u : State) : ((recordLost s).post u).regs = u.regs ∧ ((recordLost s).onFail u).regs = u.regs := by
  simp [recordLost]

@[simp] theorem stageSteps_after (o : Op) (i : OpInput) (s u : State) :
    ((stageSteps o i s).post u).regs = u.regs ∧ ((stageSteps o i s).onFail u).regs = u.regs := by
  simp only [stageSteps]; (repeat' split) <;> simp

@[simp] theorem updateStageSpec_locksKept : updateStageSpec.LocksKept := by
  refine ⟨fun s o i => ?_, fun _ _ _ => .refl _⟩; simp only [updateStageSpec]; (repeat' split) <;> simp

@[simp] theorem activateRun_after (s : State) (o : Op) (i : OpInput) (u : State) :
    ((activateRun s o i).post u).regs = u.regs ∧ ((activateRun s o i).onFail u).regs = u.regs := by
  simp only [activateRun]; (repeat' split) <;> simp

@[simp] theorem activateSpec_locksKept : activateSpec.LocksKept := by
  refine ⟨fun s o i => ?_, fun _ _ _ => .refl _⟩; simp [activateSpec]

@[simp] theorem activateHitless_locksKept : activateHitless.LocksKept := ⟨activateSpec_locksKept.run, activateSpec_locksKept.early⟩

@[simp] theorem activateReset_locksKept : activateReset.LocksKept := ⟨activateSpec_locksKept.run, activateSpec_locksKept.early⟩

@[simp] theorem debugAuthSpec_locksKept : debugAuthSpec.LocksKept := ⟨(debugSpec_locksKept 1).run, (debugSpec_locksKept 1).early⟩

end Sys2Proof.Machine
end

section
/-! SUPPORT. A dispatch keeps the LOCK bits where its row does. -/
namespace Sys2Proof.Machine

/-! #### Dispatch -/

/-- A direct output that overlaps its input changes the bytes of the output alone. -/
theorem spoilOverlap_locksKept (o : Op) (r : Run) (digests : Bytes) (regs : List (Nat × Word)) :
    (spoilOverlap o r digests).1.LocksKept regs ↔ r.LocksKept regs := by
  simp only [spoilOverlap]; split <;> simp

theorem dispatchEngine_locksKept {sp : OpSpec} (h : sp.LocksKept) (o : Op) (i : OpInput) (s : State) :
    LocksKept s.regs (dispatchEngine sp o i s).regs := by
  unfold dispatchEngine
  extract_lets s₁ o₁ r operands outside fails r₁ digests
  have h₁ : s₁.regs = s.regs := by
    simp only [s₁]; split <;> simp
  have hr : r.LocksKept s.regs := by
    have := h.run (updOp o₁.id (fun _ => o₁) s₁) o₁ i
    rwa [updOp_regs, h₁] at this
  have hr₁ : r₁.LocksKept s.regs := by
    simp only [r₁]; split
    · simpa [h₁] using ⟨hr.post, hr.onFail⟩
    · exact hr
  rw [← spoilOverlap_locksKept o₁ r₁ digests] at hr₁
  split
  rename_i r₂ digests₂ hx
  rw [hx] at hr₁
  extract_lets t₁ t₂ t₃ t₄
  have h₃ : t₃.regs = r₂.st.regs := by
    simp only [t₃, t₂, t₁]; split <;> simp
  have h₄ : LocksKept s.regs t₄.regs := by
    simp only [t₄]; split
    · rw [h₃]; exact hr₁.st
    · exact (h₃ ▸ hr₁.st).trans (hr₁.onFail t₃)
  split
  · exact h₄.trans (hr₁.post t₄)
  · rwa [unAsk_regs]

theorem dispatchManagement_locksKept {sp : OpSpec} (h : sp.LocksKept) (o : Op) (i : OpInput) (s : State) :
    LocksKept s.regs (dispatchManagement sp o i s).regs := by
  have run := fun p => (h.run (updOp o.id (fun _ => p) s) p i).st
  simp only [updOp_regs] at run
  simp only [dispatchManagement]
  split <;> simpa using run _

@[simp] theorem dispatchAs_locksKept {sp : OpSpec} (h : sp.LocksKept) (id : Nat) (i : OpInput) (s : State) :
    LocksKept s.regs (dispatchAs sp id i s).regs := by
  simp only [dispatchAs]
  split
  · exact .refl _
  · split
    · exact .refl _
    · split
      · rw [endEarly_regs]; exact h.early _ _ s
      · split
        · exact dispatchManagement_locksKept h _ i s
        · exact dispatchEngine_locksKept h _ i s

end Sys2Proof.Machine
end

section
/-! SUPPORT. The writes of single registers: fields lie below the LOCK bit (00_scope R7, R8). -/
namespace Sys2Proof.Machine

/-! #### LOCK bits as numbers -/

/-- Numbers that agree from bit 31 on agree in bit 31. -/
theorem bit31_congr {x y : Nat} (h : x / 2 ^ 31 = y / 2 ^ 31) : bit x 31 = bit y 31 := by simp only [bit, h]

theorem bit31_ofNat (x : Nat) : bit (BitVec.ofNat 32 x).toNat 31 = bit x 31 := by
  simp only [bit, BitVec.toNat_ofNat]
  congr 1; omega

theorem bit_eq_testBit (x i : Nat) : bit x i = x.testBit i := (Nat.testBit_eq_decide_div_mod_eq ..).symm

theorem bit31_setLock (w : Word) : bit (w ||| 0x80000000#32).toNat 31 = true := by
  rw [bit_eq_testBit, BitVec.toNat_or, Nat.testBit_or, Bool.or_eq_true]
  exact .inr (by decide)

/-- The bits of a field in a word, as a number. -/
theorem and_fldMask (w : Nat) (f : Fld) (h : f.lo ≤ f.hi) : w &&& f.mask = w / 2 ^ f.lo % 2 ^ (f.hi + 1 - f.lo) * 2 ^ f.lo := by
  have mask : f.mask = (2 ^ (f.hi + 1 - f.lo) - 1) <<< f.lo := by
    rw [Fld.mask, Nat.shiftLeft_eq, Nat.sub_mul, one_mul, ← pow_add, Nat.sub_add_cancel (by omega)]
  rw [mask, ← Nat.shiftLeft_eq, ← Nat.shiftRight_eq_div_pow, ← Nat.and_two_pow_sub_one_eq_mod]
  refine Nat.eq_of_testBit_eq fun i => ?_
  simp only [Nat.testBit_and, Nat.testBit_shiftLeft, Nat.testBit_shiftRight]
  by_cases hi : f.lo ≤ i
  · simp [hi, Nat.add_sub_cancel' hi]
  · simp [hi]

/-- A field replaced by a value it can hold leaves the bits above it as they were. -/
theorem replaceFld_div (w v : Nat) (f : Fld) (h : f.lo ≤ f.hi) (hv : v < 2 ^ (f.hi + 1 - f.lo)) :
    (w - (w &&& f.mask) + v * 2 ^ f.lo) / 2 ^ (f.hi + 1) = w / 2 ^ (f.hi + 1) := by
  rw [and_fldMask w f h]
  obtain ⟨n, hn⟩ : ∃ n, f.hi + 1 = f.lo + n := ⟨f.hi + 1 - f.lo, by omega⟩
  rw [hn, Nat.add_sub_cancel_left] at hv ⊢
  rw [pow_add, ← Nat.div_div_eq_div_mul, ← Nat.div_div_eq_div_mul]
  have split : w = (w / 2 ^ f.lo / 2 ^ n * 2 ^ n + w / 2 ^ f.lo % 2 ^ n) * 2 ^ f.lo + w % 2 ^ f.lo := by
    rw [Nat.div_add_mod', Nat.div_add_mod']
  have low : w % 2 ^ f.lo < 2 ^ f.lo := Nat.mod_lt _ (by positivity)
  generalize w / 2 ^ f.lo / 2 ^ n = a at *
  generalize w / 2 ^ f.lo % 2 ^ n = b at *
  generalize w % 2 ^ f.lo = c at *
  have sum : w - b * 2 ^ f.lo + v * 2 ^ f.lo = c + (v + a * 2 ^ n) * 2 ^ f.lo := by
    rw [split, Nat.add_mul, Nat.add_mul]; omega
  rw [sum, Nat.add_mul_div_right _ _ (by positivity), Nat.div_eq_of_lt low, Nat.zero_add,
    Nat.add_mul_div_right _ _ (by positivity), Nat.div_eq_of_lt hv, Nat.zero_add]

/-- A field that lies below the LOCK bit and holds its least value. -/
abbrev Fld.belowLock (f : Fld) : Prop := f.lo ≤ f.hi ∧ f.hi < 31 ∧ f.min < 2 ^ (f.hi + 1 - f.lo)

theorem writeField_div (s : State) (r : Reg) (mask value w : Nat) (f : Fld) (h : f.belowLock) :
    writeField s r mask value w f / 2 ^ 31 = w / 2 ^ 31 := by
  obtain ⟨hlo, hhi, hmin⟩ := h
  simp only [writeField]
  split; · rfl
  generalize hb : bits _ f.hi f.lo = b
  have hb : b < 2 ^ (f.hi + 1 - f.lo) := hb ▸ Nat.mod_lt _ (by positivity)
  have fits : ∀ m, clip f.min m b < 2 ^ (f.hi + 1 - f.lo) := fun m => by simp only [clip]; omega
  obtain ⟨k, hk⟩ : ∃ k, 31 = f.hi + 1 + k := ⟨30 - f.hi, by omega⟩
  rw [hk, pow_add, ← Nat.div_div_eq_div_mul, ← Nat.div_div_eq_div_mul, replaceFld_div w _ f hlo (fits _)]

theorem foldl_writeField_div (s : State) (r : Reg) (mask value : Nat) : ∀ (fs : List Fld) (w : Nat), (∀ f ∈ fs, f.belowLock) →
    fs.foldl (writeField s r mask value) w / 2 ^ 31 = w / 2 ^ 31
  | [], _, _ => rfl
  | f :: fs, w, h => by
    rw [List.foldl_cons, foldl_writeField_div s r mask value fs _ (fun g hg => h g (List.mem_cons_of_mem _ hg)),
      writeField_div s r mask value w f (h f List.mem_cons_self)]

/-! #### The table of registers -/

theorem regAt_mem {off : Nat} {g : Reg} (h : regAt off = some g) : g ∈ capRegs ∧ g.off = off :=
  ⟨List.mem_of_find?_eq_some h, by simpa using List.find?_some h⟩

/-- The table has one register at an offset. -/
theorem regAt_off : ∀ g ∈ capRegs, regAt g.off = some g := by decide +kernel

theorem hasLock_iff (off : Nat) : hasLock off = true ↔ ∃ g, regAt off = some g ∧ g.lock = some off := by
  simp [hasLock, Option.any_eq_true]

/-- The fields and the defaults of a register with a LOCK bit lie below it. -/
theorem lockRegs_below : ∀ g ∈ capRegs, g.lock = some g.off →
    (∀ f ∈ g.flds, f.belowLock) ∧ (g.flds.map (fun f => f.dflt * 2 ^ f.lo)).sum < 2 ^ 31 := by
  decide +kernel

/-- No register with a LOCK bit is among the vector maps, the MSI-X table or the fields of ring 0. -/
theorem lockRegs_range : ∀ g ∈ capRegs, g.lock = some g.off → 0x020000 ≤ g.off ∧ g.off < 0x100000 ∧ vectorReg g.off = false := by
  decide +kernel

/-! #### Writes of registers -/

variable {s : State} {off : Nat} {w : Word}

/-- A register is written: its LOCK bit, where it has one, is kept if the word has it. -/
theorem setReg_locksKept (h : hasLock off = true → lockBit s.regs off = true → bit w.toNat 31 = true) :
    LocksKept s.regs (setReg off w s).regs := by
  intro k hk hb
  by_cases e : k = off
  · subst e; simpa [lockBit] using h hk hb
  · simpa [lockBit, lookup_put_ne _ _ _ e] using hb

/-- A register without a LOCK bit is written. -/
theorem setReg_locksKept_of_noLock (h : hasLock off = false) : LocksKept s.regs (setReg off w s).regs :=
  setReg_locksKept fun h' => by rw [h] at h'; cases h'

theorem noLock_of_range (h : off < 0x020000 ∨ 0x100000 ≤ off ∨ vectorReg off = true) : hasLock off = false := by
  by_contra hl
  obtain ⟨g, hg, hlock⟩ := (hasLock_iff off).1 (by simpa using hl)
  obtain ⟨hmem, rfl⟩ := regAt_mem hg
  obtain ⟨h1, h2, h3⟩ := lockRegs_range g hmem hlock
  rcases h with h | h | h
  · omega
  · omega
  · rw [h3] at h; cases h

theorem setLock_locksKept (off : Nat) (s : State) : LocksKept s.regs (setLock off s).regs :=
  setReg_locksKept fun _ _ => bit31_setLock _

theorem writeFields_locksKept {r : Reg} (hr : regAt r.off = some r) (mask value : Nat) (s : State) :
    LocksKept s.regs (writeFields r mask value s).regs := by
  refine setReg_locksKept fun hl hb => ?_
  obtain ⟨g, hg, hlock⟩ := (hasLock_iff _).1 hl
  obtain rfl : r = g := Option.some.inj (hr.symm.trans hg)
  rw [bit31_ofNat, bit31_congr (foldl_writeField_div s r mask value _ _ (lockRegs_below r (regAt_mem hr).1 hlock).1)]
  exact hb

theorem writeGoverned_locksKept {r : Reg} (hr : regAt r.off = some r) (mask value : Nat) (s : State) :
    LocksKept s.regs (writeGoverned r mask value s).regs := by
  have fields : LocksKept s.regs (if locked s r || !r.host then s else writeFields r mask value s).regs := by
    split
    · exact .refl _
    · exact writeFields_locksKept hr mask value s
  simp only [writeGoverned]
  split
  · exact fields.trans (setLock_locksKept _ _)
  · exact fields

@[simp] theorem settingWriteSpec_locksKept : settingWriteSpec.LocksKept := by
  refine ⟨fun s o i => ?_, fun _ _ _ => .refl _⟩
  simp only [settingWriteSpec]
  split
  · simp
  · next r hr => simpa using writeGoverned_locksKept ((regAt_mem hr).2 ▸ hr) _ _ s

theorem lockSet_locksKept (off : Nat) (s : State) : LocksKept s.regs (lockSet off s).regs := by
  simp only [lockSet]; split
  · exact setLock_locksKept off s
  · exact .refl _

theorem selectWrite_locksKept (h : hasLock off = false) (width v : Nat) (s : State) :
    LocksKept s.regs (selectWrite off width v s).regs := by
  simp only [selectWrite]; split
  · exact setReg_locksKept_of_noLock h
  · exact .refl _

theorem ringZeroEnable_locksKept (v : Nat) (s : State) : LocksKept s.regs (ringZeroEnable v s).regs := by
  have write : ∀ x, LocksKept s.regs (setReg 0x100000 x s).regs :=
    fun x => setReg_locksKept_of_noLock (noLock_of_range (.inr (.inl le_rfl)))
  simp only [ringZeroEnable]
  (repeat' split) <;> simp only [setRing_regs, LocksKept.refl, write]

theorem ringZeroWrite_locksKept (h : 0x100000 ≤ off) (v : Nat) (s : State) : LocksKept s.regs (ringZeroWrite off v s).regs := by
  have write : ∀ k x (t : State), 0x100000 ≤ k → LocksKept t.regs (setReg k x t).regs :=
    fun k x t hk => setReg_locksKept_of_noLock (noLock_of_range (.inr (.inl hk)))
  simp only [ringZeroWrite]
  split; · exact .refl _
  split
  · split
    · exact ringZeroEnable_locksKept v s
    · exact write _ _ s h
  split; · exact .refl _
  split; · exact .refl _
  exact (write _ _ _ (by omega)).trans (write _ _ _ h)

theorem faultnWrite_locksKept {r : Reg} (hr : regAt r.off = some r) (v : Nat) (s : State) : LocksKept s.regs (faultnWrite r v s).regs := by
  have force : ∀ t : State, LocksKept t.regs (setReg r.off (BitVec.ofNat 32 ((regWord t r.off).toNat
      - 512 * ofBool (bit (regWord t r.off).toNat 9) + 512 * ofBool (bit v 9))) t).regs := fun t => by
    refine setReg_locksKept fun _ hb => ?_
    rw [bit31_ofNat, ← hb]
    refine bit31_congr ?_
    change _ = (regWord t r.off).toNat / 2 ^ 31
    generalize (regWord t r.off).toNat = x
    simp only [bit, ofBool, beq_iff_eq]
    split <;> split <;> omega
  have both := (writeGoverned_locksKept hr 0xFFFFFFFF v s).trans (force _)
  simp only [faultnWrite]
  split
  · rwa [faultnStateClear_regs]
  · exact both

theorem msixTableWrite_locksKept (h : hasLock off = false) (v : Nat) (s : State) : LocksKept s.regs (msixTableWrite off v s).regs := by
  simp only [msixTableWrite]; split
  · rw [msixUnmask_regs]; exact setReg_locksKept_of_noLock h
  · exact setReg_locksKept_of_noLock h

theorem msixClear_locksKept (v : Nat) (s : State) : LocksKept s.regs (msixClear v s).regs := by
  simp only [msixClear]
  split
  · split
    · rw [msixUnmask_regs]
      exact setReg_locksKept_of_noLock (noLock_of_range (.inl (by omega)))
    · exact .refl _
  · simp

end Sys2Proof.Machine
end

section
/-! SUPPORT. Resets, the capsule and the host's accesses: what rewrites many registers keeps the LOCK bits, or a cold reset forgets them. -/
namespace Sys2Proof.Machine

variable {s : State} {off : Nat}

/-! #### Resets -/

/-- Values put at the offsets of a list of registers: what stands at one of them. -/
theorem lookup_foldl_put (value : Reg → Word) (g : Reg) : ∀ (rs : List Reg) (l : List (Nat × Word)),
    (∀ r ∈ rs, r.off = g.off → r = g) → g ∈ rs ∨ lookup g.off l = some (value g) →
    lookup g.off (rs.foldl (fun l r => put r.off (value r) l) l) = some (value g)
  | [], _, _, h => h.resolve_left (by simp)
  | r :: rs, l, one, h => by
    refine lookup_foldl_put value g rs _ (fun r' hr' => one r' (List.mem_cons_of_mem _ hr')) ?_
    by_cases e : r.off = g.off
    · obtain rfl := one r List.mem_cons_self e
      exact .inr (lookup_put_self ..)
    · rw [lookup_put_ne _ _ _ (Ne.symm e)]
      rcases h with h | h
      · rcases List.mem_cons.1 h with rfl | h
        · exact absurd rfl e
        · exact .inl h
      · exact .inr h

/-- A reset's defaults have the LOCK bits of the registers it keeps. -/
theorem lockBit_defaultRegs (keep : List (Nat × Word)) (h : hasLock off = true) : lockBit (defaultRegs keep) off = lockBit keep off := by
  obtain ⟨g, hg, hlock⟩ := (hasLock_iff off).1 h
  obtain ⟨hmem, rfl⟩ := regAt_mem hg
  have one : ∀ r ∈ capRegs, r.off = g.off → r = g := fun r hr e => Option.some.inj ((e ▸ regAt_off r hr).symm.trans hg)
  have low := (lockRegs_below g hmem hlock).2
  rw [lockBit, lockBit, defaultRegs, lookup_foldl_put _ g capRegs [] one (.inl hmem)]
  simp only [hlock, if_true, Option.getD_some, bit31_ofNat]
  refine bit31_congr ?_
  omega

theorem defaultRegs_locksKept (regs : List (Nat × Word)) : LocksKept regs (defaultRegs regs) :=
  fun _ ho hb => (lockBit_defaultRegs regs ho).trans hb

theorem warmReset_locksKept (cause : Nat) (s : State) : LocksKept s.regs (warmReset cause s).regs := by
  have h := defaultRegs_locksKept s.regs
  simpa [warmReset, hardReset] using h

/-! #### Register writes of the host -/

theorem sysReset_locksKept (w : Nat) (s : State) : LocksKept s.regs (sysReset w s).regs := by
  simp only [sysReset]; split
  · exact warmReset_locksKept 4 s
  · exact .refl _

/-- Each branch of a write keeps the LOCK bits under its condition. -/
theorem LocksKept.ite {regs : List (Nat × Word)} {c : Prop} [Decidable c] {t u : State} (h : c → LocksKept regs t.regs)
    (k : ¬ c → LocksKept regs u.regs) : LocksKept regs (if c then t else u).regs := by
  by_cases hc : c
  · rw [if_pos hc]; exact h hc
  · rw [if_neg hc]; exact k hc

theorem bar0Word_locksKept (off v : Nat) (s : State) : LocksKept s.regs (bar0Word off v s).regs := by
  unfold bar0Word
  refine .ite (fun _ => .refl _) fun _ => ?_
  refine .ite (fun _ => sysReset_locksKept v s) fun _ => ?_
  refine .ite (fun h => selectWrite_locksKept (h ▸ by decide +kernel) _ _ _) fun _ => ?_
  refine .ite (fun h => selectWrite_locksKept (h ▸ by decide +kernel) _ _ _) fun _ => ?_
  refine .ite (fun h => setReg_locksKept_of_noLock (h ▸ by decide +kernel)) fun _ => ?_
  refine .ite (fun _ => by simp) fun _ => ?_
  refine .ite (fun h => msixTableWrite_locksKept (noLock_of_range (.inl h.2)) v s) fun _ => ?_
  refine .ite (fun h => setReg_locksKept_of_noLock (noLock_of_range (.inr (.inr ?_)))) fun _ => ?_
  · simp [vectorReg, rangeIn]; omega
  refine .ite (fun _ => .ite (fun _ => by simp) fun _ => .refl _) fun _ => ?_
  refine .ite (fun h => .ite (fun _ => .ite (fun _ => .refl _) fun _ => by simp) fun _ => ringZeroWrite_locksKept h.1 v s) fun _ => ?_
  split
  · next r hr =>
    have hr : regAt r.off = some r := (regAt_mem hr).2 ▸ hr
    exact .ite (fun _ => faultnWrite_locksKept hr v s) fun _ => writeGoverned_locksKept hr _ v s
  · exact .refl _

theorem registerWrite_locksKept (bar off width v : Nat) (s : State) : LocksKept s.regs (registerWrite bar off width v s).regs := by
  have word : ∀ o x (t : State), LocksKept t.regs ((if bar = 0 then bar0Word else bar2Word) o x t).regs := fun o x t => by
    split
    · exact bar0Word_locksKept o x t
    · simp
  simp only [registerWrite]
  split; · exact word _ _ s
  split; · exact (word _ _ s).trans (word _ _ _)
  split <;> simp

/-! #### The capsule's settings -/

/-- A fold of steps that keep the LOCK bits keeps them. -/
theorem foldl_locksKept {α : Type} (f : State → α → State) : ∀ (l : List α) (s : State),
    (∀ x ∈ l, ∀ t, LocksKept t.regs (f t x).regs) → LocksKept s.regs (l.foldl f s).regs
  | [], _, _ => .refl _
  | x :: l, s, h => (h x List.mem_cons_self s).trans (foldl_locksKept f l _ fun y hy => h y (List.mem_cons_of_mem _ hy))

theorem capReg_locksKept (s : State) (c : CapRec) : LocksKept s.regs (capReg s c).regs := by
  simp only [capReg]
  split
  · split
    · next r hr => exact writeFields_locksKept ((regAt_mem hr).2 ▸ hr) _ _ s
    · exact .refl _
  · exact .refl _

theorem capLock_locksKept (s : State) (c : CapRec) : LocksKept s.regs (capLock s c).regs := by
  simp only [capLock]
  split
  · split
    · exact setLock_locksKept _ s
    · exact .refl _
  · exact .refl _

theorem applySettings_locksKept (rs : List CapRec) (s : State) : LocksKept s.regs (applySettings rs s).regs := by
  have dflts := foldl_locksKept (fun t r => writeFields r r.fieldMask ((r.flds.map (fun f => f.dflt * 2 ^ f.lo)).sum) t) capRegs s
    fun r hr t => writeFields_locksKept (regAt_off r hr) _ _ t
  have recs := fun t => foldl_locksKept capReg rs t fun c _ u => capReg_locksKept u c
  have locks := fun t => foldl_locksKept capLock rs t fun c _ u => capLock_locksKept u c
  simpa [applySettings] using (dflts.trans (recs _)).trans (locks _)

theorem applyCapsule_locksKept (rs : List CapRec) (s : State) : LocksKept s.regs (applyCapsule rs s).regs := by
  have h := applySettings_locksKept rs ((lastCals rs).foldl (fun t e => applyCal e.1 e.2 t)
    (updSup (fun u => { u with cal := u.cal.zipIdx.map (fun (c, i) => calItem i c.factory 0) }) s))
  simpa [applyCapsule] using h

/-! #### FLR and BOOT -/

theorem flrSettings_locksKept (s : State) : LocksKept s.regs (flrSettings s).regs := by
  have kept : LocksKept s.regs (s.regs.filter (fun e => !vectorReg e.1 && !rangeIn 0x100000 0x1003FF e.1)) := fun off ho hb => by
    obtain ⟨g, hg, hlock⟩ := (hasLock_iff off).1 ho
    obtain ⟨hmem, rfl⟩ := regAt_mem hg
    obtain ⟨-, h2, h3⟩ := lockRegs_range g hmem hlock
    have inside : (!vectorReg g.off && !rangeIn 0x100000 0x1003FF g.off) = true := by simp [h3, rangeIn, h2]
    rw [lockBit, lookup_filter g.off _ (fun _ _ => rfl)]
    simpa [lockBit, inside] using hb
  exact (kept.trans (applySettings_locksKept s.cus.up.capsule { s with regs := s.regs.filter _ })).trans
    (setReg_locksKept_of_noLock (by decide +kernel))

theorem flr_locksKept (s : State) : LocksKept s.regs (flr s).regs := by
  simpa [flr] using flrSettings_locksKept (updGrp (fun g => { g with creating := [], revoking := [] })
    (closeSession (updMem (fun m => { m with injections := [] }) (flrFree (flrDrop (flrHandover s))))))

theorem standingLease_locksKept (s : State) : LocksKept s.regs (standingLease s).regs := by
  simpa [standingLease] using setReg_locksKept_of_noLock (s := s) (off := 0x080020) (by decide +kernel)

theorem bootCapsule_locksKept (s : State) : LocksKept s.regs (bootCapsule s).regs := by
  simpa [bootCapsule] using (applyCapsule_locksKept s.cus.up.capsule s).trans (standingLease_locksKept _)

theorem whenBooting_locksKept {f : State → State} (h : ∀ t, LocksKept t.regs (f t).regs) (s : State) :
    LocksKept s.regs (whenBooting f s).regs := by
  simp only [whenBooting]; split
  · exact h s
  · exact .refl _

theorem boot_locksKept (b : BootInput) (s : State) : LocksKept s.regs (boot b s).regs := by
  simp only [boot]
  split; · exact .refl _
  have start : LocksKept s.regs (send (.link true) (bootOtp b (bootCheckers b.checkers (bootStart s)))).regs := by simp
  refine start.trans <| (whenBooting_locksKept (fun t => ?_) _).trans <| (whenBooting_locksKept (fun t => ?_) _).trans <|
    (whenBooting_locksKept (fun t => ?_) _).trans <| (whenBooting_locksKept bootCapsule_locksKept _).trans <|
    (whenBooting_locksKept (fun t => ?_) _).trans <| (whenBooting_locksKept (fun t => ?_) _).trans <|
    whenBooting_locksKept (fun t => ?_) _
  all_goals simp

end Sys2Proof.Machine
end

section
/-! O57: a LOCK bit, once set, clears only on cold reset (00_scope R8). -/
namespace Sys2Proof.Machine

/-! #### The catalogue -/

theorem catalogue_locksKept : ∀ sp ∈ catalogue, sp.LocksKept := by
  simp [catalogue, catalogueLat, catalogueHf, catalogueCode, catalogueLn, catalogueFx, catalogueKv, catalogueMgmt]

theorem dispatch_locksKept (id : Nat) (i : OpInput) (s : State) : LocksKept s.regs (dispatch id i s).regs := by
  simp only [dispatch]
  split
  · exact .refl _
  · next sp h =>
    obtain ⟨o, -, ho⟩ := Option.bind_eq_some_iff.1 h
    exact dispatchAs_locksKept (catalogue_locksKept sp (List.mem_of_find?_eq_some ho)) id i s

/-! #### Every command -/

/-- Where a command has a next state, every LOCK bit that is set in `regs` is set in it. -/
def NextKeepsLocks (regs : List (Nat × Word)) (x : Host.Outcome State Fault Refusal) : Prop := ∀ t, x = .next t → LocksKept regs t.regs

theorem NextKeepsLocks.next {regs : List (Nat × Word)} {t : State} (h : LocksKept regs t.regs) : NextKeepsLocks regs (.next t) := by
  rintro _ ⟨⟩; exact h

theorem execRegisterWrite_locksKept (bar off width v : Nat) (s : State) : NextKeepsLocks s.regs (execRegisterWrite bar off width v s) := by
  unfold execRegisterWrite
  cases inBar bar off
  · rintro t ⟨⟩
  · exact .next (registerWrite_locksKept bar off width v s)

/-- Every command but a cold reset keeps the LOCK bits (R8): those that write registers one by one, and the others, which dispatch a row
or leave the register file alone. -/
theorem exec_locksKept (c : Instr) (s : State) (cold : c ≠ .coldReset) (trip : ∀ n mv, c ≠ .supplyResetTrip n mv) :
    NextKeepsLocks s.regs (exec c s) := by
  cases c with
  | coldReset => exact absurd rfl cold
  | supplyResetTrip n mv => exact absurd rfl (trip n mv)
  | registerWrite bar off width v => exact execRegisterWrite_locksKept bar off width v s
  | lockSet off => exact .next (lockSet_locksKept off s)
  | slotSelect w => exact .next (selectWrite_locksKept (by decide +kernel) _ w s)
  | calSelect w => exact .next (selectWrite_locksKept (by decide +kernel) _ w s)
  | ringZeroEnable w => exact .next (ringZeroEnable_locksKept w s)
  | msixUnmask v => exact .next (msixClear_locksKept v s)
  | glbSysReset w => exact .next (sysReset_locksKept w s)
  | warmReset cause => exact .next (.ite (fun _ => warmReset_locksKept cause s) fun _ => .refl _)
  | custodyReset =>
    refine .next ?_
    split
    · exact .ite (fun _ => warmReset_locksKept 5 s) fun _ => .refl _
    · exact .refl _
  | flr => exact .next (.ite (fun _ => .refl _) fun _ => flr_locksKept s)
  | boot b => exact .next (boot_locksKept b s)
  | dispatch op i => exact .next (dispatch_locksKept op i s)
  | faultnHoldEnd => exact .next (.ite (fun _ => .refl _) fun _ => .refl _)
  | _ => exact .next (by simp)

theorem coldReset_regs (cause : Nat) (s : State) : (coldReset cause s).regs = defaultRegs [] := by
  simp [coldReset, hardReset]

/-- A cold reset leaves no LOCK bit set. -/
theorem lockBit_coldReset (cause : Nat) (s : State) {off : Nat} (h : hasLock off = true) : lockBit (coldReset cause s).regs off = false := by
  rw [coldReset_regs, lockBit_defaultRegs [] h]; simp [lockBit, lookup, bit]

/-- Settles O57: every command but a cold reset keeps the LOCK bits, and the defaults of a cold reset lie below them. -/
theorem lockBitsClearOnlyOnColdReset : Obligations.LockBitsClearOnlyOnColdReset := by
  unfold Obligations.LockBitsClearOnlyOnColdReset
  intro s off g hg hlock hset
  have here : hasLock off = true := (hasLock_iff off).2 ⟨g, hg, hlock⟩
  refine ⟨fun c t ht => ?_, coldReset 0 s, rfl, lockBit_coldReset 0 s here⟩
  by_cases cold : c = .coldReset
  · exact .inr (.inl cold)
  by_cases trip : ∃ n mv, c = .supplyResetTrip n mv
  · exact .inr (.inr trip)
  · exact .inl (exec_locksKept c s cold (fun n mv e => trip ⟨n, mv, e⟩) t ht off here hset)

end Sys2Proof.Machine
end

section
/-! SUPPORT. The functions of the block that leave the count of failed tokens alone (17_lifecycle R388), one equation for each that changes a
memory, the beat or a burnt word: the others leave all that `kept` gathers. -/
namespace Sys2Proof.Machine

/-- The count of failed tokens (R388) in what `kept` gathers: the equations of `kept` rewrite it. -/
def failedTokens {α β γ δ ε : Type} (k : α × β × γ × δ × ε × Nat) : Nat := k.2.2.2.2.2

@[simp] theorem failedTokens_mk {α β γ δ ε : Type} (a : α) (b : β) (c : γ) (d : δ) (e : ε) (n : Nat) :
    failedTokens (a, b, c, d, e, n) = n := rfl

theorem authFails_eq (s : State) : s.cus.authFails = failedTokens (kept s) := rfl

/-- A fold of steps that leave the count alone leaves it alone. -/
@[simp] theorem foldl_failedTokens {α : Type} (f : State → α → State) (h : ∀ t x, failedTokens (kept (f t x)) = failedTokens (kept t)) :
    ∀ (l : List α) (s : State), failedTokens (kept (l.foldl f s)) = failedTokens (kept s)
  | [], _ => rfl
  | x :: l, s => by rw [List.foldl_cons, foldl_failedTokens f h l, h]

@[simp] theorem failedTokens_updCus (f : Custody → Custody) (s : State) : failedTokens (kept (updCus f s)) = (f s.cus).authFails := rfl

/-! Ops -/

@[simp] theorem writeHost_failedTokens (space iova : Nat) (bs : Bytes) (s : State) :
    failedTokens (kept (writeHost space iova bs s)) = failedTokens (kept s) := by
  simp [writeHost, authFails_eq]

@[simp] theorem writeBuf_failedTokens (handle off : Nat) (bs : Bytes) (s : State) :
    failedTokens (kept (writeBuf handle off bs s)) = failedTokens (kept s) := by
  simp only [writeBuf]; split <;> simp [authFails_eq]

@[simp] theorem writePiece_failedTokens (space : Nat) (p : OutPiece) (s : State) :
    failedTokens (kept (writePiece space p s)) = failedTokens (kept s) := by
  simp only [writePiece]; split <;> simp

@[simp] theorem unwriteBuf_failedTokens (handle off len : Nat) (s : State) :
    failedTokens (kept (unwriteBuf handle off len s)) = failedTokens (kept s) := by
  simp [unwriteBuf, authFails_eq]

/-! Deliver -/

@[simp] theorem directWrite_failedTokens (o : Op) (s : State) : failedTokens (kept (directWrite o s)) = failedTokens (kept s) := by
  simp only [directWrite]; split <;> simp

@[simp] theorem takeBack_failedTokens (space : Nat) (u : Undo) (s : State) :
    failedTokens (kept (takeBack space u s)) = failedTokens (kept s) := by simp [takeBack, authFails_eq]

@[simp] theorem takeBackAt_failedTokens (inst : Nat) (u : Option Undo) (s : State) :
    failedTokens (kept (takeBackAt inst u s)) = failedTokens (kept s) := by
  simp only [takeBackAt]; (repeat' split) <;> simp

@[simp] theorem unload_failedTokens (o : Op) (s : State) : failedTokens (kept (unload o s)) = failedTokens (kept s) := by
  simp only [unload]
  rcases undoOf o o.desc.outCap with _ | u <;> (repeat' split) <;> simp

@[simp] theorem endEarly_failedTokens (o : Op) (st : Status) (opdata : Bytes) (s : State) :
    failedTokens (kept (endEarly o st opdata s)) = failedTokens (kept s) := by
  simp [endEarly]

@[simp] theorem writePieces_failedTokens (inst : Nat) (ps : List OutPiece) (s : State) :
    failedTokens (kept (writePieces inst ps s)) = failedTokens (kept s) := by
  simp [writePieces]

@[simp] theorem failPieces_failedTokens (st : Status) (inst : Nat) (ps : List OutPiece) (s : State) :
    failedTokens (kept (failPieces st inst ps s)) = failedTokens (kept s) := by
  simp only [failPieces]; split <;> simp

@[simp] theorem commitData_failedTokens (outcome : Status) (c : Completion) (s : State) :
    failedTokens (kept (commitData outcome c s).2) = failedTokens (kept s) := by
  simp only [commitData]; (repeat' split) <;> simp

@[simp] theorem commitNextData_failedTokens (outcome : Status) :
    ∀ (cs : List Completion) (s : State), failedTokens (kept (commitNextData outcome cs s).2) = failedTokens (kept s)
  | [], _ => rfl
  | c :: rest, s => by
    simp only [commitNextData]; split
    · exact commitNextData_failedTokens outcome rest s
    · exact commitData_failedTokens outcome c s

@[simp] theorem writeEntry_failedTokens (n : Nat) (r : Ring) (c : Completion) (rest : List Completion) (s : State) :
    failedTokens (kept (writeEntry n r c rest s)) = failedTokens (kept s) := by
  simp [writeEntry]

@[simp] theorem commitFront_failedTokens (n : Nat) (outcome : Status) (s : State) :
    failedTokens (kept (commitFront n outcome s)) = failedTokens (kept s) := by
  have data := fun c => commitData_failedTokens outcome c s
  simp only [commitFront]
  split; · rfl
  split; · rfl
  split; · rfl
  split; · simp
  split
  · rename_i h; exact (congrArg (fun r => failedTokens (kept r.2)) h).symm.trans (data _)
  · rename_i h; exact (writeEntry_failedTokens ..).trans ((congrArg (fun r => failedTokens (kept r.2)) h).symm.trans (data _))

/-! Rings -/

@[simp] theorem indexBlockWrite_failedTokens (n : Nat) (s : State) : failedTokens (kept (indexBlockWrite n s)) = failedTokens (kept s) := by
  simp only [indexBlockWrite]; (repeat' split) <;> simp

@[simp] theorem commit_failedTokens (n : Nat) (outcome : Status) (s : State) :
    failedTokens (kept (commit n outcome s)) = failedTokens (kept s) := by simp [commit]

@[simp] theorem heldWrite_failedTokens (n : Nat) (s : State) : failedTokens (kept (heldWrite n s)) = failedTokens (kept s) := by
  simp only [heldWrite]; (repeat' split) <;> simp

@[simp] theorem cancelOne_failedTokens (id : Nat) (s : State) : failedTokens (kept (cancelOne id s)) = failedTokens (kept s) := by
  simp only [cancelOne]; (repeat' split) <;> simp

@[simp] theorem cancelAll_failedTokens (ids : List Nat) (s : State) :
    failedTokens (kept (cancelAll ids s)) = failedTokens (kept s) := by simp [cancelAll]

@[simp] theorem cancelRing_failedTokens (n : Nat) (s : State) :
    failedTokens (kept (cancelRing n s)) = failedTokens (kept s) := by simp [cancelRing]

@[simp] theorem beginDestroy_failedTokens (n : Nat) (s : State) : failedTokens (kept (beginDestroy n s).1) = failedTokens (kept s) := by
  simp only [beginDestroy]; split <;> simp

@[simp] theorem ringZeroDisable_failedTokens (s : State) : failedTokens (kept (ringZeroDisable s)) = failedTokens (kept s) := by
  simp only [ringZeroDisable]; split <;> simp

/-! Faults -/

@[simp] theorem cancelDispatched_failedTokens (s : State) :
    failedTokens (kept (cancelDispatched s)) = failedTokens (kept s) := by simp [cancelDispatched]

@[simp] theorem enterSafe_failedTokens (r : FaultRec) (s : State) : failedTokens (kept (enterSafe r s)) = failedTokens (kept s) := by
  simp only [enterSafe]; (repeat' split) <;> simp

@[simp] theorem collect_failedTokens (m : FaultMsg) (s : State) : failedTokens (kept (collect m s)) = failedTokens (kept s) := by
  simp only [collect]; (repeat' split) <;> simp

@[simp] theorem sendFault_failedTokens (src kind sev addr : Nat) (s : State) :
    failedTokens (kept (sendFault src kind sev addr s)) = failedTokens (kept s) := by simp [sendFault]

@[simp] theorem collectOwn_failedTokens (kind sev addr : Nat) (s : State) :
    failedTokens (kept (collectOwn kind sev addr s)) = failedTokens (kept s) := by simp [collectOwn]

@[simp] theorem receiveFault_failedTokens (m : FaultMsg) (s : State) : failedTokens (kept (receiveFault m s)) = failedTokens (kept s) := by
  simp only [receiveFault]; (repeat' split) <;> simp

/-! GroupOps -/

@[simp] theorem confirmCreates_failedTokens (s : State) : failedTokens (kept (confirmCreates s)) = failedTokens (kept s) :=
  foldl_failedTokens _ (fun t c => by dsimp only; (repeat' split) <;> simp) _ s

@[simp] theorem takeNumber_failedTokens (op n : Nat) (s : State) : failedTokens (kept (takeNumber op n s)) = failedTokens (kept s) := by
  simp only [takeNumber]; (repeat' split) <;> simp

/-! Custody -/

@[simp] theorem wipeBuffers_failedTokens (hit : Nat → Buffer → Bool) (s : State) :
    failedTokens (kept (wipeBuffers hit s)) = failedTokens (kept s) := by simp [wipeBuffers]

@[simp] theorem zeroise_failedTokens (s : State) : failedTokens (kept (zeroise s)) = failedTokens (kept s) := by simp [zeroise]

@[simp] theorem wipeVolatile_failedTokens (s : State) :
    failedTokens (kept (wipeVolatile s)) = failedTokens (kept s) := by simp [wipeVolatile]

/-! Power -/

@[simp] theorem vddWarn_failedTokens (n mv : Nat) (s : State) : failedTokens (kept (vddWarn n mv s)) = failedTokens (kept s) := by
  simp only [vddWarn]; (repeat' split) <;> simp

@[simp] theorem vddRange_failedTokens (mv : Nat) (s : State) : failedTokens (kept (vddRange mv s)) = failedTokens (kept s) := by
  simp only [vddRange]; (repeat' split) <;> simp

@[simp] theorem throttle_failedTokens (n : Nat) (t : ℤ) (s : State) : failedTokens (kept (throttle n t s)) = failedTokens (kept s) := by
  simp only [throttle]; split <;> simp

@[simp] theorem therm_failedTokens (n : Nat) (t : ℤ) (s : State) : failedTokens (kept (therm n t s)) = failedTokens (kept s) := by
  simp only [therm]; split <;> simp

@[simp] theorem thermalShutdown_failedTokens (n : Nat) (t : ℤ) (s : State) :
    failedTokens (kept (thermalShutdown n t s)) = failedTokens (kept s) := by
  simp only [thermalShutdown]; split <;> simp

@[simp] theorem checkSensors_failedTokens (s : State) : failedTokens (kept (checkSensors s)) = failedTokens (kept s) := by
  simp only [checkSensors]; (repeat' split) <;> simp

@[simp] theorem refclkLost_failedTokens (s : State) : failedTokens (kept (refclkLost s)) = failedTokens (kept s) := by
  simp only [refclkLost]; split <;> simp

@[simp] theorem refclkRestored_failedTokens (s : State) : failedTokens (kept (refclkRestored s)) = failedTokens (kept s) := by
  simp only [refclkRestored]; split <;> simp

/-! Pipeline -/

@[simp] theorem eclipseSuspect_failedTokens (o : Op) (s : State) : failedTokens (kept (eclipseSuspect o s)) = failedTokens (kept s) := by
  simp only [eclipseSuspect]; split <;> simp

@[simp] theorem partDone_failedTokens (o : Op) (s : State) :
    failedTokens (kept (partDone o s)) = failedTokens (kept s) := by simp [partDone]

@[simp] theorem engineDone_failedTokens (id : Nat) (s : State) : failedTokens (kept (engineDone id s)) = failedTokens (kept s) := by
  simp only [engineDone]; (repeat' split) <;> simp

/-! Buffers -/

@[simp] theorem bufWipe_failedTokens (h : Nat) (s : State) : failedTokens (kept (bufWipe h s)) = failedTokens (kept s) := by
  simp only [bufWipe]; (repeat' split) <;> simp

/-! Links -/

@[simp] theorem portTraining_failedTokens (n working : Nat) (s : State) :
    failedTokens (kept (portTraining n working s)) = failedTokens (kept s) := by
  simp only [portTraining]; (repeat' split) <;> simp

@[simp] theorem laneFail_failedTokens (n lane : Nat) (s : State) : failedTokens (kept (laneFail n lane s)) = failedTokens (kept s) := by
  simp only [laneFail]; (repeat' split) <;> simp

@[simp] theorem fecSecond_failedTokens (n corrected uncorrectable : Nat) (s : State) :
    failedTokens (kept (fecSecond n corrected uncorrectable s)) = failedTokens (kept s) := by
  simp only [fecSecond]; (repeat' split) <;> simp

@[simp] theorem onSession_failedTokens (n : Nat) (f : Port → State) (s : State) (h : ∀ p, failedTokens (kept (f p)) = failedTokens (kept s)) :
    failedTokens (kept (onSession n f s)) = failedTokens (kept s) := by
  simp only [onSession]; (repeat' split) <;> simp [h]

@[simp] theorem heartbeat_failedTokens (n : Nat) (s : State) : failedTokens (kept (heartbeat n s)) = failedTokens (kept s) := by
  simp only [heartbeat]; refine onSession_failedTokens _ _ _ fun p => ?_; (repeat' split) <;> simp

@[simp] theorem creditReport_failedTokens (n : Nat) (s : State) : failedTokens (kept (creditReport n s)) = failedTokens (kept s) := by
  simp only [creditReport]; refine onSession_failedTokens _ _ _ fun p => ?_; (repeat' split) <;> simp

@[simp] theorem creditStarved_failedTokens (n vc : Nat) (s : State) :
    failedTokens (kept (creditStarved n vc s)) = failedTokens (kept s) := by
  simp only [creditStarved]; refine onSession_failedTokens _ _ _ fun p => ?_; (repeat' split) <;> simp

@[simp] theorem starveSessionEnd_failedTokens (n vc : Nat) (s : State) :
    failedTokens (kept (starveSessionEnd n vc s)) = failedTokens (kept s) := by
  simp only [starveSessionEnd]; refine onSession_failedTokens _ _ _ fun p => ?_; (repeat' split) <;> simp

@[simp] theorem peerTimeout_failedTokens (n : Nat) (s : State) : failedTokens (kept (peerTimeout n s)) = failedTokens (kept s) := by
  simp only [peerTimeout]; refine onSession_failedTokens _ _ _ fun p => ?_; (repeat' split) <;> simp

@[simp] theorem tagFailed_failedTokens (n : Nat) (s : State) : failedTokens (kept (tagFailed n s)) = failedTokens (kept s) := by
  simp only [tagFailed]; (repeat' split) <;> simp

@[simp] theorem frameReceive_failedTokens (n : Nat) (f : FrameIn) (s : State) :
    failedTokens (kept (frameReceive n f s)) = failedTokens (kept s) := by
  simp only [frameReceive]; (repeat' split) <;> simp

/-! Stateful -/

@[simp] theorem leaseWaitExpiry_failedTokens (id : Nat) (s : State) :
    failedTokens (kept (leaseWaitExpiry id s)) = failedTokens (kept s) := by
  simp only [leaseWaitExpiry]; (repeat' split) <;> simp

/-! Memory -/

@[simp] theorem hardFault_failedTokens (addr : Nat) (s : State) : failedTokens (kept (hardFault addr s)) = failedTokens (kept s) := by
  simp only [hardFault]; split <;> simp

@[simp] theorem spendInjection_failedTokens (i : Injection) (addr : Nat) (s : State) :
    failedTokens (kept (spendInjection i addr s)) = failedTokens (kept s) := by
  simp [spendInjection]

@[simp] theorem scrubWrite_failedTokens (addr : Nat) (s : State) : failedTokens (kept (scrubWrite addr s)) = failedTokens (kept s) := by
  simp only [scrubWrite]; split <;> simp

@[simp] theorem countWeak_failedTokens (addr : Nat) (s : State) : failedTokens (kept (countWeak addr s)) = failedTokens (kept s) := by
  simp only [countWeak]; (repeat' split) <;> simp

@[simp] theorem noteCorrection_failedTokens (addr : Nat) (counts : Bool) (s : State) :
    failedTokens (kept (noteCorrection addr counts s)) = failedTokens (kept s) := by
  simp only [noteCorrection]; split <;> simp

@[simp] theorem countCorrected_failedTokens (addr : Nat) (counts : Bool) (s : State) :
    failedTokens (kept (countCorrected addr counts s)) = failedTokens (kept s) := by
  simp only [countCorrected]; (repeat' split) <;> simp

@[simp] theorem uncorrectable_failedTokens (addr : Nat) (slot tree : Option Nat) (s : State) :
    failedTokens (kept (uncorrectable addr slot tree s)) = failedTokens (kept s) := by
  simp only [uncorrectable]; (repeat' split) <;> simp

@[simp] theorem scrubRead_failedTokens (addr : Nat) (own : Seen) (slot tree : Option Nat) (passEnd : Bool) (s : State) :
    failedTokens (kept (scrubRead addr own slot tree passEnd s)) = failedTokens (kept s) := by
  simp only [scrubRead]; (repeat' split) <;> simp

@[simp] theorem memMessage_failedTokens (m : FaultMsg) (s : State) : failedTokens (kept (memMessage m s)) = failedTokens (kept s) := by
  simp only [memMessage]; (repeat' split) <;> simp

/-! LongNumber -/

@[simp] theorem checkedKey_failedTokens (s : State) (o : Op) (i : OpInput) (r : Run) (h : failedTokens (kept r.st) = failedTokens (kept s)) :
    failedTokens (kept (checkedKey s o i r).st) = failedTokens (kept s) := by
  simp only [checkedKey]; split <;> simp [h]

/-! Instances -/

@[simp] theorem wipeInst_failedTokens (inst : Nat) (s : State) :
    failedTokens (kept (wipeInst inst s)) = failedTokens (kept s) := by simp [wipeInst]

@[simp] theorem resetDeferralEnd_failedTokens (n : Nat) (s : State) :
    failedTokens (kept (resetDeferralEnd n s)) = failedTokens (kept s) := by
  simp only [resetDeferralEnd]; (repeat' split) <;> simp

/-! Modes -/

@[simp] theorem bootEvents_failedTokens (m : Mode) (s : State) :
    failedTokens (kept (enterMode.bootEvents m s)) = failedTokens (kept s) := by
  simp only [enterMode.bootEvents]; (repeat' split) <;> simp

@[simp] theorem enterMode_failedTokens (m : Mode) (s : State) : failedTokens (kept (enterMode m s)) = failedTokens (kept s) := by
  simp only [enterMode, bootEvents_failedTokens]
  (repeat' split) <;> simp

@[simp] theorem leaveSafe_failedTokens (m : Mode) (detail : Nat) (s : State) :
    failedTokens (kept (leaveSafe m detail s)) = failedTokens (kept s) := by simp [leaveSafe]

@[simp] theorem drainStop_failedTokens (s : State) : failedTokens (kept (drainStop s)) = failedTokens (kept s) := by simp [drainStop]

@[simp] theorem startDrain_failedTokens (t : Mode) (ms : Nat) (s : State) :
    failedTokens (kept (startDrain t ms s)) = failedTokens (kept s) := by
  simp only [startDrain]; split <;> simp

@[simp] theorem drainEnd_failedTokens (s : State) : failedTokens (kept (drainEnd s)) = failedTokens (kept s) := by
  simp only [drainEnd]; split
  · rfl
  · exact (foldl_failedTokens _ (fun t w => by split <;> simp) _ _).trans (enterMode_failedTokens _ s)

@[simp] theorem drainLimit_failedTokens (s : State) : failedTokens (kept (drainLimit s)) = failedTokens (kept s) := by
  simp only [drainLimit]; (repeat' split) <;> simp

/-! Recovery -/

@[simp] theorem reinitFailed_failedTokens (t : Target) (s : State) : failedTokens (kept (reinitFailed t s)) = failedTokens (kept s) := by
  simp only [reinitFailed]; split <;> simp

@[simp] theorem reinit_failedTokens (fails : List Nat) : ∀ (es : List (Nat × Target)) (s : State),
    failedTokens (kept (reinit fails es s)) = failedTokens (kept s)
  | [], _ => rfl
  | e :: es, s => by rw [reinit, reinit_failedTokens fails es]; split <;> simp

@[simp] theorem autoRecovery_failedTokens (src : Nat) (pass : Bool) (s : State) :
    failedTokens (kept (autoRecovery src pass s)) = failedTokens (kept s) := by
  simp only [autoRecovery]; (repeat' split) <;> simp

/-! Lifecycle -/

@[simp] theorem setOtp_failedTokens (o : Otp) (s : State) : failedTokens (kept (setOtp o s)) = failedTokens (kept s) := by
  simp [setOtp, authFails_eq]

@[simp] theorem runTransition_failedTokens (t : Token) (cut : Option Cut) (s : State) :
    failedTokens (kept (runTransition t cut s).st) = failedTokens (kept s) := by
  unfold runTransition
  extract_lets mark s₁ s₂
  have mark_failedTokens : ∀ d u, failedTokens (kept (mark d u)) = failedTokens (kept u) := by
    intro d u; simp only [mark]; split <;> simp
  have h₁ : failedTokens (kept s₁) = failedTokens (kept s) := mark_failedTokens _ _
  have h₂ : failedTokens (kept s₂) = failedTokens (kept s) := by
    simp only [s₂]; split <;> simp [mark_failedTokens, h₁]
  split; · exact h₁
  have seed : ∀ r : Bytes × State, r = (if drawsSeed t = true then drawBytes 64 s₂ else ([], s₂)) →
      failedTokens (kept r.2) = failedTokens (kept s) := by
    rintro r rfl; split <;> simp [h₂]
  split
  rename_i s₃ h₃
  replace h₃ : failedTokens (kept s₃) = failedTokens (kept s) := seed _ h₃.symm
  extract_lets s₄ bs
  have h₄ : failedTokens (kept s₄) = failedTokens (kept s) := by
    simp only [s₄]; split <;> simp [h₃]
  have drawn : ∀ k u, draw s₄ = (k, u) → failedTokens (kept u) = failedTokens (kept s) := fun _ _ h => by rw [← h₄, ← kept_draw s₄, h]
  (repeat' split) <;> simp [h₄] <;> exact drawn _ _ ‹_›

theorem failedTokens_countAuth (s : State) : failedTokens (kept (countAuth s)) = sat 8 (failedTokens (kept s) + 1) := rfl

/-- Where eight tokens have failed before, they have after (R388). -/
def LockoutKept (a b : Nat) : Prop := 8 ≤ a → 8 ≤ b

@[simp] theorem LockoutKept.refl (n : Nat) : LockoutKept n n := fun h => h

theorem LockoutKept.trans {a b c : Nat} (h : LockoutKept a b) (k : LockoutKept b c) : LockoutKept a c := fun x => k (h x)

@[simp] theorem countAuth_lockoutKept (s : State) : LockoutKept (failedTokens (kept s)) (failedTokens (kept (countAuth s))) := fun h => by
  rw [failedTokens_countAuth, sat]; omega

theorem transitionRun_lockoutKept (t : Token) (reasons : List (Nat × Status)) (i : OpInput) (s : State) :
    LockoutKept (failedTokens (kept s)) (failedTokens (kept (transitionRun t reasons i s).st)) := by
  simp only [transitionRun]; (repeat' split) <;> simp

/-- The state once the challenge that a token presents is used up (R395). -/
def spendChallenge (data : Bytes) (s : State) : State :=
  match s.cus.challenge with
  | some (c, _) => if c = data then updCus (fun c => { c with challenge := none }) s else s
  | none => s

/-- Nothing but the challenge changes. -/
theorem spendChallenge_eq (data : Bytes) (s : State) : ∃ c, spendChallenge data s = { s with cus := { s.cus with challenge := c } } := by
  simp only [spendChallenge]; (repeat' split) <;> exact ⟨_, rfl⟩

@[simp] theorem spendChallenge_failedTokens (data : Bytes) (s : State) :
    failedTokens (kept (spendChallenge data s)) = failedTokens (kept s) := by
  obtain ⟨c, h⟩ := spendChallenge_eq data s; rw [h]; rfl

/-- A token that fails a check: its first reason, counted where it is a failed authentication. -/
theorem openSession_of_reason {t : Token} {s : State} {n : Nat} {st : Status} {l : List (Nat × Status)} (h : debugReasons s t = (n, st) :: l) :
    openSession t s = { st := if st = .authFailed then note 0x165 2 n (countAuth (spendChallenge t.data s)) else spendChallenge t.data s
                        fails := [st], opdata := instReason n } := by
  simp only [openSession, h]; rfl

/-- A token that meets no check opens a session. -/
theorem openSession_of_noReason {t : Token} {s : State} (h : debugReasons s t = []) :
    openSession t s = { st := raise_ 260 (t.scope % 256) (note 0x165 1 (t.scope % 256)
      (updCus (fun c => { c with session := some (t.scope, (spendChallenge t.data s).beat + beatsMs t.validMs) }) (spendChallenge t.data s))) } := by
  simp only [openSession, h]; rfl

theorem openSession_lockoutKept (t : Token) (s : State) : LockoutKept (failedTokens (kept s)) (failedTokens (kept (openSession t s).st)) := by
  have counted := countAuth_lockoutKept (spendChallenge t.data s)
  rw [spendChallenge_failedTokens] at counted
  rcases h : debugReasons s t with _ | ⟨⟨n, st⟩, l⟩
  · rw [openSession_of_noReason h]; simp [authFails_eq]
  · rw [openSession_of_reason h]; split <;> simp [counted]

@[simp] theorem debugDo_lockoutKept (mode : Nat) (record : Bytes) (s : State) :
    LockoutKept (failedTokens (kept s)) (failedTokens (kept (debugDo mode record s).st)) := by
  simp only [debugDo]; (repeat' split) <;> simp [openSession_lockoutKept]

@[simp] theorem tamper_failedTokens (i : Nat) (asserted : Bool) (s : State) :
    failedTokens (kept (tamper i asserted s)) = failedTokens (kept s) := by
  simp only [tamper]; (repeat' split) <;> simp [authFails_eq]

/-! Update -/

@[simp] theorem recordLost_failedTokens (s : State) : failedTokens (kept (recordLost s).st) = failedTokens (kept s) := by simp [recordLost]

@[simp] theorem stageSteps_failedTokens (o : Op) (i : OpInput) (s : State) :
    failedTokens (kept (stageSteps o i s).st) = failedTokens (kept s) := by
  simp only [stageSteps]; (repeat' split) <;> simp

@[simp] theorem activateRun_failedTokens (s : State) (o : Op) (i : OpInput) :
    failedTokens (kept (activateRun s o i).st) = failedTokens (kept s) := by
  simp only [activateRun]; (repeat' split) <;> simp

@[simp] theorem handoverFails_failedTokens (id : Nat) (s : State) : failedTokens (kept (handoverFails id s)) = failedTokens (kept s) := by
  simp only [handoverFails]; split <;> simp

@[simp] theorem handoverTimeout_failedTokens (s : State) : failedTokens (kept (handoverTimeout s)) = failedTokens (kept s) := by
  simp only [handoverTimeout]; (repeat' split) <;> simp

@[simp] theorem standbyLost_failedTokens (s : State) : failedTokens (kept (standbyLost s)) = failedTokens (kept s) := by
  simp only [standbyLost]; (repeat' split) <;> simp

/-! Admission -/

@[simp] theorem enterOp_failedTokens (n : Nat) (r : Ring) (c : Cached) (rest : List Cached) (s : State) :
    failedTokens (kept (enterOp n r c rest s)) = failedTokens (kept s) := by
  simp only [enterOp]; split <;> simp

theorem arbitrate_failedTokens {cls n : Nat} {s t : State} (h : arbitrate cls s = some (n, t)) :
    failedTokens (kept t) = failedTokens (kept s) := by
  simp only [arbitrate] at h
  (repeat' split at h) <;> simp only [reduceCtorEq, Option.some.injEq, Prod.mk.injEq] at h
  all_goals rw [← h.2, kept_setArbiter, kept_idleLatch]

@[simp] theorem admitHead_failedTokens (n : Nat) (r : Ring) (c : Cached) (rest : List Cached) (s : State) :
    failedTokens (kept (admitHead n r c rest s)) = failedTokens (kept s) := by
  simp only [admitHead]
  (repeat' split) <;> simp
  exact arbitrate_failedTokens ‹_›

@[simp] theorem admission_failedTokens (n : Nat) (s : State) : failedTokens (kept (admission n s)) = failedTokens (kept s) := by
  simp only [admission]; (repeat' split) <;> simp

/-! Members -/

@[simp] theorem fromMember_failedTokens (v : Via) (good : Bool) (f : State → State) (s : State)
    (h : ∀ t, failedTokens (kept (f t)) = failedTokens (kept t)) :
    failedTokens (kept (fromMember v good f s)) = failedTokens (kept s) := by
  simp only [fromMember]; (repeat' split) <;> simp [h]

@[simp] theorem exclude_failedTokens (m : Nat) (s : State) : failedTokens (kept (exclude m s)) = failedTokens (kept s) :=
  (foldl_failedTokens _ (fun t n => by split <;> simp) _ _).trans (by simp)

@[simp] theorem attestReq_failedTokens (v : Via) (nonce : Bytes) (s : State) :
    failedTokens (kept (attestReq v nonce s)) = failedTokens (kept s) := by
  simp only [attestReq]; refine fromMember_failedTokens _ _ _ _ fun t => ?_; (repeat' split) <;> simp

@[simp] theorem attestResp_failedTokens (v : Via) (a : AttestMsg) (s : State) :
    failedTokens (kept (attestResp v a s)) = failedTokens (kept s) := by
  refine fromMember_failedTokens _ _ _ s fun t => ?_
  (repeat' split) <;> simp [kept_ite, apply_ite failedTokens]

@[simp] theorem attestTimeout_failedTokens (m : Nat) (s : State) : failedTokens (kept (attestTimeout m s)) = failedTokens (kept s) := by
  simp only [attestTimeout]; (repeat' split) <;> simp

@[simp] theorem roleIn_failedTokens (v : Via) (epoch : Nat) (s : State) :
    failedTokens (kept (roleIn v epoch s)) = failedTokens (kept s) := by simp [roleIn]

@[simp] theorem numberReq_failedTokens (v : Via) (ref : Nat) (s : State) :
    failedTokens (kept (numberReq v ref s)) = failedTokens (kept s) := by
  simp only [numberReq]; refine fromMember_failedTokens _ _ _ _ fun t => ?_; (repeat' split) <;> simp

@[simp] theorem numberAssign_failedTokens (v : Via) (ref n : Nat) (s : State) :
    failedTokens (kept (numberAssign v ref n s)) = failedTokens (kept s) := by
  simp only [numberAssign]; refine fromMember_failedTokens _ _ _ _ fun t => ?_; (repeat' split) <;> simp

@[simp] theorem keyReplicate_failedTokens (v : Via) (f : KeyFrag) (s : State) :
    failedTokens (kept (keyReplicate v f s)) = failedTokens (kept s) := by
  simp only [keyReplicate]; refine fromMember_failedTokens _ _ _ _ fun t => ?_; (repeat' split) <;> simp

@[simp] theorem keyCommitAck_failedTokens (v : Via) (n : Nat) (s : State) :
    failedTokens (kept (keyCommitAck v n s)) = failedTokens (kept s) := by simp [keyCommitAck]

@[simp] theorem keyRevoke_failedTokens (v : Via) (n : Nat) (destroy : Bool) (s : State) :
    failedTokens (kept (keyRevoke v n destroy s)) = failedTokens (kept s) := by
  simp only [keyRevoke]; refine fromMember_failedTokens _ _ _ _ fun t => ?_; (repeat' split) <;> simp

/-! Leases -/

@[simp] theorem leaseFrom_failedTokens (v : Via) (m : LeaseMsg) (epoch : Bool) (f : State → State) (s : State)
    (h : ∀ t, failedTokens (kept (f t)) = failedTokens (kept t)) :
    failedTokens (kept (leaseFrom v m epoch f s)) = failedTokens (kept s) :=
  fromMember_failedTokens v true _ s fun t => by (repeat' split) <;> simp [h]

@[simp] theorem leaseRequest_failedTokens (v : Via) (m : LeaseMsg) (s : State) :
    failedTokens (kept (leaseRequest v m s)) = failedTokens (kept s) := by
  simp only [leaseRequest]; refine leaseFrom_failedTokens _ _ _ _ _ fun t => ?_; (repeat' split) <;> simp

@[simp] theorem leaseGrant_failedTokens (v : Via) (m : LeaseMsg) (s : State) :
    failedTokens (kept (leaseGrant v m s)) = failedTokens (kept s) := by
  simp only [leaseGrant]; refine leaseFrom_failedTokens _ _ _ _ _ fun t => ?_; (repeat' split) <;> simp

@[simp] theorem leaseAck_failedTokens (v : Via) (m : LeaseMsg) (s : State) :
    failedTokens (kept (leaseAck v m s)) = failedTokens (kept s) := by
  simp only [leaseAck]; refine leaseFrom_failedTokens _ _ _ _ _ fun t => ?_; (repeat' split) <;> simp

@[simp] theorem leaseRefuse_failedTokens (v : Via) (m : LeaseMsg) (s : State) :
    failedTokens (kept (leaseRefuse v m s)) = failedTokens (kept s) := by
  simp only [leaseRefuse]; refine leaseFrom_failedTokens _ _ _ _ _ fun t => ?_; (repeat' split) <;> simp

@[simp] theorem mirror_failedTokens (v : Via) (m : LeaseMsg) (s : State) : failedTokens (kept (mirror v m s)) = failedTokens (kept s) := by
  simp only [mirror]; refine leaseFrom_failedTokens _ _ _ _ _ fun t => ?_; (repeat' split) <;> simp

@[simp] theorem mirrorAck_failedTokens (v : Via) (m : LeaseMsg) (s : State) :
    failedTokens (kept (mirrorAck v m s)) = failedTokens (kept s) := by
  simp only [mirrorAck]; refine leaseFrom_failedTokens _ _ _ _ _ fun t => ?_; (repeat' split) <;> simp

@[simp] theorem leaseQuery_failedTokens (v : Via) (m : LeaseMsg) (s : State) :
    failedTokens (kept (leaseQuery v m s)) = failedTokens (kept s) := by
  simp only [leaseQuery]; refine leaseFrom_failedTokens _ _ _ _ _ fun t => ?_; (repeat' split) <;> simp

@[simp] theorem leaseState_failedTokens (v : Via) (m : LeaseMsg) (s : State) :
    failedTokens (kept (leaseState v m s)) = failedTokens (kept s) := by
  simp only [leaseState]; refine leaseFrom_failedTokens _ _ _ _ _ fun t => ?_; (repeat' split) <;> simp

@[simp] theorem leaseReturn_failedTokens (v : Via) (m : LeaseMsg) (s : State) :
    failedTokens (kept (leaseReturn v m s)) = failedTokens (kept s) := by
  simp only [leaseReturn]; refine leaseFrom_failedTokens _ _ _ _ _ fun t => ?_; (repeat' split) <;> simp

/-! Outside -/

theorem tapAccess_lockoutKept (code : Nat) (data : Bytes) (s : State) :
    LockoutKept (failedTokens (kept s)) (failedTokens (kept (tapAccess code data s))) := by
  have box := fun c mode => debugDo_lockoutKept mode data { s with hp := { s.hp with tapIr := c } }
  simp only [kept_mk, kept_fold] at box
  simp only [tapAccess]
  (repeat' split) <;> simp [box]

/-! Release -/

@[simp] theorem dropBuffer_failedTokens (h : Nat) (s : State) : failedTokens (kept (dropBuffer h s)) = failedTokens (kept s) := by
  simp only [dropBuffer]; split <;> simp [authFails_eq]

@[simp] theorem undoEffect_failedTokens (s : State) (a1 : Effect) : failedTokens (kept (undoEffect s a1)) = failedTokens (kept s) := by
  simp only [undoEffect]; split <;> simp

@[simp] theorem spoilDirect_failedTokens (o : Op) (st : Status) (s : State) :
    failedTokens (kept (spoilDirect o st s)) = failedTokens (kept s) := by
  simp only [spoilDirect]; (repeat' split) <;> simp

@[simp] theorem spoilRunning_failedTokens (s : State) :
    failedTokens (kept (spoilRunning s)) = failedTokens (kept s) := by simp [spoilRunning]

@[simp] theorem releaseWith_failedTokens (o : Op) (st : Status) (s : State) :
    failedTokens (kept (releaseWith o st s)) = failedTokens (kept s) := by
  simp only [releaseWith]; (repeat' split) <;> simp

@[simp] theorem release_failedTokens (id : Nat) (s : State) : failedTokens (kept (release id s)) = failedTokens (kept s) := by
  simp only [release]; (repeat' split) <;> simp

@[simp] theorem watchdog_failedTokens (id : Nat) (s : State) : failedTokens (kept (watchdog id s)) = failedTokens (kept s) := by
  simp only [watchdog]; (repeat' split) <;> simp

@[simp] theorem retryLimit_failedTokens (opcode off id : Nat) (count : State → State) (s : State)
    (h : ∀ t, failedTokens (kept (count t)) = failedTokens (kept t)) :
    failedTokens (kept (retryLimit opcode off id count s)) = failedTokens (kept s) := by
  simp only [retryLimit]; (repeat' split) <;> simp [h]

@[simp] theorem cmRetryLimit_failedTokens (id : Nat) (s : State) : failedTokens (kept (cmRetryLimit id s)) = failedTokens (kept s) :=
  retryLimit_failedTokens _ _ _ _ s fun _ => rfl

@[simp] theorem rsaRetryLimit_failedTokens (id : Nat) (s : State) : failedTokens (kept (rsaRetryLimit id s)) = failedTokens (kept s) :=
  retryLimit_failedTokens _ _ _ _ s fun _ => rfl

@[simp] theorem abortRelease_failedTokens (id : Nat) (s : State) : failedTokens (kept (abortRelease id s)) = failedTokens (kept s) := by
  simp only [abortRelease]; (repeat' split) <;> simp

@[simp] theorem commitMember_failedTokens (s : State) (m : GroupMember) : failedTokens (kept (commitMember s m)) = failedTokens (kept s) :=
  foldl_failedTokens _ (fun t e => by dsimp only; (repeat' split) <;> simp) _ s

@[simp] theorem writeOutputs_failedTokens (cs : List Completion) (s : State) :
    failedTokens (kept (writeOutputs cs s).2) = failedTokens (kept s) := by
  have keep : ∀ (cs : List Completion) (acc : List Completion × State),
      failedTokens (kept (cs.foldl (fun acc c => let r := commitData .ok c acc.2; (acc.1 ++ r.1, r.2)) acc).2) = failedTokens (kept acc.2) := by
    intro cs
    induction cs with
    | nil => exact fun _ => rfl
    | cons c cs ih => exact fun acc => (ih _).trans (commitData_failedTokens _ c _)
  exact keep cs _

@[simp] theorem failOutput_failedTokens (g : Group) (k : Nat) (st : Status) (s : State) :
    failedTokens (kept (failOutput g k st s).2) = failedTokens (kept s) := by
  simp only [failOutput]; split <;> simp

@[simp] theorem groupOutcome_failedTokens (g : Group) (k : Nat) (st : Status) (s : State) :
    failedTokens (kept (groupOutcome g k st s).2.1) = failedTokens (kept s) := by
  simp only [groupOutcome]; (repeat' split) <;> simp

@[simp] theorem groupCommit_failedTokens (n : Nat) (st : Status) (k : Nat) (s : State) :
    failedTokens (kept (groupCommit n st k s)) = failedTokens (kept s) := by
  simp only [groupCommit]; (repeat' split) <;> simp

/-! Path -/

@[simp] theorem engineEnd_failedTokens (id : Nat) (s : State) : failedTokens (kept (engineEnd id s)) = failedTokens (kept s) := by
  simp only [engineEnd]; (repeat' split) <;> simp

@[simp] theorem faultMessage_failedTokens (wire : Nat) (s : State) :
    failedTokens (kept (faultMessage wire s)) = failedTokens (kept s) := by simp [faultMessage]

/-! Resets -/

@[simp] theorem resetVault_failedTokens (s : State) : failedTokens (kept (resetVault s)) = failedTokens (kept s) := by simp [resetVault]

@[simp] theorem flrDrop_failedTokens (s : State) : failedTokens (kept (flrDrop s)) = failedTokens (kept s) := by simp [flrDrop]

@[simp] theorem flrFree_failedTokens (s : State) : failedTokens (kept (flrFree s)) = failedTokens (kept s) := by simp [flrFree]

@[simp] theorem flrMode_failedTokens (s : State) : failedTokens (kept (flrMode s)) = failedTokens (kept s) := by
  simp only [flrMode]; split <;> simp

@[simp] theorem bootFail_failedTokens (code : Nat) (s : State) :
    failedTokens (kept (bootFail code s)) = failedTokens (kept s) := by simp [bootFail]

@[simp] theorem bootCheckers_failedTokens (bad : List Nat) (s : State) :
    failedTokens (kept (bootCheckers bad s)) = failedTokens (kept s) := by simp [bootCheckers]

@[simp] theorem bootOtp_failedTokens (b : BootInput) (s : State) : failedTokens (kept (bootOtp b s)) = failedTokens (kept s) := by
  simp [bootOtp, authFails_eq]

@[simp] theorem bootMarker_failedTokens (s : State) : failedTokens (kept (bootMarker s)) = failedTokens (kept s) := by
  simp only [bootMarker]; (repeat' split) <;> simp

@[simp] theorem bootEntropy_failedTokens (b : BootInput) (s : State) : failedTokens (kept (bootEntropy b s)) = failedTokens (kept s) := by
  simp only [bootEntropy]; (repeat' split) <;> simp

@[simp] theorem recoveryHold_failedTokens (s : State) :
    failedTokens (kept (recoveryHold s)) = failedTokens (kept s) := by simp [recoveryHold]

@[simp] theorem bootBank_failedTokens (b : BootInput) (s : State) : failedTokens (kept (bootBank b s)) = failedTokens (kept s) := by
  simp only [bootBank]; (repeat' split) <;> simp

@[simp] theorem bootSet_failedTokens (b : BootInput) (s : State) : failedTokens (kept (bootSet b s)) = failedTokens (kept s) := by
  simp only [bootSet]; (repeat' split) <;> simp

@[simp] theorem bootTests_failedTokens (kat : List (Nat × Nat)) (s : State) :
    failedTokens (kept (bootTests kat s)) = failedTokens (kept s) := by
  simp only [bootTests]; split <;> simp

@[simp] theorem bootConfirm_failedTokens (b : BootInput) (s : State) : failedTokens (kept (bootConfirm b s)) = failedTokens (kept s) := by
  simp only [bootConfirm]; (repeat' split) <;> simp

@[simp] theorem bootEnd_failedTokens (b : BootInput) (s : State) : failedTokens (kept (bootEnd b s)) = failedTokens (kept s) := by
  simp only [bootEnd]; split <;> simp

@[simp] theorem bootFirmware_failedTokens (b : BootInput) (s : State) : failedTokens (kept (bootFirmware b s)) = failedTokens (kept s) := by
  simp only [bootFirmware]; split <;> simp

@[simp] theorem fwStartTimeout_failedTokens (s : State) : failedTokens (kept (fwStartTimeout s)) = failedTokens (kept s) := by
  simp only [fwStartTimeout]; split <;> simp

end Sys2Proof.Machine
end

section
/-! SUPPORT. The rows of the catalogue: a run never takes a failed token back (R388). -/
namespace Sys2Proof.Machine

/-- Where eight of `n` tokens have failed, they have after the run, and what follows the run leaves the count alone. -/
structure Run.LockoutKept (r : Run) (n : Nat) : Prop where
  st : Machine.LockoutKept n (failedTokens (kept r.st))
  post : ∀ t, failedTokens (kept (r.post t)) = failedTokens (kept t)
  onFail : ∀ t, failedTokens (kept (r.onFail t)) = failedTokens (kept t)

@[simp] theorem Run.lockoutKept_iff (r : Run) (n : Nat) :
    r.LockoutKept n ↔ Machine.LockoutKept n (failedTokens (kept r.st)) ∧ (∀ t, failedTokens (kept (r.post t)) = failedTokens (kept t))
      ∧ ∀ t, failedTokens (kept (r.onFail t)) = failedTokens (kept t) :=
  ⟨fun h => ⟨h.st, h.post, h.onFail⟩, fun h => ⟨h.1, h.2.1, h.2.2⟩⟩

/-- An opcode's run keeps the lockout, and what a failure before dispatch leaves has the same count. -/
structure OpSpec.LockoutKept (sp : OpSpec) : Prop where
  run : ∀ s o i, (sp.run s o i).LockoutKept (failedTokens (kept s))
  early : ∀ st o s, failedTokens (kept (sp.early st o s)) = failedTokens (kept s)

@[simp] theorem ringCreateSpec_lockoutKept : ringCreateSpec.LockoutKept := by
  refine ⟨fun s o i => ?_, fun _ _ _ => rfl⟩; simp only [ringCreateSpec]; (repeat' split) <;> simp

@[simp] theorem ringDestroySpec_lockoutKept : ringDestroySpec.LockoutKept := by
  refine ⟨fun s o i => ?_, fun _ _ _ => rfl⟩; simp only [ringDestroySpec]; split <;> simp

@[simp] theorem ringCancelSpec_lockoutKept : ringCancelSpec.LockoutKept := by
  refine ⟨fun s o i => ?_, fun _ _ _ => rfl⟩; simp only [ringCancelSpec]; (repeat' split) <;> simp

@[simp] theorem faultAckSpec_lockoutKept : faultAckSpec.LockoutKept := by
  refine ⟨fun s o i => ?_, fun _ _ _ => rfl⟩; simp [faultAckSpec]

@[simp] theorem startGroupKey_after_failedTokens (s : State) (o : Op) (k : KeySlot) (stf : Option StfKey) (opdata : Bytes) (u : State) :
    failedTokens (kept ((startGroupKey s o k stf opdata).post u)) = failedTokens (kept u)
      ∧ failedTokens (kept ((startGroupKey s o k stf opdata).onFail u)) = failedTokens (kept u) := by
  simp only [startGroupKey]; split
  · exact ⟨rfl, rfl⟩
  · refine ⟨?_, rfl⟩; dsimp only; (repeat' split) <;> simp

@[simp] theorem createNow_after_failedTokens (s : State) (o : Op) (i : OpInput) (k : NewKey) (u : State) :
    failedTokens (kept ((createNow s o i k).post u)) = failedTokens (kept u)
      ∧ failedTokens (kept ((createNow s o i k).onFail u)) = failedTokens (kept u) := by
  simp only [createNow]; (repeat' split) <;> simp

@[simp] theorem createStaged_after_failedTokens (s : State) (o : Op) (i : OpInput) (k : NewKey) (u : State) :
    failedTokens (kept ((createStaged s o i k).post u)) = failedTokens (kept u)
      ∧ failedTokens (kept ((createStaged s o i k).onFail u)) = failedTokens (kept u) := by
  simp only [createStaged]; (repeat' split) <;> simp

@[simp] theorem effectNow_after_failedTokens (s : State) (o : Op) (e : KvEffect) (u : State) :
    failedTokens (kept ((effectNow s o e).post u)) = failedTokens (kept u)
      ∧ failedTokens (kept ((effectNow s o e).onFail u)) = failedTokens (kept u) := by
  simp only [effectNow]; split
  · exact ⟨rfl, rfl⟩
  · refine ⟨?_, rfl⟩; dsimp only; (repeat' split) <;> simp

@[simp] theorem bufCreateSpec_lockoutKept : bufCreateSpec.LockoutKept := by
  refine ⟨fun s o i => ?_, fun _ _ _ => rfl⟩; simp only [bufCreateSpec]; split <;> simp

@[simp] theorem bufLoadSpec_lockoutKept : bufLoadSpec.LockoutKept := by
  refine ⟨fun s o i => ?_, fun _ _ _ => rfl⟩; simp [bufLoadSpec]

@[simp] theorem bufFreeSpec_lockoutKept : bufFreeSpec.LockoutKept := by
  refine ⟨fun s o i => ?_, fun _ _ _ => rfl⟩; simp [bufFreeSpec]

@[simp] theorem stfKeygenSpec_lockoutKept : stfKeygenSpec.LockoutKept := by
  refine ⟨fun s o i => ?_, fun _ _ _ => rfl⟩; simp only [stfKeygenSpec]; (repeat' split) <;> simp

@[simp] theorem stfSignSpec_lockoutKept : stfSignSpec.LockoutKept := by
  refine ⟨fun s o i => ?_, fun _ _ _ => rfl⟩; simp only [stfSignSpec]; (repeat' split) <;> simp

@[simp] theorem stfVerifySpec_lockoutKept : stfVerifySpec.LockoutKept := by
  refine ⟨fun s o i => ?_, fun _ _ _ => rfl⟩; simp [stfVerifySpec]

@[simp] theorem stfSplitSpec_lockoutKept : stfSplitSpec.LockoutKept := by
  refine ⟨fun s o i => ?_, fun _ _ _ => rfl⟩; simp only [stfSplitSpec]; (repeat' split) <;> simp

@[simp] theorem stfStatusSpec_lockoutKept : stfStatusSpec.LockoutKept := by
  refine ⟨fun s o i => ?_, fun _ _ _ => rfl⟩; simp [stfStatusSpec]

@[simp] theorem sealedImportRun_after_failedTokens (s : State) (o : Op) (i : OpInput) (u : State) :
    failedTokens (kept ((sealedImportRun s o i).post u)) = failedTokens (kept u)
      ∧ failedTokens (kept ((sealedImportRun s o i).onFail u)) = failedTokens (kept u) := by
  simp only [sealedImportRun]; (repeat' split) <;> simp

@[simp] theorem importWrappedRun_after_failedTokens (s : State) (o : Op) (i : OpInput) (u : State) :
    failedTokens (kept ((importWrappedRun s o i).post u)) = failedTokens (kept u)
      ∧ failedTokens (kept ((importWrappedRun s o i).onFail u)) = failedTokens (kept u) := by
  simp only [importWrappedRun]; (repeat' split) <;> simp

@[simp] theorem importWrappedSpec_lockoutKept : importWrappedSpec.LockoutKept := by
  refine ⟨fun s o i => ?_, fun _ _ _ => rfl⟩; simp only [importWrappedSpec]; split <;> simp

@[simp] theorem importPublicSpec_lockoutKept : importPublicSpec.LockoutKept := by
  refine ⟨fun s o i => ?_, fun _ _ _ => rfl⟩; simp only [importPublicSpec]; split <;> simp

@[simp] theorem generateSpec_lockoutKept : generateSpec.LockoutKept := by
  refine ⟨fun s o i => ?_, fun _ _ _ => rfl⟩; simp [generateSpec]

@[simp] theorem deriveSpec_lockoutKept : deriveSpec.LockoutKept := by
  refine ⟨fun s o i => ?_, fun _ _ _ => rfl⟩; simp [deriveSpec]

@[simp] theorem exportWrappedSpec_lockoutKept : exportWrappedSpec.LockoutKept := by
  refine ⟨fun s o i => ?_, fun _ _ _ => rfl⟩; simp [exportWrappedSpec]

@[simp] theorem exportPublicSpec_lockoutKept : exportPublicSpec.LockoutKept := by
  refine ⟨fun s o i => ?_, fun _ _ _ => rfl⟩; simp [exportPublicSpec]

@[simp] theorem setAttrSpec_lockoutKept : setAttrSpec.LockoutKept := by
  refine ⟨fun s o i => ?_, fun _ _ _ => rfl⟩; simp only [setAttrSpec]; (repeat' split) <;> simp

@[simp] theorem invalidateSpec_lockoutKept : invalidateSpec.LockoutKept := by
  refine ⟨fun s o i => ?_, fun _ _ _ => rfl⟩; simp [invalidateSpec]

@[simp] theorem persistSpec_lockoutKept : persistSpec.LockoutKept := by
  refine ⟨fun s o i => ?_, fun _ _ _ => rfl⟩; simp only [persistSpec]; (repeat' split) <;> simp

@[simp] theorem destroySpec_lockoutKept : destroySpec.LockoutKept := by
  refine ⟨fun s o i => ?_, fun _ _ _ => rfl⟩; simp [destroySpec]

@[simp] theorem randomSpec_lockoutKept : randomSpec.LockoutKept := by
  refine ⟨fun s o i => ?_, fun _ _ _ => rfl⟩; simp [randomSpec]

@[simp] theorem slhKeygenSpec_lockoutKept : slhKeygenSpec.LockoutKept := by
  have top : ∀ (c : Option Nat) (set : Nat) (t : State),
      failedTokens (kept ((c.map (fun n => takeTop n set t)).getD t)) = failedTokens (kept t) := by
    intro c; cases c <;> simp
  refine ⟨fun s o i => ?_, fun _ _ _ => rfl⟩; simp [slhKeygenSpec, top]

@[simp] theorem slhSignSpec_lockoutKept : slhSignSpec.LockoutKept := by
  refine ⟨fun s o i => ?_, fun _ _ _ => rfl⟩; simp only [slhSignSpec]; (repeat' split) <;> simp

@[simp] theorem slhVerifySpec_lockoutKept : slhVerifySpec.LockoutKept := by
  refine ⟨fun s o i => ?_, fun _ _ _ => rfl⟩; simp [slhVerifySpec]

@[simp] theorem slhPinSpec_lockoutKept : slhPinSpec.LockoutKept := by
  refine ⟨fun s o i => ?_, fun _ _ _ => rfl⟩; simp only [slhPinSpec]; (repeat' split) <;> simp

@[simp] theorem slhUnpinSpec_lockoutKept : slhUnpinSpec.LockoutKept := by
  refine ⟨fun s o i => ?_, fun _ _ _ => rfl⟩; simp only [slhUnpinSpec]; split <;> simp

@[simp] theorem treeBuildSpec_lockoutKept : treeBuildSpec.LockoutKept := by
  refine ⟨fun s o i => ?_, fun _ _ _ => rfl⟩; simp [treeBuildSpec]

@[simp] theorem treeReducedSpec_lockoutKept : treeReducedSpec.LockoutKept := by
  refine ⟨fun s o i => ?_, fun _ _ _ => rfl⟩; simp only [treeReducedSpec]; split <;> simp

@[simp] theorem injectSpec_lockoutKept : injectSpec.LockoutKept := by
  refine ⟨fun s o i => ?_, fun _ _ _ => rfl⟩; simp [injectSpec]

@[simp] theorem injectArmSpec_lockoutKept : injectArmSpec.LockoutKept := ⟨injectSpec_lockoutKept.run, injectSpec_lockoutKept.early⟩

@[simp] theorem injectDisarmSpec_lockoutKept : injectDisarmSpec.LockoutKept := ⟨injectSpec_lockoutKept.run, injectSpec_lockoutKept.early⟩

@[simp] theorem charterLoadSpec_lockoutKept : charterLoadSpec.LockoutKept := by
  refine ⟨fun s o i => ?_, fun _ _ _ => rfl⟩; simp only [charterLoadSpec]; (repeat' split) <;> simp

@[simp] theorem groupControlRun_after_failedTokens (s : State) (o : Op) (u : State) :
    failedTokens (kept ((groupControlRun s o).post u)) = failedTokens (kept u)
      ∧ failedTokens (kept ((groupControlRun s o).onFail u)) = failedTokens (kept u) := by
  simp only [groupControlRun]; (repeat' split) <;> simp

@[simp] theorem groupControlSpec_lockoutKept : groupControlSpec.LockoutKept := by
  refine ⟨fun s o i => ?_, fun _ _ _ => rfl⟩; simp [groupControlSpec]

@[simp] theorem groupRow_lockoutKept (op : Nat) : (groupRow op).LockoutKept :=
  ⟨groupControlSpec_lockoutKept.run, groupControlSpec_lockoutKept.early⟩

@[simp] theorem secretOut_after_failedTokens (s : State) (o : Op) (i : OpInput) (ct ss : Bytes) (keyField : Nat) (u : State) :
    failedTokens (kept ((secretOut s o i ct ss keyField).post u)) = failedTokens (kept u)
      ∧ failedTokens (kept ((secretOut s o i ct ss keyField).onFail u)) = failedTokens (kept u) := by
  simp only [secretOut]; split <;> simp

@[simp] theorem kemKeygenSpec_lockoutKept : kemKeygenSpec.LockoutKept := by
  refine ⟨fun s o i => ?_, fun _ _ _ => rfl⟩; simp only [kemKeygenSpec]; split <;> simp

@[simp] theorem kemEncapsSpec_lockoutKept : kemEncapsSpec.LockoutKept := by
  refine ⟨fun s o i => ?_, fun _ _ _ => rfl⟩; simp only [kemEncapsSpec]; split <;> simp

@[simp] theorem kemDecapsSpec_lockoutKept : kemDecapsSpec.LockoutKept := by
  refine ⟨fun s o i => ?_, fun _ _ _ => rfl⟩; simp only [kemDecapsSpec]; split <;> simp

@[simp] theorem mldsaKeygenSpec_lockoutKept : mldsaKeygenSpec.LockoutKept := by
  refine ⟨fun s o i => ?_, fun _ _ _ => rfl⟩; simp [mldsaKeygenSpec]

@[simp] theorem mldsaSignSpec_lockoutKept : mldsaSignSpec.LockoutKept := by
  refine ⟨fun s o i => ?_, fun _ _ _ => rfl⟩; simp [mldsaSignSpec]

@[simp] theorem mldsaVerifySpec_lockoutKept : mldsaVerifySpec.LockoutKept := by
  refine ⟨fun s o i => ?_, fun _ _ _ => rfl⟩; simp [mldsaVerifySpec]

@[simp] theorem fndsaVerifySpec_lockoutKept : fndsaVerifySpec.LockoutKept := by
  refine ⟨fun s o i => ?_, fun _ _ _ => rfl⟩; simp only [fndsaVerifySpec]; split <;> simp

@[simp] theorem cmKeygenSpec_lockoutKept : cmKeygenSpec.LockoutKept := by
  refine ⟨fun s o i => ?_, fun _ _ _ => rfl⟩; simp [cmKeygenSpec]

@[simp] theorem cmEncapsSpec_lockoutKept : cmEncapsSpec.LockoutKept := by
  refine ⟨fun s o i => ?_, fun _ _ _ => rfl⟩; simp only [cmEncapsSpec]; split <;> simp

@[simp] theorem cmDecapsSpec_lockoutKept : cmDecapsSpec.LockoutKept := by
  refine ⟨fun s o i => ?_, fun _ _ _ => rfl⟩; simp [cmDecapsSpec]

@[simp] theorem hqcKeygenSpec_lockoutKept : hqcKeygenSpec.LockoutKept := by
  refine ⟨fun s o i => ?_, fun _ _ _ => rfl⟩; simp [hqcKeygenSpec]

@[simp] theorem hqcEncapsSpec_lockoutKept : hqcEncapsSpec.LockoutKept := by
  refine ⟨fun s o i => ?_, fun _ _ _ => rfl⟩; simp [hqcEncapsSpec]

@[simp] theorem hqcDecapsSpec_lockoutKept : hqcDecapsSpec.LockoutKept := by
  refine ⟨fun s o i => ?_, fun _ _ _ => rfl⟩; simp [hqcDecapsSpec]

@[simp] theorem streamOpenSpec_lockoutKept : streamOpenSpec.LockoutKept := by
  refine ⟨fun s o i => ?_, fun _ _ _ => rfl⟩; simp only [streamOpenSpec]; split <;> simp

@[simp] theorem streamFeedSpec_lockoutKept : streamFeedSpec.LockoutKept := by
  refine ⟨fun s o i => ?_, fun _ _ _ => rfl⟩; simp only [streamFeedSpec]; split <;> simp

@[simp] theorem streamTailSpec_lockoutKept : streamTailSpec.LockoutKept := by
  refine ⟨fun s o i => ?_, fun st o s => ?_⟩ <;> simp only [streamTailSpec] <;> (repeat' split) <;> simp

@[simp] theorem streamSaveSpec_lockoutKept : streamSaveSpec.LockoutKept := by
  refine ⟨fun s o i => ?_, fun _ _ _ => rfl⟩; simp only [streamSaveSpec]; split <;> simp

@[simp] theorem streamRestoreSpec_lockoutKept : streamRestoreSpec.LockoutKept := by
  refine ⟨fun s o i => ?_, fun _ _ _ => rfl⟩; simp only [streamRestoreSpec]; (repeat' split) <;> simp

@[simp] theorem digestSpec_lockoutKept : digestSpec.LockoutKept := by
  refine ⟨fun s o i => ?_, fun _ _ _ => rfl⟩; simp [digestSpec]

@[simp] theorem digestCompareSpec_lockoutKept : digestCompareSpec.LockoutKept := by
  refine ⟨fun s o i => ?_, fun _ _ _ => rfl⟩; simp [digestCompareSpec]

@[simp] theorem macSpec_lockoutKept : macSpec.LockoutKept := by
  refine ⟨fun s o i => ?_, fun _ _ _ => rfl⟩; simp [macSpec]

@[simp] theorem macCompareSpec_lockoutKept : macCompareSpec.LockoutKept := by
  refine ⟨fun s o i => ?_, fun _ _ _ => rfl⟩; simp [macCompareSpec]

@[simp] theorem gcmEncryptSpec_lockoutKept : gcmEncryptSpec.LockoutKept := by
  refine ⟨fun s o i => ?_, fun _ _ _ => rfl⟩; simp [gcmEncryptSpec]

@[simp] theorem gcmDecryptSpec_lockoutKept : gcmDecryptSpec.LockoutKept := by
  refine ⟨fun s o i => ?_, fun _ _ _ => rfl⟩; simp only [gcmDecryptSpec]; split <;> simp

@[simp] theorem checkedKey_after_failedTokens (s : State) (o : Op) (i : OpInput) (r : Run) (u : State)
    (h : failedTokens (kept (r.post u)) = failedTokens (kept u) ∧ failedTokens (kept (r.onFail u)) = failedTokens (kept u)) :
    failedTokens (kept ((checkedKey s o i r).post u)) = failedTokens (kept u)
      ∧ failedTokens (kept ((checkedKey s o i r).onFail u)) = failedTokens (kept u) := by
  simp only [checkedKey]; split <;> simp [h]

@[simp] theorem ecKeygenSpec_lockoutKept : ecKeygenSpec.LockoutKept := by
  refine ⟨fun s o i => ?_, fun _ _ _ => rfl⟩; simp only [ecKeygenSpec]; split <;> simp

@[simp] theorem ecdsaSignSpec_lockoutKept : ecdsaSignSpec.LockoutKept := by
  refine ⟨fun s o i => ?_, fun _ _ _ => rfl⟩; simp [ecdsaSignSpec]

@[simp] theorem ecdsaVerifySpec_lockoutKept : ecdsaVerifySpec.LockoutKept := by
  refine ⟨fun s o i => ?_, fun _ _ _ => rfl⟩; simp only [ecdsaVerifySpec]; split <;> simp

@[simp] theorem eddsaSignSpec_lockoutKept : eddsaSignSpec.LockoutKept := by
  refine ⟨fun s o i => ?_, fun _ _ _ => rfl⟩; simp [eddsaSignSpec]

@[simp] theorem eddsaVerifySpec_lockoutKept : eddsaVerifySpec.LockoutKept := by
  refine ⟨fun s o i => ?_, fun _ _ _ => rfl⟩; simp only [eddsaVerifySpec]; split <;> simp

@[simp] theorem ecdhSpec_lockoutKept : ecdhSpec.LockoutKept := by
  refine ⟨fun s o i => ?_, fun _ _ _ => rfl⟩; simp only [ecdhSpec]; split <;> simp

@[simp] theorem rsaKeygenSpec_lockoutKept : rsaKeygenSpec.LockoutKept := by
  refine ⟨fun s o i => ?_, fun _ _ _ => rfl⟩; simp [rsaKeygenSpec]

@[simp] theorem rsaSignSpec_lockoutKept : rsaSignSpec.LockoutKept := by
  refine ⟨fun s o i => ?_, fun _ _ _ => rfl⟩; simp [rsaSignSpec]

@[simp] theorem rsaVerifySpec_lockoutKept : rsaVerifySpec.LockoutKept := by
  refine ⟨fun s o i => ?_, fun _ _ _ => rfl⟩; simp only [rsaVerifySpec]; split <;> simp

@[simp] theorem rsaEncryptSpec_lockoutKept : rsaEncryptSpec.LockoutKept := by
  refine ⟨fun s o i => ?_, fun _ _ _ => rfl⟩; simp only [rsaEncryptSpec]; split <;> simp

@[simp] theorem rsaDecryptSpec_lockoutKept : rsaDecryptSpec.LockoutKept := by
  refine ⟨fun s o i => ?_, fun _ _ _ => rfl⟩; simp only [rsaDecryptSpec]; split <;> simp

@[simp] theorem dsaVerifySpec_lockoutKept : dsaVerifySpec.LockoutKept := by
  refine ⟨fun s o i => ?_, fun _ _ _ => rfl⟩; simp only [dsaVerifySpec]; split <;> simp

/-! #### Parts of compound operations -/

theorem signSpec_lockoutKept (suite : Nat) : (signSpec suite).LockoutKept := by
  simp only [signSpec]; split <;> simp

theorem verifySpec_lockoutKept (suite : Nat) : (verifySpec suite).LockoutKept := by
  simp only [verifySpec]; (repeat' split) <;> simp

theorem signPart_lockoutKept (s : State) (o : Op) (i : OpInput) (suite det key : Nat) (m : Bytes) :
    (signPart s o i suite det key m).LockoutKept (failedTokens (kept s)) := (signSpec_lockoutKept suite).run _ _ _

/-- The second part of a composite signature starts where the first ends. -/
theorem compositeSign_lockoutKept (s : State) (o : Op) (i : OpInput) (suite det : Nat) (ctx m : Bytes) :
    (compositeSign s o i suite det ctx m).LockoutKept (failedTokens (kept s)) := by
  have parts := fun k p k' q => (signPart_lockoutKept s o i (pairOf suite).1 det k p).st.trans
    (signPart_lockoutKept (signPart s o i (pairOf suite).1 det k p).st o i (pairOf suite).2 det k' q).st
  simp only [compositeSign]
  split <;> simp [parts]

@[simp] theorem compositeSignSpec_lockoutKept : compositeSignSpec.LockoutKept :=
  ⟨fun s o i => compositeSign_lockoutKept s o i _ _ _ _, fun _ _ _ => rfl⟩

@[simp] theorem compositeVerifySpec_lockoutKept : compositeVerifySpec.LockoutKept := by
  refine ⟨fun s o i => ?_, fun _ _ _ => rfl⟩; simp [compositeVerifySpec]

theorem oldSpec_lockoutKept (suite : Nat) : (oldSpec suite).LockoutKept := by
  simp only [oldSpec]; split
  · exact compositeVerifySpec_lockoutKept
  · exact verifySpec_lockoutKept suite

/-- A re-attestation verifies the old signature and signs the statement from where that ends. -/
@[simp] theorem reattestSpec_lockoutKept : reattestSpec.LockoutKept := by
  refine ⟨fun s o i => ?_, fun _ _ _ => rfl⟩
  have old := ((oldSpec_lockoutKept o.desc.suite).run s (oldOp o) i).st
  have one := fun t suite det k m => (signPart_lockoutKept t o i suite det k m).st
  have two := fun t suite det c m => (compositeSign_lockoutKept t o i suite det c m).st
  simp only [reattestSpec]
  (repeat' split) <;> simp [old, old.trans (one _ _ _ _ _), old.trans (two _ _ _ _ _)]

@[simp] theorem instCreateSpec_lockoutKept : instCreateSpec.LockoutKept := by
  refine ⟨fun s o i => ?_, fun _ _ _ => rfl⟩; simp only [instCreateSpec]; split <;> simp

@[simp] theorem instSetShareSpec_lockoutKept : instSetShareSpec.LockoutKept := by
  refine ⟨fun s o i => ?_, fun _ _ _ => rfl⟩; simp only [instSetShareSpec]; split <;> simp

@[simp] theorem instResetSpec_lockoutKept : instResetSpec.LockoutKept := by
  refine ⟨fun s o i => ?_, fun _ _ _ => rfl⟩; simp only [instResetSpec]; (repeat' split) <;> simp

@[simp] theorem instRemoveSpec_lockoutKept : instRemoveSpec.LockoutKept := by
  refine ⟨fun s o i => ?_, fun _ _ _ => rfl⟩; simp only [instRemoveSpec]; split <;> simp

@[simp] theorem modeSetSpec_lockoutKept : modeSetSpec.LockoutKept := by
  refine ⟨fun s o i => ?_, fun _ _ _ => rfl⟩; simp only [modeSetSpec]; (repeat' split) <;> simp

@[simp] theorem modeSetRow_lockoutKept (t : Nat) : (modeSetRow t).LockoutKept := ⟨modeSetSpec_lockoutKept.run, modeSetSpec_lockoutKept.early⟩

@[simp] theorem reinitSpec_lockoutKept : reinitSpec.LockoutKept := by
  refine ⟨fun s o i => ?_, fun _ _ _ => rfl⟩; simp [reinitSpec]

@[simp] theorem runTransition_after_failedTokens (t : Token) (cut : Option Cut) (s u : State) :
    failedTokens (kept ((runTransition t cut s).post u)) = failedTokens (kept u)
      ∧ failedTokens (kept ((runTransition t cut s).onFail u)) = failedTokens (kept u) := by
  unfold runTransition
  extract_lets
  split; · exact ⟨rfl, rfl⟩
  split
  extract_lets
  (repeat' split) <;> exact ⟨rfl, rfl⟩

@[simp] theorem transitionRun_after_failedTokens (t : Token) (reasons : List (Nat × Status)) (i : OpInput) (s u : State) :
    failedTokens (kept ((transitionRun t reasons i s).post u)) = failedTokens (kept u)
      ∧ failedTokens (kept ((transitionRun t reasons i s).onFail u)) = failedTokens (kept u) := by
  simp only [transitionRun]; (repeat' split) <;> simp

/-- The state once LC_TRANSITION has seen whether VDD_OTP is in its band (R389). -/
def supplySeen (vdd : Bool) (s : State) : State := { s with cus := { s.cus with vddOtpOk := vdd } }

@[simp] theorem supplySeen_failedTokens (vdd : Bool) (s : State) : failedTokens (kept (supplySeen vdd s)) = failedTokens (kept s) := rfl

theorem lcTransition_run (s : State) (o : Op) (i : OpInput) :
    lcTransitionSpec.run s o i =
      if (dataFails (lcTransitionSpec.uses o.desc) s o i).isEmpty then
        transitionRun (decodeToken (inBytes s o i)) (transitionReasons s o.desc.inLen (decodeToken (inBytes s o i)) i.vddOtp) i
          (supplySeen i.vddOtp s)
      else { st := supplySeen i.vddOtp s } := rfl

@[simp] theorem lcTransitionSpec_lockoutKept : lcTransitionSpec.LockoutKept := by
  refine ⟨fun s o i => ?_, fun _ _ _ => rfl⟩
  have ran := fun t reasons => transitionRun_lockoutKept t reasons i (supplySeen i.vddOtp s)
  rw [supplySeen_failedTokens] at ran
  rw [lcTransition_run]; split <;> simp [ran]

@[simp] theorem zeroiseSpec_lockoutKept : zeroiseSpec.LockoutKept := by
  refine ⟨fun s o i => ?_, fun _ _ _ => rfl⟩; simp only [zeroiseSpec]; (repeat' split) <;> simp

@[simp] theorem openSession_after_failedTokens (t : Token) (s u : State) :
    failedTokens (kept ((openSession t s).post u)) = failedTokens (kept u)
      ∧ failedTokens (kept ((openSession t s).onFail u)) = failedTokens (kept u) := by
  simp only [openSession]; split <;> simp

@[simp] theorem debugDo_after_failedTokens (mode : Nat) (record : Bytes) (s u : State) :
    failedTokens (kept ((debugDo mode record s).post u)) = failedTokens (kept u)
      ∧ failedTokens (kept ((debugDo mode record s).onFail u)) = failedTokens (kept u) := by
  simp only [debugDo]; (repeat' split) <;> simp

@[simp] theorem debugSpec_lockoutKept (mode : Nat) : (debugSpec mode).LockoutKept := by
  refine ⟨fun s o i => ?_, fun _ _ _ => rfl⟩; simp only [debugSpec]; split <;> simp

@[simp] theorem refuse_after_failedTokens (s : State) (st : Status) (r : Nat) (u : State) :
    failedTokens (kept ((refuse s st r).post u)) = failedTokens (kept u)
      ∧ failedTokens (kept ((refuse s st r).onFail u)) = failedTokens (kept u) := by
  simp [refuse]

@[simp] theorem recordLost_after_failedTokens (s u : State) : failedTokens (kept ((recordLost s).post u)) = failedTokens (kept u)
      ∧ failedTokens (kept ((recordLost s).onFail u)) = failedTokens (kept u) := by
  simp [recordLost]

@[simp] theorem stageSteps_after_failedTokens (o : Op) (i : OpInput) (s u : State) :
    failedTokens (kept ((stageSteps o i s).post u)) = failedTokens (kept u)
      ∧ failedTokens (kept ((stageSteps o i s).onFail u)) = failedTokens (kept u) := by
  simp only [stageSteps]; (repeat' split) <;> simp

@[simp] theorem updateStageSpec_lockoutKept : updateStageSpec.LockoutKept := by
  refine ⟨fun s o i => ?_, fun _ _ _ => rfl⟩; simp only [updateStageSpec]; (repeat' split) <;> simp

@[simp] theorem activateRun_after_failedTokens (s : State) (o : Op) (i : OpInput) (u : State) :
    failedTokens (kept ((activateRun s o i).post u)) = failedTokens (kept u)
      ∧ failedTokens (kept ((activateRun s o i).onFail u)) = failedTokens (kept u) := by
  simp only [activateRun]; (repeat' split) <;> simp

@[simp] theorem activateSpec_lockoutKept : activateSpec.LockoutKept := by
  refine ⟨fun s o i => ?_, fun _ _ _ => rfl⟩; simp [activateSpec]

@[simp] theorem activateHitless_lockoutKept : activateHitless.LockoutKept := ⟨activateSpec_lockoutKept.run, activateSpec_lockoutKept.early⟩

@[simp] theorem activateReset_lockoutKept : activateReset.LockoutKept := ⟨activateSpec_lockoutKept.run, activateSpec_lockoutKept.early⟩

@[simp] theorem debugAuthSpec_lockoutKept : debugAuthSpec.LockoutKept := ⟨(debugSpec_lockoutKept 1).run, (debugSpec_lockoutKept 1).early⟩

@[simp] theorem settingWriteSpec_lockoutKept : settingWriteSpec.LockoutKept := by
  refine ⟨fun s o i => ?_, fun _ _ _ => rfl⟩; simp only [settingWriteSpec]; (repeat' split) <;> simp

end Sys2Proof.Machine
end

section
/-! SUPPORT. A dispatch, and every other command but a cold reset, keeps the lockout (R388). -/
namespace Sys2Proof.Machine

/-! #### Dispatch -/

/-- A direct output that overlaps its input changes the bytes of the output alone. -/
theorem spoilOverlap_lockoutKept (o : Op) (r : Run) (digests : Bytes) (n : Nat) :
    (spoilOverlap o r digests).1.LockoutKept n ↔ r.LockoutKept n := by
  simp only [spoilOverlap]; split <;> simp

theorem dispatchEngine_lockoutKept {sp : OpSpec} (h : sp.LockoutKept) (o : Op) (i : OpInput) (s : State) :
    LockoutKept (failedTokens (kept s)) (failedTokens (kept (dispatchEngine sp o i s))) := by
  unfold dispatchEngine
  extract_lets s₁ o₁ r operands outside fails r₁ digests
  have h₁ : failedTokens (kept s₁) = failedTokens (kept s) := by
    simp only [s₁]; split <;> simp
  have hr : r.LockoutKept (failedTokens (kept s)) := by
    have := h.run (updOp o₁.id (fun _ => o₁) s₁) o₁ i
    rwa [kept_updOp, h₁] at this
  have hr₁ : r₁.LockoutKept (failedTokens (kept s)) := by
    simp only [r₁]; split
    · simpa [h₁] using ⟨hr.post, hr.onFail⟩
    · exact hr
  rw [← spoilOverlap_lockoutKept o₁ r₁ digests] at hr₁
  split
  rename_i r₂ digests₂ hx
  rw [hx] at hr₁
  extract_lets t₁ t₂ t₃ t₄
  have h₃ : failedTokens (kept t₃) = failedTokens (kept r₂.st) := by
    simp only [t₃, t₂, t₁]; split <;> simp
  have h₄ : failedTokens (kept t₄) = failedTokens (kept r₂.st) := by
    simp only [t₄]; split
    · exact h₃
    · rw [hr₁.onFail, h₃]
  split
  · rw [hr₁.post, h₄]; exact hr₁.st
  · rw [kept_unAsk, h₄]; exact hr₁.st

theorem dispatchManagement_lockoutKept {sp : OpSpec} (h : sp.LockoutKept) (o : Op) (i : OpInput) (s : State) :
    LockoutKept (failedTokens (kept s)) (failedTokens (kept (dispatchManagement sp o i s))) := by
  have run := fun p => (h.run (updOp o.id (fun _ => p) s) p i).st
  simp only [kept_updOp] at run
  simp only [dispatchManagement]
  split <;> simpa using run _

@[simp] theorem dispatchAs_lockoutKept {sp : OpSpec} (h : sp.LockoutKept) (id : Nat) (i : OpInput) (s : State) :
    LockoutKept (failedTokens (kept s)) (failedTokens (kept (dispatchAs sp id i s))) := by
  simp only [dispatchAs]
  split
  · exact .refl _
  · split
    · exact .refl _
    · split
      · rw [endEarly_failedTokens, h.early]; exact .refl _
      · split
        · exact dispatchManagement_lockoutKept h _ i s
        · exact dispatchEngine_lockoutKept h _ i s

theorem catalogue_lockoutKept : ∀ sp ∈ catalogue, sp.LockoutKept := by
  simp [catalogue, catalogueLat, catalogueHf, catalogueCode, catalogueLn, catalogueFx, catalogueKv, catalogueMgmt]

theorem dispatch_lockoutKept (id : Nat) (i : OpInput) (s : State) :
    LockoutKept (failedTokens (kept s)) (failedTokens (kept (dispatch id i s))) := by
  simp only [dispatch]
  split
  · exact .refl _
  · next sp h =>
    obtain ⟨o, -, ho⟩ := Option.bind_eq_some_iff.1 h
    exact dispatchAs_lockoutKept (catalogue_lockoutKept sp (List.mem_of_find?_eq_some ho)) id i s

/-! #### Resets -/

@[simp] theorem warmReset_failedTokens (cause : Nat) (s : State) : failedTokens (kept (warmReset cause s)) = failedTokens (kept s) := by
  simp [warmReset, hardReset, resetCustody, authFails_eq]

@[simp] theorem flr_failedTokens (s : State) : failedTokens (kept (flr s)) = failedTokens (kept s) := by
  simp [flr]

@[simp] theorem whenBooting_failedTokens {f : State → State} (h : ∀ t, failedTokens (kept (f t)) = failedTokens (kept t)) (s : State) :
    failedTokens (kept (whenBooting f s)) = failedTokens (kept s) := by
  simp only [whenBooting]; split
  · exact h s
  · rfl

@[simp] theorem boot_failedTokens (b : BootInput) (s : State) : failedTokens (kept (boot b s)) = failedTokens (kept s) := by
  simp only [boot]
  split <;> simp

/-! #### Register writes of the host -/

@[simp] theorem sysReset_failedTokens (w : Nat) (s : State) : failedTokens (kept (sysReset w s)) = failedTokens (kept s) := by
  simp only [sysReset]; split <;> simp

@[simp] theorem bar0Word_failedTokens (off v : Nat) (s : State) : failedTokens (kept (bar0Word off v s)) = failedTokens (kept s) := by
  simp only [bar0Word]
  cases regAt off <;> simp [kept_ite, apply_ite failedTokens]

@[simp] theorem registerWrite_failedTokens (bar off width v : Nat) (s : State) :
    failedTokens (kept (registerWrite bar off width v s)) = failedTokens (kept s) := by
  simp only [registerWrite]; (repeat' split) <;> simp

/-! #### Every command -/

/-- Where a command has a next state and eight tokens have failed before it, they have after it. -/
def NextLockoutKept (n : Nat) (x : Host.Outcome State Fault Refusal) : Prop := ∀ t, x = .next t → LockoutKept n (failedTokens (kept t))

theorem NextLockoutKept.next {n : Nat} {t : State} (h : LockoutKept n (failedTokens (kept t))) : NextLockoutKept n (.next t) := by
  rintro _ ⟨⟩; exact h

theorem execRegisterWrite_lockoutKept (bar off width v : Nat) (s : State) :
    NextLockoutKept (failedTokens (kept s)) (execRegisterWrite bar off width v s) := by
  unfold execRegisterWrite
  cases inBar bar off
  · rintro t ⟨⟩
  · exact .next (by simp)

/-- Every command but a cold reset keeps the lockout (R388). -/
theorem exec_lockoutKept (c : Instr) (s : State) (cold : c ≠ .coldReset) (trip : ∀ n mv, c ≠ .supplyResetTrip n mv) :
    NextLockoutKept (failedTokens (kept s)) (exec c s) := by
  cases c with
  | coldReset => exact absurd rfl cold
  | supplyResetTrip n mv => exact absurd rfl (trip n mv)
  | registerWrite bar off width v => exact execRegisterWrite_lockoutKept bar off width v s
  | tapAccess code data => exact .next (tapAccess_lockoutKept code data s)
  | dispatch op i => exact .next (dispatch_lockoutKept op i s)
  | warmReset cause => refine .next ?_; split <;> simp
  | custodyReset => refine .next ?_; (repeat' split) <;> simp
  | flr => refine .next ?_; split <;> simp
  | faultnHoldEnd => refine .next ?_; split <;> simp
  | _ => exact .next (by simp)

end Sys2Proof.Machine
end

section
/-! SUPPORT. A token that is refused: its operation completes with the reason, and is counted (17_lifecycle R387, R388). -/
namespace Sys2Proof.Machine

variable {sp : OpSpec} {s u : State} {op n : Nat} {i : OpInput} {o : Op} {r : Ring}

/-! #### A note of the device's own leaves the operations and custody alone -/

/-- What an operation's completion reads, and the custody state. -/
def work (s : State) : Queues × List (Nat × Inst) × Custody := (s.qm, s.im.insts, s.cus)

@[simp] theorem raise_work (k detail : Nat) (s : State) : work (raise_ k detail s) = work s := by
  simp only [raise_, wakePme]; (repeat' split) <;> rfl

@[simp] theorem updFc_work (f : Collector → Collector) (s : State) : work (updFc f s) = work s := rfl

theorem foldl_work {α : Type} (f : State → α → State) (h : ∀ t x, work (f t x) = work t) :
    ∀ (l : List α) (s : State), work (l.foldl f s) = work s
  | [], _ => rfl
  | x :: l, s => by rw [List.foldl_cons, foldl_work f h l, h]

@[simp] theorem logRec_work (r : FaultRec) (s : State) : work (logRec r s) = work s := by
  simp only [logRec]; split <;> simp

@[simp] theorem closeWindow_work (s : State) : work (closeWindow s) = work s := by
  simp only [closeWindow]; (repeat' split) <;> simp [foldl_work]

@[simp] theorem placeRec_work (r : FaultRec) (s : State) : work (placeRec r s) = work s := by
  simp only [placeRec]; (repeat' split) <;> simp

@[simp] theorem clearLive_work (src : Nat) (s : State) : work (clearLive src s) = work s := by simp [clearLive]

@[simp] theorem record_work (m : FaultMsg) (s : State) : work (record m s).1 = work s := by
  simp only [record]; split <;> split <;> simp

@[simp] theorem note_work (src kind addr : Nat) (s : State) : work (note src kind addr s) = work s := by
  simp only [note, assertFaultN]; split <;> simp

/-! #### A management operation that fails -/

/-- The state a management operation runs in: its record says that it runs. -/
def managedState (s : State) (o : Op) (i : OpInput) : State := updOp o.id (fun _ => dispatchedOp s o 0 i) s

theorem managedState_same (s : State) (o : Op) (i : OpInput) : sameReads s (managedState s o i) o (dispatchedOp s o 0 i) :=
  ⟨rfl, rfl, rfl, ⟨_, rfl⟩, rfl, rfl, rfl, rfl⟩

/-- A management operation on its own whose run finds a failure completes with it, and custody is left as the run leaves it. -/
theorem Managed.completes {st : Status} {x : Run} (h : Managed sp s op i o r) (hc : sp.opcode / 256 = 0x0F)
    (hx : sp.run (managedState s o i) (dispatchedOp s o 0 i) i = x) (hf : x.fails = [st]) (hw : (x.st.qm, x.st.im.insts) = (s.qm, s.im.insts)) :
    Completed (dispatchAs sp op i s) o r st .none x.opdata ∧ (dispatchAs sp op i s).cus = x.st.cus := by
  have hrun : dispatchAs sp op i s
      = settle (dispatchedOp s o 0 i) (mkCompletion x.st (dispatchedOp s o 0 i) st .none [] x.opdata) x.st := by
    rw [dispatchAs_managed h.clear (by rw [opClass, h.clear.opcode, hc])]
    have data : dataFails (sp.uses o.desc) s (dispatchedOp s o 0 i) i = [] :=
      (dataFails_same ⟨rfl, rfl, rfl, ⟨_, rfl⟩, rfl, rfl, rfl, rfl⟩ _ i).trans h.clear.operands
    unfold dispatchManagement
    extract_lets p d q y
    have hd : d = [] := data
    have hq : q = p := by simp only [q, hd, List.contains_nil, Bool.or_false]
    have hy : y = x := by simp only [y, hq]; exact hx
    simp only [hy, hq, hd, hf, List.nil_append, firstSlot, leastBy, p]
  have alone : Alone x.st (dispatchedOp s o 0 i) r := by
    obtain ⟨h1, h2, h3, h4, h5⟩ := h.alone
    obtain ⟨hq, hi⟩ := Prod.mk.inj hw
    exact ⟨by simpa [ring?, hq] using h1, h2, h3, h4, h5.trans (by simp [instOf, hi])⟩
  rw [hrun]
  refine ⟨settle_completed alone _ rfl rfl, ?_⟩
  rw [settle_alone alone]; simp [pushOut]

/-- The same of a run that leaves a counted token: the completion carries AUTH_FAILED and the reason, and nothing else of custody changes
than in `u`. -/
theorem Managed.refused {x : Run} (h : Managed sp s op i o r) (hc : sp.opcode / 256 = 0x0F)
    (hx : sp.run (managedState s o i) (dispatchedOp s o 0 i) i = x) (hf : x.fails = [.authFailed]) (hd : x.opdata = instReason n)
    (hw : work x.st = work (countAuth u)) (hu : (u.qm, u.im.insts) = (s.qm, s.im.insts)) :
    Completed (dispatchAs sp op i s) o r .authFailed .none (instReason n) ∧ (dispatchAs sp op i s).cus = (countAuth u).cus := by
  simp only [work, Prod.mk.injEq] at hw
  obtain ⟨hq, hi, hcus⟩ := hw
  have done := h.completes hc hx hf (by rw [hq, hi]; exact hu)
  rwa [hd, hcus] at done

/-! #### LC_TRANSITION -/

/-- Once locked out, the first reason is 9. -/
theorem transitionReasons_locked (h : lockedOut s = true) (len : Nat) (t : Token) (vdd : Bool) :
    ∃ l, transitionReasons s len t vdd = (9, .authFailed) :: l := by
  simp only [transitionReasons, h, if_true]; exact ⟨_, rfl⟩

theorem lcTransition_refused {l : List (Nat × Status)} (h : Managed lcTransitionSpec s op i o r)
    (hr : transitionReasons s o.desc.inLen (decodeToken (inBytes s o i)) i.vddOtp = (n, .authFailed) :: l) :
    Completed (dispatchAs lcTransitionSpec op i s) o r .authFailed .none (instReason n)
      ∧ (dispatchAs lcTransitionSpec op i s).cus = (countAuth (supplySeen i.vddOtp s)).cus := by
  have same := managedState_same s o i
  have reasons : transitionReasons (managedState s o i) o.desc.inLen (decodeToken (inBytes s o i)) i.vddOtp = (n, .authFailed) :: l := hr
  refine h.refused (u := supplySeen i.vddOtp (managedState s o i)) rfl (lcTransition_run _ _ i) ?_ ?_ ?_ rfl
  all_goals simp [dataFails_same same, inBytes_same same, h.clear.operands, reasons, transitionRun]

/-! #### DEBUG_AUTH -/

theorem debug_run (mode : Nat) (s : State) (o : Op) (i : OpInput) :
    (debugSpec mode).run s o i =
      if !(dataFails ((debugSpec mode).uses o.desc) s o i).isEmpty then { st := s } else debugDo (debugMode s o i) (inBytes s o i) s := rfl

theorem debug_refused {mode : Nat} (h : Managed (debugSpec mode) s op i o r) (hu : (u.qm, u.im.insts) = (s.qm, s.im.insts))
    (hd : debugDo (debugMode s o i) (inBytes s o i) (managedState s o i)
      = { st := note 0x165 2 n (countAuth u), fails := [.authFailed], opdata := instReason n }) :
    Completed (dispatchAs (debugSpec mode) op i s) o r .authFailed .none (instReason n)
      ∧ (dispatchAs (debugSpec mode) op i s).cus = (countAuth u).cus := by
  have same := managedState_same s o i
  have modes : debugMode (managedState s o i) (dispatchedOp s o 0 i) i = debugMode s o i := by
    simp only [debugMode, inBytes_same same]
  have hx : (debugSpec mode).run (managedState s o i) (dispatchedOp s o 0 i) i
      = { st := note 0x165 2 n (countAuth u), fails := [.authFailed], opdata := instReason n } := by
    rw [debug_run, dispatchedOp_desc, dataFails_same same, h.clear.operands, inBytes_same same, modes, hd]; rfl
  exact h.refused (by simp [debugSpec]) hx rfl rfl (note_work ..) hu

/-- Once locked out, every mode is refused with reason 9. -/
theorem debugDo_locked (h : lockedOut s = true) (mode : Nat) (record : Bytes) :
    debugDo mode record s = { st := note 0x165 2 9 (countAuth s), fails := [.authFailed], opdata := instReason 9 } := by
  simp only [debugDo, h, if_true]

end Sys2Proof.Machine
end

section
/-! O59: eight failed tokens lock LC_TRANSITION and DEBUG_AUTH out until a cold reset (17_lifecycle R388). -/
namespace Sys2Proof.Machine

variable {s u : State} {op n : Nat} {i : OpInput} {o : Op} {r : Ring}

theorem lockedOut_iff (s : State) : lockedOut s = true ↔ 8 ≤ s.cus.authFails := decide_eq_true_iff

/-- Below eight, a failed token adds one to the count. -/
theorem countAuth_authFails (h : lockedOut s = false) (hu : u.cus.authFails = s.cus.authFails) :
    (countAuth u).cus.authFails = s.cus.authFails + 1 := by
  have below : ¬ 8 ≤ s.cus.authFails := by rw [← lockedOut_iff, h]; simp
  simp only [countAuth, updCus_cus, sat, hu]; omega

/-- A debug token that fails an authentication before the lockout is counted. -/
theorem debugOpen_counted {l : List (Nat × Status)} (free : lockedOut s = false) (h : Managed (debugSpec 2) s op i o r)
    (mode : debugMode s o i = 2) (hr : debugReasons s (decodeToken ((inBytes s o i).drop 4)) = (n, .authFailed) :: l) :
    Completed (dispatchAs (debugSpec 2) op i s) o r .authFailed .none (instReason n)
      ∧ (dispatchAs (debugSpec 2) op i s).cus.authFails = s.cus.authFails + 1 := by
  set t := decodeToken ((inBytes s o i).drop 4)
  have reasons : debugReasons (managedState s o i) t = (n, .authFailed) :: l := hr
  have unlocked : lockedOut (managedState s o i) = false := free
  have run : debugDo (debugMode s o i) (inBytes s o i) (managedState s o i)
      = { st := note 0x165 2 n (countAuth (spendChallenge t.data (managedState s o i))), fails := [.authFailed], opdata := instReason n } := by
    simp only [mode, debugDo, unlocked, Bool.false_eq_true, if_false]
    simp [openSession_of_reason reasons, t]
  have beside : ((spendChallenge t.data (managedState s o i)).qm, (spendChallenge t.data (managedState s o i)).im.insts) = (s.qm, s.im.insts) := by
    obtain ⟨c, spent⟩ := spendChallenge_eq t.data (managedState s o i)
    rw [spent]; rfl
  obtain ⟨done, cus⟩ := debug_refused h beside run
  exact ⟨done, by rw [cus]; exact countAuth_authFails free (spendChallenge_failedTokens t.data (managedState s o i))⟩

/-- A locked-out DEBUG_AUTH of any mode is refused with reason 9 and leaves the debug session as it is. -/
theorem debug_lockedOut {mode : Nat} (locked : lockedOut s = true) (h : Managed (debugSpec mode) s op i o r) :
    Completed (dispatchAs (debugSpec mode) op i s) o r .authFailed .none (instReason 9)
      ∧ (dispatchAs (debugSpec mode) op i s).cus.session = s.cus.session := by
  obtain ⟨done, cus⟩ := debug_refused (u := managedState s o i) h rfl (debugDo_locked (s := managedState s o i) locked _ _)
  exact ⟨done, by rw [cus]; rfl⟩

/-- Every command but a cold reset leaves a locked-out device locked out. -/
theorem lockedOut_next {c : Instr} {t : State} (locked : lockedOut s = true) (ht : exec c s = .next t) :
    lockedOut t = true ∨ c = .coldReset ∨ ∃ n mv, c = .supplyResetTrip n mv := by
  by_cases cold : c = .coldReset
  · exact .inr (.inl cold)
  by_cases trip : ∃ n mv, c = .supplyResetTrip n mv
  · exact .inr (.inr trip)
  · exact .inl ((lockedOut_iff t).2 (exec_lockoutKept c s cold (fun n mv e => trip ⟨n, mv, e⟩) t ht ((lockedOut_iff s).1 locked)))

/-- Settles O59: a failed token is counted below eight and refused with reason 9 from there on, and every command but a cold reset keeps
the count at eight. -/
theorem eightFailuresLockTokensOut : Obligations.EightFailuresLockTokensOut := by
  unfold Obligations.EightFailuresLockTokensOut
  refine ⟨fun s op i o r free => ⟨fun h n l hr => ?_, fun h mode n l hr => ⟨_, rfl, debugOpen_counted free h mode hr⟩⟩, lockedOut_iff,
    fun s locked => ⟨fun op i o r => ⟨fun h => ?_, ?_⟩, fun c t => lockedOut_next locked, _, rfl, rfl⟩⟩
  · obtain ⟨done, cus⟩ := lcTransition_refused h hr
    exact ⟨_, rfl, done, by rw [cus]; exact countAuth_authFails free rfl⟩
  · obtain ⟨l, hr⟩ := transitionReasons_locked locked o.desc.inLen (decodeToken (inBytes s o i)) i.vddOtp
    obtain ⟨done, cus⟩ := lcTransition_refused h hr
    exact ⟨_, rfl, done, by rw [cus]; rfl⟩
  · intro row hrow h _
    simp only [List.mem_cons, List.not_mem_nil, or_false] at hrow
    obtain rfl | rfl | rfl := hrow
    · exact ⟨_, rfl, debug_lockedOut locked h⟩
    · exact ⟨_, rfl, debug_lockedOut locked h⟩
    · exact ⟨_, rfl, debug_lockedOut locked h⟩

end Sys2Proof.Machine
end

section
/-! O60: a malformed frame is dropped, counted and reported (19_wyrum_groups R434). -/
namespace Sys2Proof.Machine

variable {s : State} {n : Nat} {p : Port} {f : FrameIn}

/-! #### What a device event writes: its own entry, and at most a PME message -/

theorem wakePme_im (s : State) : (wakePme s).im = s.im := by
  simp only [wakePme]; split <;> rfl

theorem wakePme_ports (s : State) : (wakePme s).ports = s.ports := by
  simp only [wakePme]; split <;> rfl

/-- With the record of the PME message taken back, nothing has changed. -/
theorem wakePme_undone (s : State) : { wakePme s with hp := s.hp, outbox := s.outbox } = s := by
  simp only [wakePme]; split <;> rfl

theorem raise_ports (k detail : Nat) (s : State) : (raise_ k detail s).ports = s.ports := by
  simp only [raise_]; split
  · exact wakePme_ports _
  · rfl

theorem raise_pending (k detail : Nat) (s : State) :
    (lookup k (raise_ k detail s).im.events).map (·.pending) = some true := by
  simp only [raise_]; split
  · rw [wakePme_im, lookup_put_self]; rfl
  · rw [lookup_put_self]; rfl

/-- With the event and its PME message taken back, nothing has changed. -/
theorem raise_undone (k detail : Nat) (s : State) :
    { raise_ k detail s with
      im := { (raise_ k detail s).im with events := s.im.events }, hp := s.hp, outbox := s.outbox } = s := by
  simp only [raise_]; split
  · rw [wakePme_im]
    exact congrArg (fun t : State => { t with im := s.im }) (wakePme_undone _)
  · rfl

/-! #### What a counted drop writes: the port's own count -/

theorem dropCount_port (hp : s.ports[n]? = some p) (k : Nat) :
    (dropCount n k s).ports[n]? = some { p with dropped := sat 0xFF (p.dropped + k) } := by
  simp [dropCount, modAt, hp]

theorem dropCount_port_ne {k : Nat} (hk : k ≠ n) (c : Nat) : (dropCount n c s).ports[k]? = s.ports[k]? := by
  rw [dropCount, updPort_ports, modAt, List.getElem?_modify_ne _ _ hk.symm]

/-! #### The frame -/

/-- The four cases of R434; VC is a field of two bits. -/
theorem frameBad_iff (vc : f.vc < 4) : frameBad f = true ↔
    f.delimited ≠ 24 + f.len + (if f.prot then 16 else 0) ∨ 8192 < f.len ∨ f.vc = 3 ∨ f.reserved = true := by
  have three : 2 < f.vc ↔ f.vc = 3 := by omega
  simp only [frameBad, Bool.or_eq_true, bne_iff_ne, decide_eq_true_eq, three, or_assoc]

/-- A malformed frame is counted, and FRAME_DROPPED is raised with the port's DETAIL; no later check is made. -/
theorem frameReceive_of_frameBad (hp : s.ports[n]? = some p) (trained : p.trained = true) (bad : frameBad f = true) :
    frameReceive n f s =
      raise_ (192 + 8 * n + 5) (portDetail { p with dropped := sat 0xFF (p.dropped + 1) }) (dropCount n 1 s) := by
  simp [frameReceive, hp, trained, bad, raisePort, dropCount_port hp 1]

/-- Settles O60: a malformed frame ends at R434's check with a counted drop and the event FRAME_DROPPED, and those two write nothing else. -/
theorem malformedFramesAreDropped : Obligations.MalformedFramesAreDropped := by
  unfold Obligations.MalformedFramesAreDropped
  intro s n p f hp trained vc malformed
  have received := frameReceive_of_frameBad hp trained ((frameBad_iff vc).2 malformed)
  refine ⟨_, congrArg Host.Outcome.next received, ?_, fun k hk => ?_, raise_pending _ _ _, ?_⟩
  · rw [raise_ports]; exact dropCount_port hp 1
  · rw [raise_ports]; exact dropCount_port_ne hk 1
  · exact congrArg (fun t : State => { t with ports := s.ports }) (raise_undone _ _ (dropCount n 1 s))

end Sys2Proof.Machine
end
